-- ==== Sys2Proof/Word.lean ====
section
/-! DEFINITION. The byte, the one machine word that crosses the Game Link and the Switch Port (spec/11, opening). -/

namespace Sys2Proof

/-- One byte of a frame, a payload or a Switch Port report. -/
abbrev Byte := BitVec 8

end Sys2Proof
end

