-- ==== Sys2Proof/Syntax.lean ====
section
/-! DEFINITION. The commands of the part: one constructor for each row of spec/opcode_table.json. -/

namespace Sys2Proof

/-- The two level inputs of the game controller (R164). -/
inductive GameLine where
  | playen
  | tilt
  deriving DecidableEq, Repr

/-- A command. The first eight are events of the blocks (spec/95), the next two are frames that GLK
answers alone (R184, R187), the rest are the requests of R201, each with the payload bytes its frame
declares; the layout of a payload is R205. -/
inductive Instr where
  /-- SWITCH_REPORT (R21, R22, R209): the byte received and the level of its stop bit. -/
  | switchReport (byte : Byte) (stopBit : Bool)
  /-- AWARD_EVALUATION (R27, R41). -/
  | awardEvaluation
  /-- TMU_TICK (R147). -/
  | tmuTick
  /-- TIMER_EXPIRY (R149): the timer whose expiry is taken. -/
  | timerExpiry (timer : Fin 16)
  /-- BDT_TICK (R117). -/
  | bdtTick
  /-- EJECT_EXPIRY (R117): the device whose eject timer expires. -/
  | ejectExpiry (device : Fin 6)
  /-- LINE_EVENT (R164, R165): the input, its new level (high or low) and for how many ns the level held. -/
  | lineEvent (line : GameLine) (high : Bool) (heldNs : Nat)
  /-- RESET (R210): for how many ns RESET_N was low, and PLAYEN, TILT and CS_N at its rise. -/
  | reset (lowNs : Nat) (playen tilt csN : Bool)
  /-- SHORT_FRAME (R184): the whole bytes that arrived in the transaction. -/
  | shortFrame (bytes : List Byte)
  /-- UNKNOWN_REQUEST (R187): a complete frame whose code names no request. -/
  | unknownRequest (code : Byte) (payload : List Byte)
  | nop (payload : List Byte)
  | readGame (payload : List Byte)
  | readPlayer (payload : List Byte)
  | writePlayer (payload : List Byte)
  | adjustScore (payload : List Byte)
  | readCounter (payload : List Byte)
  | writeCounter (payload : List Byte)
  | stageTarget (payload : List Byte)
  | readQueue (payload : List Byte)
  | injectSwitch (payload : List Byte)
  | readRule (payload : List Byte)
  | startGame (payload : List Byte)
  | addPlayer (payload : List Byte)
  | nextBall (payload : List Byte)
  | endGame (payload : List Byte)
  | clearGame (payload : List Byte)
  | setPlayfieldMult (payload : List Byte)
  | startMode (payload : List Byte)
  | stopMode (payload : List Byte)
  | readMode (payload : List Byte)
  | retireMode (payload : List Byte)
  | adjustMode (payload : List Byte)
  | readStack (payload : List Byte)
  | readDevice (payload : List Byte)
  | recount (payload : List Byte)
  | clearDeviceFault (payload : List Byte)
  | lightLock (payload : List Byte)
  | startMultiball (payload : List Byte)
  | addBall (payload : List Byte)
  | allocTimer (payload : List Byte)
  | startTimer (payload : List Byte)
  | stopTimer (payload : List Byte)
  | freeTimer (payload : List Byte)
  | stagePeriod (payload : List Byte)
  | readTimer (payload : List Byte)
  | peekNotice (payload : List Byte)
  | ackNotice (payload : List Byte)
  | setNoticeEnable (payload : List Byte)
  | softReset (payload : List Byte)
  | defineRule (payload : List Byte)
  | defineCounter (payload : List Byte)
  | defineTemplate (payload : List Byte)
  | defineDevice (payload : List Byte)
  | defineThresholds (payload : List Byte)
  | setGameParams (payload : List Byte)
  | setLockParams (payload : List Byte)
  | readParams (payload : List Byte)
  deriving DecidableEq, Repr

end Sys2Proof
end

