-- ==== Sys2Proof/Decode.lean ====
section
/-! DEFINITION. Reading commands: the table word (the table gives no row bits), the bytes of a Game Link
transaction (R183, R184, R187, R201), a Switch Port byte (R209); and the encoder of frames. -/

namespace Sys2Proof

/-- No row of spec/opcode_table.json gives bits, so no table word spells a command (log 2). -/
def decodeTableWord (_nbits _w : Nat) : Option Instr := none

/-- The request a code byte names, with its payload (R201). -/
def requestOfCode (code : Nat) (payload : List Byte) : Option Instr :=
  match code with
  | 0x00 => some (.nop payload)
  | 0x01 => some (.readGame payload)
  | 0x02 => some (.readPlayer payload)
  | 0x03 => some (.writePlayer payload)
  | 0x04 => some (.adjustScore payload)
  | 0x05 => some (.readCounter payload)
  | 0x06 => some (.writeCounter payload)
  | 0x07 => some (.stageTarget payload)
  | 0x08 => some (.readQueue payload)
  | 0x09 => some (.injectSwitch payload)
  | 0x0A => some (.readRule payload)
  | 0x10 => some (.startGame payload)
  | 0x11 => some (.addPlayer payload)
  | 0x12 => some (.nextBall payload)
  | 0x13 => some (.endGame payload)
  | 0x14 => some (.clearGame payload)
  | 0x15 => some (.setPlayfieldMult payload)
  | 0x20 => some (.startMode payload)
  | 0x21 => some (.stopMode payload)
  | 0x22 => some (.readMode payload)
  | 0x23 => some (.retireMode payload)
  | 0x24 => some (.adjustMode payload)
  | 0x25 => some (.readStack payload)
  | 0x30 => some (.readDevice payload)
  | 0x31 => some (.recount payload)
  | 0x32 => some (.clearDeviceFault payload)
  | 0x33 => some (.lightLock payload)
  | 0x34 => some (.startMultiball payload)
  | 0x35 => some (.addBall payload)
  | 0x40 => some (.allocTimer payload)
  | 0x41 => some (.startTimer payload)
  | 0x42 => some (.stopTimer payload)
  | 0x43 => some (.freeTimer payload)
  | 0x44 => some (.stagePeriod payload)
  | 0x45 => some (.readTimer payload)
  | 0x50 => some (.peekNotice payload)
  | 0x51 => some (.ackNotice payload)
  | 0x52 => some (.setNoticeEnable payload)
  | 0x5F => some (.softReset payload)
  | 0x60 => some (.defineRule payload)
  | 0x61 => some (.defineCounter payload)
  | 0x62 => some (.defineTemplate payload)
  | 0x63 => some (.defineDevice payload)
  | 0x64 => some (.defineThresholds payload)
  | 0x65 => some (.setGameParams payload)
  | 0x66 => some (.setLockParams payload)
  | 0x67 => some (.readParams payload)
  | _ => none

/-- Whether a code byte names a request (R201). -/
def codeNamesRequest (code : Byte) : Bool := (requestOfCode code.toNat []).isSome

/-- A transaction whose frame is short, or declares a length above 62 (R184). -/
def frameIsShort (bytes : List Byte) : Bool :=
  match bytes with
  | _ :: len :: rest => decide (62 < len.toNat) || decide (rest.length < len.toNat)
  | _ => true

/-- The command a whole transaction carries: the code, the declared length, that many payload bytes;
whole bytes after them are ignored (R183). Total: a short frame is SHORT_FRAME, a code that names no
request UNKNOWN_REQUEST, in the order of R187. -/
def decodeFrame (bytes : List Byte) : Instr :=
  match bytes with
  | code :: len :: rest =>
    if frameIsShort bytes then .shortFrame bytes
    else (requestOfCode code.toNat (rest.take len.toNat)).getD
      (.unknownRequest code (rest.take len.toNat))
  | _ => .shortFrame bytes

/-- The report of a well-framed Switch Port byte: bit 7 the edge (set is CLOSE), bits 6..0 the switch (R209). -/
def decodeSwitchByte (b : Byte) : Bool × Fin 128 :=
  (b.getLsbD 7, Fin.ofNat 128 b.toNat)

/-- The byte of a report (R209), the inverse of `decodeSwitchByte`. -/
def encodeSwitchByte (close : Bool) (switch : Fin 128) : Byte :=
  BitVec.ofNat 8 (switch.val + if close then 128 else 0)

/-- The code and payload of the frame that carries a command (R201); none for an event and for a short frame. -/
def Instr.frame (i : Instr) : Option (Byte × List Byte) :=
  match i with
  | .switchReport _ _ | .awardEvaluation | .tmuTick | .timerExpiry _ | .bdtTick | .ejectExpiry _
  | .lineEvent _ _ _ | .reset _ _ _ _ | .shortFrame _ => none
  | .unknownRequest code p => some (code, p)
  | .nop p => some (0x00, p)
  | .readGame p => some (0x01, p)
  | .readPlayer p => some (0x02, p)
  | .writePlayer p => some (0x03, p)
  | .adjustScore p => some (0x04, p)
  | .readCounter p => some (0x05, p)
  | .writeCounter p => some (0x06, p)
  | .stageTarget p => some (0x07, p)
  | .readQueue p => some (0x08, p)
  | .injectSwitch p => some (0x09, p)
  | .readRule p => some (0x0A, p)
  | .startGame p => some (0x10, p)
  | .addPlayer p => some (0x11, p)
  | .nextBall p => some (0x12, p)
  | .endGame p => some (0x13, p)
  | .clearGame p => some (0x14, p)
  | .setPlayfieldMult p => some (0x15, p)
  | .startMode p => some (0x20, p)
  | .stopMode p => some (0x21, p)
  | .readMode p => some (0x22, p)
  | .retireMode p => some (0x23, p)
  | .adjustMode p => some (0x24, p)
  | .readStack p => some (0x25, p)
  | .readDevice p => some (0x30, p)
  | .recount p => some (0x31, p)
  | .clearDeviceFault p => some (0x32, p)
  | .lightLock p => some (0x33, p)
  | .startMultiball p => some (0x34, p)
  | .addBall p => some (0x35, p)
  | .allocTimer p => some (0x40, p)
  | .startTimer p => some (0x41, p)
  | .stopTimer p => some (0x42, p)
  | .freeTimer p => some (0x43, p)
  | .stagePeriod p => some (0x44, p)
  | .readTimer p => some (0x45, p)
  | .peekNotice p => some (0x50, p)
  | .ackNotice p => some (0x51, p)
  | .setNoticeEnable p => some (0x52, p)
  | .softReset p => some (0x5F, p)
  | .defineRule p => some (0x60, p)
  | .defineCounter p => some (0x61, p)
  | .defineTemplate p => some (0x62, p)
  | .defineDevice p => some (0x63, p)
  | .defineThresholds p => some (0x64, p)
  | .setGameParams p => some (0x65, p)
  | .setLockParams p => some (0x66, p)
  | .readParams p => some (0x67, p)

/-- The bytes of a transaction that carries the command: code, declared length, payload (R183). -/
def encodeFrame (i : Instr) : Option (List Byte) :=
  match i with
  | .shortFrame bytes => some bytes
  | i => i.frame.map fun f => f.1 :: BitVec.ofNat 8 f.2.length :: f.2

end Sys2Proof
end

