-- ==== Sys2Proof/Machine/State.lean ====
section
/-! DEFINITION. What the part holds: one structure per block, as spec/00 "Block overview" lists their
state, the queue of waiting commands, and the state after power-on. -/

namespace Sys2Proof.Machine

/-! ### Values shared by the blocks -/

/-- A point value: a mantissa 0..9,999 and a scale 0..7 (R55). It is kept as written. -/
structure PointValue where
  mantissa : Nat
  scale : Nat
  deriving DecidableEq, Repr

/-- The edge of a report or of a rule (R22, R33). -/
inductive Edge where
  | close
  | opening
  deriving DecidableEq, Repr

/-- A counter's class and index (R9): one of the current player's 16 values or of the 32 common ones. -/
inductive CounterRef where
  | player (i : Fin 16)
  | common (i : Fin 32)
  deriving DecidableEq, Repr

/-! ### NTU: notices (R193, R208) -/

/-- A notification source (R193). -/
inductive Source where
  | userTimer (t : Fin 16)
  | threshold (i : Fin 8)
  | jackpot
  | extraBall
  | scoreLimit
  | counterNotify (c : Fin 4)
  | modeEnded (slot : Fin 12)
  | modeStarted
  | modeStartFailed
  | lockLit
  | lockMade
  | lockLost
  | ejectReq (d : Fin 6)
  | ballEnd
  | ballSaved
  | multiballStart
  | multiballEnd
  | gameOver
  | trackingFault
  | queueOverrun
  | ejectFailed (d : Fin 6)
  deriving DecidableEq, Repr

/-- NTU: the seven pending lists, list i of group i + 1, oldest first (R193), and the enable set, bit i
for group i + 1 (R195). -/
structure Ntu where
  lists : Vector (List Source) 7
  enabled : BitVec 7
  deriving DecidableEq, Repr

/-! ### GLK: the response buffer (R185) -/

/-- The status of a response (R189). -/
inductive Status where
  | ok
  | clamped
  | unknownRequest
  | badLength
  | outOfRange
  | inGame
  | wrongState
  | noSlot
  | noTimer
  | blocked
  | notEnded
  | notPending
  | noBall
  | faulted
  | queueFull
  | limit
  | undefined
  deriving DecidableEq, Repr

/-- A response frame: echo, status and payload; its length byte is the payload's length (R185). -/
structure Response where
  echo : Byte
  status : Status
  payload : List Byte
  deriving DecidableEq, Repr

/-- GLK: the response buffer, and whether a transaction whose chip select was low at the rise of RESET_N
is still being waited out (R192). -/
structure Glk where
  response : Response
  waiting : Bool
  deriving DecidableEq, Repr

/-! ### SWI: the event queue (R20) -/

/-- The class a queue entry was given at arrival (R22). -/
inductive EntryClass where
  | scoring
  | deviceEntry
  | deviceExit
  deriving DecidableEq, Repr

/-- An entry of the event queue (R20). -/
structure Entry where
  switch : Fin 128
  cls : EntryClass
  count : Nat
  deriving DecidableEq, Repr

/-- SWI: the event queue, head first, and the overrun-reported flag (R20, R26). -/
structure Swi where
  queue : List Entry
  overrun : Bool
  deriving DecidableEq, Repr

/-! ### EVL: the rule table (R33, R34) -/

/-- An award record (R34). -/
inductive Award where
  | score (value : PointValue) (applyPf : Bool)
  | bonus (value : PointValue)
  | bonusMult (n : Nat)
  | advance (counter : CounterRef)
  | jackpot (applyPf : Bool)
  | lightLock
  | startMode (template : Fin 32)
  | extraBall
  deriving DecidableEq, Repr

/-- A rule entry; a field its class does not use is absent from it (R33). -/
inductive Rule where
  | ignored
  | scoring (edge : Edge) (group : Fin 16) (awards : List Award)
  | deviceEntry (device : Fin 6) (group : Fin 16) (awards : List Award)
  | deviceExit (device : Fin 6)
  deriving DecidableEq, Repr

/-- EVL: the rule table, one entry per switch (R33). -/
structure Evl where
  rules : Vector Rule 128
  deriving DecidableEq, Repr

/-! ### PTB: player records and counters (R1, R8) -/

/-- A player record (01, 1.1). `crossed` has bit i set for threshold i (R72, R203). -/
structure Player where
  score : Nat
  scoreLimitReported : Bool
  bonus : Nat
  bonusMult : Nat
  pfMult : Nat
  extraBalls : Nat
  locksLit : Nat
  locksMade : Nat
  counters : Vector Nat 16
  crossed : BitVec 8
  deriving DecidableEq, Repr

/-- What a counter does at its target (R8). -/
inductive AfterReach where
  | repeats
  | hold
  deriving DecidableEq, Repr

/-- The action of a counter's completion (R8, R14). -/
inductive CounterAction where
  | none
  | notify (code : Fin 4)
  | lightLock
  | startMode (template : Fin 32)
  | extraBall
  | bonusMult
  deriving DecidableEq, Repr

/-- A counter definition (R8). -/
structure CounterDef where
  definedTarget : Nat
  target : Nat
  staged : Option Nat
  afterReach : AfterReach
  action : CounterAction
  deriving DecidableEq, Repr

/-- PTB: the records of players 1, 2, ... in order, so that their number is the player count (R1, log 6),
the counter definitions and the common values. -/
structure Ptb where
  players : List Player
  playerDefs : Vector CounterDef 16
  commonDefs : Vector CounterDef 32
  commonValues : Vector Nat 32
  deriving DecidableEq, Repr

/-! ### SCU: the threshold list (R70) -/

/-- A threshold: its value and whether its action is EXTRA_BALL (else NONE). -/
structure Threshold where
  value : Nat
  extraBall : Bool
  deriving DecidableEq, Repr

/-- SCU: the threshold list, lowest value first (R70). -/
structure Scu where
  thresholds : List Threshold
  deriving DecidableEq, Repr

/-! ### MST: templates, context slots and their lists (R74, R77, R79, R80) -/

/-- What EXCLUSIVE and ADDITIVE templates hold beyond the common fields. -/
structure ShotFields where
  duration : Nat
  retrigger : Bool
  targetHits : Nat
  completionValue : PointValue
  deriving DecidableEq, Repr

/-- What HURRY templates hold beyond the common fields. -/
structure HurryFields where
  floor : PointValue
  decay : Nat
  unitExponent : Nat
  decayPeriod : Nat
  deriving DecidableEq, Repr

/-- A template's kind with the fields that kind uses (05, 5.1). -/
inductive TemplateKind where
  | exclusive (f : ShotFields)
  | additive (f : ShotFields)
  | hurry (f : HurryFields)
  deriving DecidableEq, Repr

/-- A defined mode template (R74). `claims` has bit g set for switch group g. -/
structure Template where
  priority : Nat
  kind : TemplateKind
  claims : BitVec 16
  value : PointValue
  multiplier : Nat
  applyPf : Bool
  nextOnCompletion : Option (Fin 32)
  nextOnTimeout : Option (Fin 32)
  exclusionGroup : Fin 8
  carries : Bool
  mbOnly : Bool
  refreshes : Bool
  deriving DecidableEq, Repr

/-- Why a context ended (05, 5.2). -/
inductive EndReason where
  | completed
  | timedOut
  | aborted
  | ballEnded
  | tilted
  | mbEnded
  | gameEnded
  | noTimer
  deriving DecidableEq, Repr

/-- The state of a slot that is not FREE (R77). -/
inductive Phase where
  | running
  | paused
  | parked
  | ended (reason : EndReason)
  deriving DecidableEq, Repr

/-- A context record (05, 5.2). `stored` holds the remaining ticks in PARKED and ENDED; in RUNNING and
PAUSED they are the held timer's count (R77). -/
structure Context where
  phase : Phase
  template : Fin 32
  owner : Nat
  hits : Nat
  value : Nat
  multiplier : Nat
  total : Nat
  timer : Option (Fin 16)
  stored : Nat
  deriving DecidableEq, Repr

/-- MST: the template table (none is undefined), the slots (none is FREE), the mode stack head first,
the pause order and the ended list, oldest first. -/
structure Mst where
  templates : Vector (Option Template) 32
  slots : Vector (Option Context) 12
  stack : List (Fin 12)
  pauseOrder : List (Fin 12)
  ended : List (Fin 12)
  deriving DecidableEq, Repr

/-! ### BDT: ball devices (R103, R106, R107) -/

/-- A present device's kind; the steal policy and keep_room are a LOCK's (R103). -/
inductive DeviceKind where
  | trough
  | lock (stealable keepRoom : Bool)
  | scoop
  deriving DecidableEq, Repr

/-- The definition of a present device (R103). -/
structure DeviceDef where
  kind : DeviceKind
  capacity : Nat
  entrySwitch : Fin 128
  exitSwitch : Fin 128
  timeout : Nat
  deriving DecidableEq, Repr

/-- A device record: its definition (none is absent) and its state (R106). The eject timer is none when
stopped. -/
structure Device where
  definition : Option DeviceDef
  occupancy : Nat
  ejectPending : Nat
  retries : Nat
  ejectTimer : Option Nat
  faulted : Bool
  replaced : Nat
  deriving DecidableEq, Repr

/-- The tracking state (R107). -/
inductive Tracking where
  | uncounted
  | ok
  | fault
  deriving DecidableEq, Repr

/-- BDT: the six device records, balls_in_play and the tracking state; and, the model's own (log 4), whether
the last tick found a device's eject timer at its last count, so that its expiry waits to be taken. -/
structure Bdt where
  devices : Vector Device 6
  ballsInPlay : Nat
  tracking : Tracking
  expiring : Vector Bool 6
  deriving DecidableEq, Repr

/-! ### LMC: claims, multiball and the jackpot (R125, R127, R142) -/

/-- The lock parameters (R125). -/
structure LockParams where
  mbLocks : Nat
  mbBalls : Nat
  litMax : Nat
  litKeeps : Bool
  mbSaveTicks : Nat
  jackpotBase : PointValue
  jackpotStep : PointValue
  jackpotMax : PointValue
  deriving DecidableEq, Repr

/-- LMC: the claim lists (owners, oldest first), the parameters, whether multiball is RUNNING, and J. -/
structure Lmc where
  claims : Vector (List Nat) 6
  params : LockParams
  multiball : Bool
  jackpot : Nat
  deriving DecidableEq, Repr

/-! ### TMU: the timers (R146) -/

/-- What a timer is bound to (R146). -/
inductive Binding where
  | context (slot : Fin 12)
  | hurry (slot : Fin 12)
  | ballSave
  | pfMult
  | user
  deriving DecidableEq, Repr

/-- The kind of a timer (R146). -/
inductive TimerKind where
  | oneShot
  | retrigger
  | periodic
  deriving DecidableEq, Repr

/-- The state of a timer that is not FREE (R146). -/
inductive TimerState where
  | idle
  | running
  | frozen
  deriving DecidableEq, Repr

/-- A timer record that is not FREE (R146). -/
structure Timer where
  state : TimerState
  kind : TimerKind
  period : Nat
  staged : Option Nat
  remaining : Nat
  pauses : Bool
  binding : Binding
  deriving DecidableEq, Repr

/-- TMU: the 16 timer records (none is FREE); and, the model's own (log 3), whether a tick has found a timer
at its last count, so that its expiry, which takes the count to 0, waits to be taken. -/
structure Tmu where
  timers : Vector (Option Timer) 16
  expiring : Vector Bool 16
  deriving DecidableEq, Repr

/-! ### GPC: the game record (R163, R166) -/

/-- The game state (R163). -/
inductive GameState where
  | idle
  | starting
  | inPlay
  | ballOver
  | gameOver
  deriving DecidableEq, Repr

/-- The line state (R164). -/
inductive LineState where
  | normal
  | held
  | tilted
  | slam
  deriving DecidableEq, Repr

/-- The game parameters (R166). -/
structure GameParams where
  ballsPerGame : Nat
  maxPlayers : Nat
  installed : Nat
  ballSaveTicks : Nat
  deriving DecidableEq, Repr

/-- GPC: the game record, the two pins the line state is formed from (R164, log 6), the parameters. -/
structure Gpc where
  game : GameState
  current : Option Nat
  ballNumber : Nat
  tilted : Bool
  playenPin : Bool
  tiltPin : Bool
  params : GameParams
  deriving DecidableEq, Repr

end Sys2Proof.Machine

namespace Sys2Proof.Machine

/-- The whole part: its eleven blocks, the waiting commands (log 1) and the number of uses of the free
order of R96 (log 8). -/
structure State where
  swi : Swi
  evl : Evl
  ptb : Ptb
  scu : Scu
  mst : Mst
  bdt : Bdt
  lmc : Lmc
  tmu : Tmu
  gpc : Gpc
  glk : Glk
  ntu : Ntu
  freeUse : Nat
  pending : List Instr
  deriving DecidableEq, Repr

/-- Reasons the part stops. There are none: every command of the spec is carried out, answered or
ignored (INVENTORY.md, Faults). -/
inductive Fault where
  deriving DecidableEq, Repr

/-- Reasons a command has no meaning. -/
inductive Refusal where
  /-- Raised by an arm of `exec` whose command has no meaning yet; no arm does. Safe. -/
  | notModelled (mnemonic : String)
  deriving DecidableEq, Repr

/-- An empty, idle, absent device (R105, R124). -/
def Device.absent : Device := ⟨none, 0, 0, 0, none, false, 0⟩

/-- A counter definition after power-on (R8). -/
def CounterDef.powerOn : CounterDef := ⟨0, 0, none, .repeats, .none⟩

/-- The lock parameters after power-on (R125). -/
def LockParams.powerOn : LockParams := ⟨3, 3, 1, true, 0, ⟨1, 6⟩, ⟨5, 5⟩, ⟨1, 7⟩⟩

/-- The game parameters after power-on (R166). -/
def GameParams.powerOn : GameParams := ⟨3, 4, 4, 0⟩

/-- The part right after power-on (R210), with PLAYEN high, TILT low and CS_N high (log 5). -/
def State.reset : State where
  swi := ⟨[], false⟩
  evl := ⟨.replicate 128 .ignored⟩
  ptb := ⟨[], .replicate 16 .powerOn, .replicate 32 .powerOn, .replicate 32 0⟩
  scu := ⟨[]⟩
  mst := ⟨.replicate 32 none, .replicate 12 none, [], [], []⟩
  bdt := ⟨.replicate 6 .absent, 0, .uncounted, .replicate 6 false⟩
  lmc := ⟨.replicate 6 [], .powerOn, false, 0⟩
  tmu := ⟨.replicate 16 none, .replicate 16 false⟩
  gpc := ⟨.idle, none, 0, false, true, false, .powerOn⟩
  glk := ⟨⟨0x00, .ok, []⟩, false⟩
  ntu := ⟨.replicate 7 [], BitVec.allOnes 7⟩
  freeUse := 0
  pending := []

end Sys2Proof.Machine
end

