-- ==== Sys2Proof/Machine/Operands.lean ====
section
/-! DEFINITION. The bytes of payloads: reading operands, and the codes and fields of responses (R203 to R208). -/

namespace Sys2Proof.Machine

/-! ### Numbers in a payload -/

/-- The byte at an offset of a payload, as a number. -/
def byteAt (p : List Byte) (i : Nat) : Nat := (p.getD i 0).toNat

/-- The little-endian number of `n` bytes at an offset (R203). -/
def numberAt (p : List Byte) (i : Nat) : Nat → Nat
  | 0 => 0
  | n + 1 => byteAt p i + 256 * numberAt p (i + 1) n

/-- A number as `n` little-endian bytes (R203). -/
def numberBytes : Nat → Nat → List Byte
  | 0, _ => []
  | n + 1, v => BitVec.ofNat 8 v :: numberBytes n (v / 256)

/-- A small number as its byte. -/
def small (v : Nat) : Byte := BitVec.ofNat 8 v

/-- A number as an index below `n`, when it is one. -/
def index? (n v : Nat) : Option (Fin n) := if h : v < n then some ⟨v, h⟩ else none

/-- The mark of an absent template, timer, slot, switch, device, edge or group (R203). -/
def absentMark : Byte := 0xFF

/-! ### Point values (R55) -/

/-- The largest score (R57). -/
def scoreMax : Nat := 999999999999

/-- The largest bonus (R64). -/
def bonusMax : Nat := 99999999

/-- The worth of a point value: the mantissa times ten to the scale (R55). -/
def PointValue.worth (v : PointValue) : Nat := v.mantissa * 10 ^ v.scale

/-- Whether a point value's mantissa and scale are in range (R55). -/
def PointValue.inRange (v : PointValue) : Bool := decide (v.mantissa ≤ 9999) && decide (v.scale ≤ 7)

/-- The point value at an offset of a payload: mantissa (2), scale (R203). -/
def rawPointAt (p : List Byte) (i : Nat) : PointValue := ⟨numberAt p i 2, byteAt p (i + 2)⟩

/-- The point value at an offset, when it is in range. -/
def pointAt? (p : List Byte) (i : Nat) : Option PointValue :=
  if (rawPointAt p i).inRange then some (rawPointAt p i) else none

/-- A point value's three bytes (R203). -/
def PointValue.bytes (v : PointValue) : List Byte := numberBytes 2 v.mantissa ++ [small v.scale]

/-! ### Codes read from a request (R203, R204) -/

/-- A yes/no or set/clear byte (R203). -/
def flag? : Nat → Option Bool
  | 0 => some false
  | 1 => some true
  | _ => none

/-- The edge code (R204). -/
def edge? : Nat → Option Edge
  | 0 => some .opening
  | 1 => some .close
  | _ => none

/-- The counter class and index (R9, R204): none when the class is unknown or the index beyond its page. -/
def counterRef? (cls idx : Nat) : Option CounterRef :=
  match cls with
  | 0 => (index? 16 idx).map .player
  | 1 => (index? 32 idx).map .common
  | _ => none

/-- The after_reach code (R204). -/
def afterReach? : Nat → Option AfterReach
  | 0 => some .repeats
  | 1 => some .hold
  | _ => none

/-- The counter action code with its operand (R8, R204). -/
def counterAction? (code operand : Nat) : Option CounterAction :=
  match code with
  | 0 => some .none
  | 1 => (index? 4 operand).map .notify
  | 2 => some .lightLock
  | 3 => (index? 32 operand).map .startMode
  | 4 => some .extraBall
  | 5 => some .bonusMult
  | _ => Option.none

/-- The timer kind code (R204). -/
def timerKind? : Nat → Option TimerKind
  | 0 => some .oneShot
  | 1 => some .retrigger
  | 2 => some .periodic
  | _ => none

/-- An optional template number: 0xFF is absent, a number above 31 out of range (R75, R203). -/
def nextTemplate? (v : Nat) : Option (Option (Fin 32)) :=
  if v = 255 then some none else (index? 32 v).map some

/-! ### Award records (R34, R205) -/

/-- The award record at an offset of a payload: the kind, then four operand bytes; none when the kind is
unknown or an operand is outside the ranges of R34. -/
def awardAt? (p : List Byte) (i : Nat) : Option Award :=
  match byteAt p i with
  | 0 => (pointAt? p (i + 1)).bind fun v => (flag? (byteAt p (i + 4))).map (.score v)
  | 1 => (pointAt? p (i + 1)).map .bonus
  | 2 => if 1 ≤ byteAt p (i + 1) ∧ byteAt p (i + 1) ≤ 9 then some (.bonusMult (byteAt p (i + 1))) else none
  | 3 => (counterRef? (byteAt p (i + 1)) (byteAt p (i + 2))).map .advance
  | 4 => (flag? (byteAt p (i + 1))).map .jackpot
  | 5 => some .lightLock
  | 6 => (index? 32 (byteAt p (i + 1))).map .startMode
  | 7 => some .extraBall
  | _ => none

/-- The `n` award records from an offset on, in order. -/
def awardsAt? (p : List Byte) (i : Nat) : Nat → Option (List Award)
  | 0 => some []
  | n + 1 => (awardAt? p i).bind fun a => (awardsAt? p (i + 5) n).map (a :: ·)

/-- A counter's class and index bytes (R204). -/
def CounterRef.bytes : CounterRef → List Byte
  | .player i => [0, small i.val]
  | .common i => [1, small i.val]

/-- A yes/no byte. -/
def flagByte (b : Bool) : Byte := if b then 1 else 0

/-- The five bytes of an award record; unused bytes read 0 (R203, R205). -/
def Award.bytes : Award → List Byte
  | .score v pf => [0] ++ v.bytes ++ [flagByte pf]
  | .bonus v => [1] ++ v.bytes ++ [0]
  | .bonusMult n => [2, small n, 0, 0, 0]
  | .advance c => [3] ++ c.bytes ++ [0, 0]
  | .jackpot pf => [4, flagByte pf, 0, 0, 0]
  | .lightLock => [5, 0, 0, 0, 0]
  | .startMode t => [6, small t.val, 0, 0, 0]
  | .extraBall => [7, 0, 0, 0, 0]

/-- An award list as its count and records (R206). -/
def awardListBytes (l : List Award) : List Byte := small l.length :: l.flatMap Award.bytes

/-! ### Codes of a response (R202, R204) -/

/-- The status code (R202). -/
def Status.code : Status → Byte
  | .ok => 0
  | .clamped => 1
  | .unknownRequest => 2
  | .badLength => 3
  | .outOfRange => 4
  | .inGame => 5
  | .wrongState => 6
  | .noSlot => 7
  | .noTimer => 8
  | .blocked => 9
  | .notEnded => 10
  | .notPending => 11
  | .noBall => 12
  | .faulted => 13
  | .queueFull => 14
  | .limit => 15
  | .undefined => 16

/-- The bytes of a response frame (R200): echo, status, length, payload. -/
def Response.bytes (r : Response) : List Byte :=
  r.echo :: r.status.code :: small r.payload.length :: r.payload

/-- The game state code. -/
def GameState.code : GameState → Byte
  | .idle => 0
  | .starting => 1
  | .inPlay => 2
  | .ballOver => 3
  | .gameOver => 4

/-- The line state code. -/
def LineState.code : LineState → Byte
  | .normal => 0
  | .held => 1
  | .tilted => 2
  | .slam => 3

/-- The edge code. -/
def Edge.code : Edge → Byte
  | .opening => 0
  | .close => 1

/-- The after_reach code. -/
def AfterReach.code : AfterReach → Byte
  | .repeats => 0
  | .hold => 1

/-- The counter action code and its operand, 0 where the action has none. -/
def CounterAction.bytes : CounterAction → List Byte
  | .none => [0, 0]
  | .notify c => [1, small c.val]
  | .lightLock => [2, 0]
  | .startMode t => [3, small t.val]
  | .extraBall => [4, 0]
  | .bonusMult => [5, 0]

/-- The context state code of a slot that is not FREE. -/
def Phase.code : Phase → Byte
  | .running => 1
  | .paused => 2
  | .parked => 3
  | .ended _ => 4

/-- The end reason code. -/
def EndReason.code : EndReason → Byte
  | .completed => 1
  | .timedOut => 2
  | .aborted => 3
  | .ballEnded => 4
  | .tilted => 5
  | .mbEnded => 6
  | .gameEnded => 7
  | .noTimer => 8

/-- The end reason byte of a context: 0 is absent. -/
def Phase.reasonByte : Phase → Byte
  | .ended r => r.code
  | _ => 0

/-- The tracking state code. -/
def Tracking.code : Tracking → Byte
  | .uncounted => 0
  | .ok => 1
  | .fault => 2

/-- The timer state code of a timer that is not FREE. -/
def TimerState.code : TimerState → Byte
  | .idle => 1
  | .running => 2
  | .frozen => 3

/-- The timer kind code. -/
def TimerKind.code : TimerKind → Byte
  | .oneShot => 0
  | .retrigger => 1
  | .periodic => 2

/-- The binding code. -/
def Binding.code : Binding → Byte
  | .context _ => 0
  | .hurry _ => 1
  | .ballSave => 2
  | .pfMult => 3
  | .user => 4

/-- The binding slot byte: absent for a binding without a slot. -/
def Binding.slotByte : Binding → Byte
  | .context slot => small slot.val
  | .hurry slot => small slot.val
  | _ => absentMark

/-- The device kind code. -/
def DeviceKind.code : DeviceKind → Byte
  | .trough => 1
  | .lock _ _ => 2
  | .scoop => 3

/-- The steal policy and keep_room bytes: absent for a TROUGH and a SCOOP (R207). -/
def DeviceKind.lockBytes : DeviceKind → List Byte
  | .lock stealable keepRoom => [flagByte stealable, flagByte keepRoom]
  | _ => [absentMark, absentMark]

/-! ### Vectors (R193, R208) -/

/-- The group of a source, 0 standing for group 1. -/
def Source.group : Source → Fin 7
  | .userTimer _ => 0
  | .threshold _ | .jackpot | .extraBall | .scoreLimit | .counterNotify _ => 1
  | .modeEnded _ | .modeStarted | .modeStartFailed => 2
  | .lockLit | .lockMade | .lockLost => 3
  | .ejectReq _ => 4
  | .ballEnd | .ballSaved | .multiballStart | .multiballEnd | .gameOver => 5
  | .trackingFault | .queueOverrun | .ejectFailed _ => 6

/-- The index of a source in its group. -/
def Source.index : Source → Nat
  | .userTimer t => t.val
  | .threshold i => i.val
  | .jackpot => 8
  | .extraBall => 9
  | .scoreLimit => 10
  | .counterNotify c => 11 + c.val
  | .modeEnded slot => slot.val
  | .modeStarted => 12
  | .modeStartFailed => 13
  | .lockLit => 0
  | .lockMade => 1
  | .lockLost => 2
  | .ejectReq d => d.val
  | .ballEnd => 0
  | .ballSaved => 1
  | .multiballStart => 2
  | .multiballEnd => 3
  | .gameOver => 4
  | .trackingFault => 0
  | .queueOverrun => 1
  | .ejectFailed d => 2 + d.val

/-- The vector of a source: the group number times 16 plus the index (R193). -/
def Source.vector (x : Source) : Nat := (x.group.val + 1) * 16 + x.index

/-- The source a vector names, when it names one (R193, R208). -/
def sourceOf? (v : Nat) : Option Source :=
  match v / 16 with
  | 1 => (index? 16 (v % 16)).map .userTimer
  | 2 =>
    match v % 16 with
    | 8 => some .jackpot
    | 9 => some .extraBall
    | 10 => some .scoreLimit
    | i => if i < 8 then (index? 8 i).map .threshold else (index? 4 (i - 11)).map .counterNotify
  | 3 =>
    match v % 16 with
    | 12 => some .modeStarted
    | 13 => some .modeStartFailed
    | i => (index? 12 i).map .modeEnded
  | 4 =>
    match v % 16 with
    | 0 => some .lockLit
    | 1 => some .lockMade
    | 2 => some .lockLost
    | _ => none
  | 5 => (index? 6 (v % 16)).map .ejectReq
  | 6 =>
    match v % 16 with
    | 0 => some .ballEnd
    | 1 => some .ballSaved
    | 2 => some .multiballStart
    | 3 => some .multiballEnd
    | 4 => some .gameOver
    | _ => none
  | 7 =>
    match v % 16 with
    | 0 => some .trackingFault
    | 1 => some .queueOverrun
    | i => (index? 6 (i - 2)).map .ejectFailed
  | _ => none

end Sys2Proof.Machine
end

