-- ==== Sys2Proof/Machine/Flags.lean ====
section
/-! DEFINITION. What is formed from the state and not held: the line state, the conditions the rules
read, the indicators of responses, the outputs ATTN_N and MISO. -/

namespace Sys2Proof.Machine

/-- The line state formed from PLAYEN and TILT (R164). -/
def lineStateOf (playen tilt : Bool) : LineState :=
  match playen, tilt with
  | true, false => .normal
  | false, false => .held
  | true, true => .tilted
  | false, true => .slam

/-- The line state GPC holds (R163, log 6). -/
def State.lineState (s : State) : LineState := lineStateOf s.gpc.playenPin s.gpc.tiltPin

/-- The player count (R163): the number of records present (R1, log 6). -/
def State.playerCount (s : State) : Nat := s.ptb.players.length

/-- The current player's number, 0 when absent (a number no record has). -/
def State.currentPlayer (s : State) : Nat := s.gpc.current.getD 0

/-- Whether the game is in a state in which a game is in progress: STARTING, IN_PLAY or BALL_OVER. -/
def GameState.inProgress : GameState → Bool
  | .starting | .inPlay | .ballOver => true
  | .idle | .gameOver => false

/-- Whether a hit scores: IN_PLAY on a ball that is not tilted (R42). -/
def State.scores (s : State) : Bool := decide (s.gpc.game = .inPlay) && !s.gpc.tilted

/-- The pause condition of a timer (R148). -/
def State.pauseHolds (s : State) (t : Timer) : Bool :=
  t.pauses && (decide (s.lineState = .held) || decide (s.gpc.game ≠ .inPlay) || decide (s.bdt.ballsInPlay = 0))

/-- Whether a timer counts at a tick: RUNNING and not paused (R147). -/
def State.counts (s : State) (t : Timer) : Bool := decide (t.state = .running) && !s.pauseHolds t

/-- Whether a tick takes a timer to its expiry: it counts and stands at its last count (R147, R149). -/
def State.expires (s : State) (t : Timer) : Bool := s.counts t && decide (t.remaining ≤ 1)

/-- The timer that holds a binding. -/
def State.boundTimer? (s : State) (b : Binding) : Option (Fin 16) :=
  (List.finRange 16).find? fun t =>
    match s.tmu.timers[t] with
    | some r => decide (r.binding = b)
    | none => false

/-- Whether ball save is active (R115). -/
def State.ballSaveActive (s : State) : Bool := (s.boundTimer? .ballSave).isSome

/-- A device's capacity, 0 when absent (R103). -/
def Device.capacity (d : Device) : Nat := (d.definition.map DeviceDef.capacity).getD 0

/-- Whether a device is present (R103). -/
def Device.present (d : Device) : Bool := d.definition.isSome

/-- The sum of eject_pending over READY devices (R111). -/
def State.readyPending (s : State) : Nat :=
  ((List.finRange 6).map fun d => if s.bdt.devices[d].faulted then 0 else s.bdt.devices[d].ejectPending).sum

/-- The sum of eject_pending over all devices (R135). -/
def State.allPending (s : State) : Nat :=
  ((List.finRange 6).map fun d => s.bdt.devices[d].ejectPending).sum

/-- The sum of all device occupancies (R107). -/
def State.heldBalls (s : State) : Nat :=
  ((List.finRange 6).map fun d => s.bdt.devices[d].occupancy).sum

/-- The ball-end condition (R111 step 3). -/
def State.ballEndHolds (s : State) : Bool :=
  decide (s.bdt.ballsInPlay = 0) && decide (s.readyPending = 0)

/-- The fill state code of the event queue (R30, R204). -/
def fillCode (n : Nat) : Byte :=
  if n = 0 then 0 else if n ≤ 23 then 1 else if n ≤ 31 then 2 else 3

/-- The counter indicator code: BELOW, AT, ABOVE_REPEAT_EDGE (R17). -/
def indicatorCode (value target : Nat) : Byte :=
  if value < target then 0 else if value = target then 1 else 2

/-- Whether a group (0 stands for group 1) is enabled and holds a source. -/
def Ntu.calls (n : Ntu) (g : Fin 7) : Bool := n.enabled.getLsbD g && !(n.lists[g]).isEmpty

/-- ATTN_N is low while an enabled group has a non-empty pending list (R196). -/
def State.attnLow (s : State) : Bool := (List.finRange 7).any s.ntu.calls

/-- The vector PEEK_NOTICE returns: the head of the highest enabled group that is not empty, or 0 (R197). -/
def Ntu.nextVector (n : Ntu) : Nat :=
  match (List.finRange 7).reverse.find? n.calls with
  | some g => match n.lists[g] with
    | x :: _ => x.vector
    | [] => 0
  | none => 0

/-- The notice group set of the non-empty lists, enabled or not (R197, R203). -/
def Ntu.groupSet (n : Ntu) : Nat :=
  ((List.finRange 7).map fun g => if (n.lists[g]).isEmpty then 0 else 2 ^ g.val).sum

/-- The byte on MISO in position k of a transaction (R183): the response frame, then 0x00; 0xFF in every
position when the transaction begins before the response is formed (R185, log 18). The transaction that is waited
out after a reset shifts out the response frame too: the spec does not say what it shifts out, the model's
choice (R192, log 20). -/
def State.misoByte (s : State) (early : Bool) (k : Nat) : Byte :=
  if early then 0xFF else s.glk.response.bytes.getD k 0

/-- MISO in position k by the levels of RESET_N and CS_N: none is high impedance, as it is while RESET_N is
low and while CS_N is high (R183, R192, R210). That a low pulse on RESET_N shorter than 1 µs releases it too is the
model's choice: R210 gives such a pulse no effect (log 21). -/
def State.miso (s : State) (resetN csN early : Bool) (k : Nat) : Option Byte :=
  if resetN = true ∧ csN = false then some (s.misoByte early k) else none

/-- Whether the part pulls ATTN_N low, by the level of RESET_N: it is released while RESET_N is low (R192,
R196, R210), during a pulse too short to reset too: the model's choice (R210, log 21). -/
def State.attnPulled (s : State) (resetN : Bool) : Bool := resetN && s.attnLow

end Sys2Proof.Machine
end

