-- ==== Sys2Proof/Machine/Ops.lean ====
section
/-! DEFINITION. The operations the blocks share: raising a notice, answering a request, reaching player
records, and the timer pool. -/

namespace Sys2Proof.Machine

/-- A table with every entry replaced by a function of it. -/
def mapTable {α β : Type} {n : Nat} (f : α → β) (v : Vector α n) : Vector β n :=
  Vector.ofFn fun i => f v[i]

/-! ### Notices (R194) -/

/-- A source raised in NTU: it joins the tail of its group's list unless it is already pending (R194). -/
def Ntu.raise (x : Source) (n : Ntu) : Ntu :=
  if x ∈ n.lists[x.group] then n
  else { n with lists := n.lists.set x.group.val (n.lists[x.group] ++ [x]) x.group.isLt }

/-- A source raised by a block (R194). -/
def State.raise (x : Source) (s : State) : State := { s with ntu := s.ntu.raise x }

/-! ### Answers of the Game Link (R183, R187) -/

/-- An owner's answer to a request. -/
structure Reply where
  status : Status
  payload : List Byte
  deriving DecidableEq, Repr

/-- A refusal, or an answer without a payload. -/
def Reply.bare (st : Status) : Reply := ⟨st, []⟩

/-- An OK with a payload. -/
def Reply.ok (p : List Byte) : Reply := ⟨.ok, p⟩

/-- The response buffer is replaced (R183, R185). -/
def State.answer (s : State) (echo : Byte) (st : Status) (p : List Byte) : State :=
  { s with glk := { s.glk with response := ⟨echo, st, p⟩ } }

/-- What the end of a transaction does: the one whose chip select was low at the rise of RESET_N is
waited out and takes nothing (R192); any other is judged. -/
def State.transaction (s : State) (judge : State → State) : State :=
  if s.glk.waiting then { s with glk := { s.glk with waiting := false } } else judge s

/-- A complete frame judged in the order of R187: the declared length against the length its request
takes (R184, R200), IN_GAME for a configuration request outside IDLE (R188), then its owner. -/
def takeRequest (code : Byte) (config : Bool) (takes : Nat) (owner : State → State × Reply)
    (payload : List Byte) (s : State) : Host.Outcome State Fault Refusal :=
  .next (s.transaction fun s =>
    if 62 < payload.length ∨ payload.length ≠ takes then s.answer code .badLength []
    else if config = true ∧ s.gpc.game ≠ .idle then s.answer code .inGame []
    else (owner s).1.answer code (owner s).2.status (owner s).2.payload)

/-! ### Player records -/

/-- The record of player p (R1). -/
def State.player? (s : State) (p : Nat) : Option Player :=
  match p with
  | 0 => none
  | n + 1 => s.ptb.players[n]?

/-- Player p's record changed; nothing happens where there is none (log 11). -/
def State.modifyPlayer (s : State) (p : Nat) (f : Player → Player) : State :=
  match p with
  | 0 => s
  | n + 1 => { s with ptb := { s.ptb with players := s.ptb.players.modify n f } }

/-- A record as created (R1). -/
def Player.created : Player := ⟨0, false, 0, 1, 1, 0, 0, 0, .replicate 16 0, 0⟩

/-- The player check of a request that names one: a number outside 1..6 is OUT_OF_RANGE, one without a
record WRONG_STATE (R1). -/
def State.checkPlayer (s : State) (p : Nat) : Except Status Player :=
  if p = 0 ∨ 6 < p then .error .outOfRange
  else match s.player? p with
    | some r => .ok r
    | none => .error .wrongState

/-- One more extra ball for player p: below 9 the count rises and EXTRA_BALL is raised, at 9 nothing
happens (R54, R173). -/
def State.giveExtraBall (s : State) (p : Nat) : State :=
  match s.player? p with
  | some r =>
    if r.extraBalls < 9 then
      (s.modifyPlayer p fun r => { r with extraBalls := r.extraBalls + 1 }).raise .extraBall
    else s
  | none => s

/-! ### The timer pool (R152 to R154) -/

/-- A timer record written; an expiry of the timer that waited to be taken does not happen (R7, R92, R156 to
R158, log 3). -/
def State.setTimer (s : State) (t : Fin 16) (r : Option Timer) : State :=
  { s with tmu := ⟨s.tmu.timers.set t.val r t.isLt, s.tmu.expiring.set t.val false t.isLt⟩ }

/-- A held timer restarted, frozen, thawed or stopped. -/
def State.modifyTimer (s : State) (t : Fin 16) (f : Timer → Timer) : State :=
  s.setTimer t (s.tmu.timers[t].map f)

/-- A held timer's record amended while it counts on; an expiry that waits to be taken stands (R100, R159, log 3). -/
def State.amendTimer (s : State) (t : Fin 16) (f : Timer → Timer) : State :=
  { s with tmu := { s.tmu with timers := s.tmu.timers.set t.val (s.tmu.timers[t].map f) t.isLt } }

/-- The lowest-numbered FREE timer (R153). -/
def State.freeTimer? (s : State) : Option (Fin 16) :=
  (List.finRange 16).find? fun t => s.tmu.timers[t].isNone

/-- A timer given back to the pool; releasing a FREE timer changes nothing (R154). -/
def State.releaseTimer (s : State) (t : Fin 16) : State := s.setTimer t none

/-- The timer of an owner released, when it holds one. -/
def State.releaseHeld (s : State) (t : Option (Fin 16)) : State :=
  match t with
  | some t => s.releaseTimer t
  | none => s

/-- Every timer with a binding released. -/
def State.releaseBinding (s : State) (b : Binding) : State :=
  { s with tmu := { s.tmu with timers := mapTable (fun t : Option Timer =>
      t.bind fun r => if r.binding = b then none else some r) s.tmu.timers } }

/-- Every timer that is not USER released (R162). -/
def State.releaseBound (s : State) : State :=
  { s with tmu := { s.tmu with timers := mapTable (fun t : Option Timer =>
      t.bind fun r => if r.binding = .user then some r else none) s.tmu.timers } }

/-- The count loaded from the period at a start, a restart or a reload: a staged period becomes the
period first (R152). -/
def Timer.load (r : Timer) : Timer :=
  { r with period := r.staged.getD r.period, staged := none, remaining := r.staged.getD r.period }

/-- A context's timer frozen (R154). -/
def Timer.freeze (r : Timer) : Timer := if r.state = .running then { r with state := .frozen } else r

/-- A context's timer thawed (R154). -/
def Timer.thaw (r : Timer) : Timer := if r.state = .frozen then { r with state := .running } else r

/-- A ONE_SHOT timer of ball save or of the playfield multiplier (R6, R114, R137). -/
def Timer.oneShotFor (b : Binding) (ticks : Nat) : Timer := ⟨.running, .oneShot, ticks, none, ticks, true, b⟩

/-- The timer with a binding given `ticks`: the one held is restarted with a new period, else the lowest
FREE timer is allocated; the answer says whether there was one (R6, R137, R153, log 13). -/
def State.giveBoundTimer (s : State) (b : Binding) (ticks : Nat) : State × Bool :=
  match s.boundTimer? b with
  | some t =>
    (s.modifyTimer t fun r => { r with period := ticks, staged := none, remaining := ticks, state := .running }, true)
  | none =>
    match s.freeTimer? with
    | some t => (s.setTimer t (some (.oneShotFor b ticks)), true)
    | none => (s, false)

end Sys2Proof.Machine
end

