-- ==== Sys2Proof/Machine/Ejects.lean ====
section
/-! DEFINITION. The parts of BDT and LMC that other blocks use: the eject request (R116), the tracking
fault (R108), ball save (R115), lock lighting (R128) and claim lists. -/

namespace Sys2Proof.Machine

/-- A device's record. -/
def State.device (s : State) (d : Fin 6) : Device := s.bdt.devices[d]

/-- A device's record changed. -/
def State.modifyDevice (s : State) (d : Fin 6) (f : Device → Device) : State :=
  { s with bdt := { s.bdt with devices := s.bdt.devices.set d.val (f (s.device d)) d.isLt } }

/-- A device's eject timeout. -/
def Device.timeout (d : Device) : Nat := (d.definition.map DeviceDef.timeout).getD 0

/-- A tracking fault: the tracking state becomes FAULT and TRACKING_FAULT is raised (R108). -/
def State.trackingFault (s : State) : State :=
  ({ s with bdt := { s.bdt with tracking := .fault } }).raise .trackingFault

/-- The number of balls an eject request for n adds: none from an absent or FAULTED device, else the
lesser of n and the balls not already asked for (R116). -/
def Device.adds (d : Device) (n : Nat) : Nat :=
  if d.present = true ∧ d.faulted = false then min n (d.occupancy - d.ejectPending) else 0

/-- An eject request for n balls from device d: eject_pending rises by what the device can add; from 0
the retries are cleared, the timer starts and EJECT_REQ(d) is raised. The answer carries the number added (R116). -/
def State.requestEject (s : State) (d : Fin 6) (n : Nat) : State × Nat :=
  let added := (s.device d).adds n
  if added = 0 then (s, 0)
  else if (s.device d).ejectPending = 0 then
    ((s.modifyDevice d fun r =>
      { r with ejectPending := added, retries := 0, ejectTimer := some r.timeout }).raise (.ejectReq d), added)
  else (s.modifyDevice d fun r => { r with ejectPending := r.ejectPending + added }, added)

/-- Ball save given for a number of ticks (R114, R137, R153). -/
def State.giveBallSave (s : State) (ticks : Nat) : State := (s.giveBoundTimer .ballSave ticks).1

/-- A device's claim list, oldest first. -/
def State.claimsOf (s : State) (d : Fin 6) : List Nat := s.lmc.claims[d]

/-- A device's claim list written. -/
def State.setClaims (s : State) (d : Fin 6) (l : List Nat) : State :=
  { s with lmc := { s.lmc with claims := s.lmc.claims.set d.val l d.isLt } }

/-- Every claim list emptied (R134). -/
def State.clearClaims (s : State) : State := { s with lmc := { s.lmc with claims := .replicate 6 [] } }

/-- Whether a lock can be lit for the current player (R128). -/
def State.canLight (s : State) : Bool :=
  match s.player? s.currentPlayer with
  | some r =>
    !s.lmc.multiball && decide (r.locksLit < s.lmc.params.litMax) &&
      decide (r.locksLit + r.locksMade < s.lmc.params.mbLocks)
  | none => false

/-- Lock lighting for the current player: ignored when a condition fails (R128). -/
def State.lightLock (s : State) : State :=
  if s.canLight then
    (s.modifyPlayer s.currentPlayer fun r => { r with locksLit := r.locksLit + 1 }).raise .lockLit
  else s

end Sys2Proof.Machine
end

