-- ==== Sys2Proof/Config.lean ====
section
/-! DEFINITION. The one choice the spec leaves open, as a constant without a body. -/

namespace Sys2Proof

/-- FREE VALUE (log 8). R96 makes one return per exclusion group when the mb_only contexts have ended
and gives the groups no order. The groups are taken in rising order of this key, a function of the
number of the use and the group; nothing is known of it, so any order is possible. -/
opaque Config.groupReturnKey : Nat → Nat → Nat

end Sys2Proof
end

