-- ==== Sys2Proof/Machine/Scores.lean ====
section
/-! DEFINITION. SCU: the award product, the credit and its checks, bonus, decay, thresholds (04). -/

namespace Sys2Proof.Machine

/-- The award product W × k × m × f, formed exactly and clamped at SCORE_MAX (R56). -/
def awardPoints (worth count mult pf : Nat) : Nat := min (worth * count * mult * pf) scoreMax

/-- The playfield factor of a payment: the current player's pf_mult when it applies, else 1 (R56). -/
def State.pfFactor (s : State) (applyPf : Bool) : Nat :=
  if applyPf then ((s.player? s.currentPlayer).map Player.pfMult).getD 1 else 1

/-- One threshold of the check: crossed when it is not in the set and lies above the old score and not
above the new one (R60). -/
def Player.crosses (r : Player) (old new : Nat) (i : Fin 8) (t : Threshold) : Bool :=
  !r.crossed.getLsbD i && decide (old < t.value) && decide (t.value ≤ new)

/-- What a crossing does: the index joins the set, THRESHOLD(i) is raised, the action is performed for
the player whose score crossed (R60). -/
def State.crossThreshold (s : State) (p : Nat) (i : Fin 8) (t : Threshold) : State :=
  let s := (s.modifyPlayer p fun r => { r with crossed := r.crossed ||| BitVec.twoPow 8 i }).raise (.threshold i)
  if t.extraBall then s.giveExtraBall p else s

/-- The check of one index of the list (R60). -/
def State.checkThreshold (s : State) (p old new : Nat) (i : Fin 8) : State :=
  match s.scu.thresholds[i.val]?, s.player? p with
  | some t, some r => if r.crosses old new i t then s.crossThreshold p i t else s
  | _, _ => s

/-- The threshold check of a credit, in the order of the indices (R60). -/
def State.thresholdCheck (s : State) (p old new : Nat) : State :=
  (List.finRange 8).foldl (fun s i => s.checkThreshold p old new i) s

/-- A context's total scored raised by a credit made for it (R59). -/
def State.addTotal (s : State) (slot : Fin 12) (points : Nat) : State :=
  match s.mst.slots[slot] with
  | some c => { s with mst := { s.mst with
      slots := s.mst.slots.set slot.val (some { c with total := min (c.total + points) scoreMax }) slot.isLt } }
  | none => s

/-- The total of the context that pays, when one does (R59). -/
def State.addPayer (s : State) (payer : Option (Fin 12)) (points : Nat) : State :=
  match payer with
  | some slot => s.addTotal slot points
  | none => s

/-- The limit check: the first credit that exceeds SCORE_MAX sets the flag and raises SCORE_LIMIT (R58). -/
def State.limitCheck (s : State) (p : Nat) (r : Player) (points : Nat) : State :=
  if scoreMax < r.score + points ∧ r.scoreLimitReported = false then
    (s.modifyPlayer p fun r => { r with scoreLimitReported := true }).raise .scoreLimit
  else s

/-- A credit of `points` to player p: the score held at SCORE_MAX, then the limit check, the total of
the context that pays, and the threshold check, in that order (R57). -/
def State.credit (s : State) (p points : Nat) (payer : Option (Fin 12)) : State :=
  match s.player? p with
  | none => s
  | some r =>
    let new := min (r.score + points) scoreMax
    let s := s.modifyPlayer p fun r => { r with score := new }
    let s := s.limitCheck p r points
    let s := s.addPayer payer points
    s.thresholdCheck p r.score new

/-- A subtraction from player p's score, floored at 0; below SCORE_MAX the limit flag becomes no (R63). -/
def State.subtractScore (s : State) (p worth : Nat) : State :=
  s.modifyPlayer p fun r =>
    { r with
      score := r.score - worth
      scoreLimitReported := if r.score - worth < scoreMax then false else r.scoreLimitReported }

/-- A BONUS record: the bonus rises by W × k, held at BONUS_MAX (R64). -/
def State.addBonus (s : State) (p points : Nat) : State :=
  s.modifyPlayer p fun r => { r with bonus := min (r.bonus + points) bonusMax }

/-- The bonus multiplier raised, held at 99 (R65). -/
def State.raiseBonusMult (s : State) (p n : Nat) : State :=
  s.modifyPlayer p fun r => { r with bonusMult := min (r.bonusMult + n) 99 }

/-- The bonus credit at ball end: an untilted player is credited bonus × bonus_mult; both are reset (R66). -/
def State.bonusCredit (s : State) (p : Nat) : State :=
  match s.player? p with
  | none => s
  | some r =>
    let s := if s.gpc.tilted then s else s.credit p (awardPoints r.bonus 1 r.bonusMult 1) none
    s.modifyPlayer p fun r => { r with bonus := 0, bonusMult := 1 }

/-- One decay step of a HURRY value V with floor F, decay d and unit exponent q (R68). -/
def decayStep (value floor decay exponent : Nat) : Nat :=
  let unit := 10 ^ exponent
  let drop := max (value * decay / 256) unit
  max floor ((value - drop) / unit * unit)

/-- The threshold pairs of a DEFINE_THRESHOLDS payload from an offset on: value (5), action (R205). -/
def thresholdsAt? (p : List Byte) (i : Nat) : Nat → Option (List Threshold)
  | 0 => some []
  | n + 1 =>
    if numberAt p i 5 ≤ scoreMax then
      (flag? (byteAt p (i + 5))).bind fun a => (thresholdsAt? p (i + 6) n).map (⟨numberAt p i 5, a⟩ :: ·)
    else none

/-- Whether the values rise strictly (R70). -/
def strictlyAscending : List Threshold → Bool
  | a :: b :: rest => decide (a.value < b.value) && strictlyAscending (b :: rest)
  | _ => true

/-- The list as its count and pairs (R205). -/
def thresholdBytes (l : List Threshold) : List Byte :=
  small l.length :: l.flatMap fun t => numberBytes 5 t.value ++ [flagByte t.extraBall]

/-- DEFINE_THRESHOLDS as its owner takes it (R71). -/
def defineThresholds (p : List Byte) (s : State) : State × Reply :=
  if 8 < byteAt p 0 then (s, .bare .outOfRange)
  else match thresholdsAt? p 1 (byteAt p 0) with
    | some l =>
      if strictlyAscending l then ({ s with scu := ⟨l⟩ }, .bare .ok) else (s, .bare .outOfRange)
    | none => (s, .bare .outOfRange)

/-- DEFINE_THRESHOLDS (R71, R200). -/
def execDefineThresholds (payload : List Byte) (s : State) : Host.Outcome State Fault Refusal :=
  takeRequest 0x64 true (1 + 6 * byteAt payload 0) (defineThresholds payload) payload s

/-- ADJUST_SCORE as its owner takes it: the game state, the player, the direction and the point value,
then the addition as a credit or the subtraction (R4, R63). -/
def adjustScore (p : List Byte) (s : State) : State × Reply :=
  if s.gpc.game.inProgress then
    match s.checkPlayer (byteAt p 0) with
    | .error e => (s, .bare e)
    | .ok _ =>
      match flag? (byteAt p 1), pointAt? p 2 with
      | some subtract, some v =>
        let s' := if subtract then s.subtractScore (byteAt p 0) v.worth else s.credit (byteAt p 0) v.worth none
        (s', .ok (numberBytes 5 (((s'.player? (byteAt p 0)).map Player.score).getD 0)))
      | _, _ => (s, .bare .outOfRange)
  else (s, .bare .wrongState)

/-- ADJUST_SCORE (R4, R63). -/
def execAdjustScore (payload : List Byte) (s : State) : Host.Outcome State Fault Refusal :=
  takeRequest 0x04 false 5 (adjustScore payload) payload s

end Sys2Proof.Machine
end

