-- ==== Sys2Proof/Machine/Modes.lean ====
section
/-! DEFINITION. MST: starting, claiming, completing, ending, parking and resuming contexts (05). The
requests of MST are in ModeRequests. -/

namespace Sys2Proof.Machine

/-! ### Templates and slots -/

/-- The period of the timer a context of the template holds: the duration when timed, the decay period
for HURRY, none when untimed (R74, R82). -/
def Template.period? (t : Template) : Option Nat :=
  match t.kind with
  | .exclusive f | .additive f => if 0 < f.duration then some f.duration else none
  | .hurry f => some f.decayPeriod

/-- The timer kind of a context of the template (R82). -/
def Template.timerKind (t : Template) : TimerKind :=
  match t.kind with
  | .exclusive f | .additive f => if f.retrigger then .retrigger else .oneShot
  | .hurry _ => .periodic

/-- Whether the template is HURRY. -/
def Template.isHurry (t : Template) : Bool :=
  match t.kind with
  | .hurry _ => true
  | _ => false

/-- The binding of a slot's timer (R82). -/
def Template.binding (t : Template) (slot : Fin 12) : Binding :=
  if t.isHurry then .hurry slot else .context slot

/-- The timer record set up for a context that enters RUNNING with a remaining count (R82). -/
def Template.timer (t : Template) (slot : Fin 12) (period remaining : Nat) : Timer :=
  ⟨.running, t.timerKind, period, none, remaining, true, t.binding slot⟩

/-- A slot's record, none when FREE. -/
def State.slot? (s : State) (slot : Fin 12) : Option Context := s.mst.slots[slot]

/-- The template of a slot's context. -/
def State.slotTemplate? (s : State) (slot : Fin 12) : Option Template :=
  (s.slot? slot).bind fun c => s.mst.templates[c.template]

/-- The priority of a slot's template. -/
def State.slotPriority (s : State) (slot : Fin 12) : Nat :=
  ((s.slotTemplate? slot).map Template.priority).getD 0

/-- The exclusion group of a slot's template. -/
def State.slotGroup (s : State) (slot : Fin 12) : Fin 8 :=
  ((s.slotTemplate? slot).map Template.exclusionGroup).getD 0

/-- A slot's record written. -/
def State.setSlot (s : State) (slot : Fin 12) (c : Option Context) : State :=
  { s with mst := { s.mst with slots := s.mst.slots.set slot.val c slot.isLt } }

/-- A slot's context changed. -/
def State.modifySlot (s : State) (slot : Fin 12) (f : Context → Context) : State :=
  s.setSlot slot ((s.slot? slot).map f)

/-- Whether a slot's context is RUNNING. -/
def State.isRunning (s : State) (slot : Fin 12) : Bool :=
  match s.slot? slot with
  | some c => decide (c.phase = .running)
  | none => false

/-- Whether a slot's context is RUNNING or PAUSED. -/
def State.isLive (s : State) (slot : Fin 12) : Bool :=
  match s.slot? slot with
  | some c => decide (c.phase = .running) || decide (c.phase = .paused)
  | none => false

/-- Whether a phase is RUNNING, PAUSED or PARKED: a standing context. -/
def Phase.stands : Phase → Bool
  | .running | .paused | .parked => true
  | .ended _ => false

/-- Whether a slot's context stands. -/
def State.isStanding (s : State) (slot : Fin 12) : Bool :=
  match s.slot? slot with
  | some c => c.phase.stands
  | none => false

/-- The remaining ticks of a context: the held timer's count in RUNNING and PAUSED, else the stored
count; 0 for an untimed context (R77). -/
def State.remainingOf (s : State) (c : Context) : Nat :=
  match c.phase with
  | .running | .paused =>
    match c.timer with
    | some t => ((s.tmu.timers[t]).map Timer.remaining).getD 0
    | none => 0
  | .parked | .ended _ => c.stored

/-- The RUNNING context of player p in exclusion group g, none for group 0 (R78, R85). -/
def State.runningInGroup (s : State) (p : Nat) (g : Fin 8) : Option (Fin 12) :=
  if g = 0 then none
  else (List.finRange 12).find? fun slot =>
    match s.slot? slot with
    | some c => decide (c.phase = .running) && decide (c.owner = p) && decide (s.slotGroup slot = g)
    | none => false

/-! ### Entering and leaving RUNNING and PAUSED (R77, R79) -/

/-- The insertion of a slot of priority p: before the first entry at or below it, else at the tail (R79). -/
def insertByPriority (priority : Fin 12 → Nat) (slot : Fin 12) (p : Nat) : List (Fin 12) → List (Fin 12)
  | [] => [slot]
  | x :: xs =>
    if priority x ≤ p then slot :: x :: xs else x :: insertByPriority priority slot p xs

/-- An owner's timer changed, when it holds one. -/
def State.modifyHeld (s : State) (t : Option (Fin 16)) (f : Timer → Timer) : State :=
  match t with
  | some t => s.modifyTimer t f
  | none => s

/-- An owner's timer amended while it counts on, when it holds one. -/
def State.amendHeld (s : State) (t : Option (Fin 16)) (f : Timer → Timer) : State :=
  match t with
  | some t => s.amendTimer t f
  | none => s

/-- The timer a slot's context holds. -/
def State.slotTimer? (s : State) (slot : Fin 12) : Option (Fin 16) := (s.slot? slot).bind Context.timer

/-- A slot taken out of the mode stack and the pause order. -/
def State.leaveLists (s : State) (slot : Fin 12) : State :=
  { s with mst := { s.mst with stack := s.mst.stack.erase slot, pauseOrder := s.mst.pauseOrder.erase slot } }

/-- A context enters RUNNING: it leaves the pause order, is inserted into the stack, its timer runs (R79, R91). -/
def State.enterRunning (s : State) (slot : Fin 12) : State :=
  let s := s.leaveLists slot
  let s := { s with mst := { s.mst with
    stack := insertByPriority s.slotPriority slot (s.slotPriority slot) s.mst.stack } }
  let s := s.modifySlot slot fun c => { c with phase := .running }
  s.modifyHeld (s.slotTimer? slot) Timer.thaw

/-- A context enters PAUSED: it leaves the stack, joins the tail of the pause order, its timer freezes (R85). -/
def State.enterPaused (s : State) (slot : Fin 12) : State :=
  let s := s.leaveLists slot
  let s := { s with mst := { s.mst with pauseOrder := s.mst.pauseOrder ++ [slot] } }
  let s := s.modifySlot slot fun c => { c with phase := .paused }
  s.modifyHeld (s.slotTimer? slot) Timer.freeze

/-! ### Ends (R91) -/

/-- The PAUSED context of owner p and group g that returns: the highest priority, among equals the one
nearest the head of the pause order (R91). -/
def State.returning? (s : State) (p : Nat) (g : Fin 8) : Option (Fin 12) :=
  (s.mst.pauseOrder.filter fun slot =>
    match s.slot? slot with
    | some c => decide (c.owner = p) && decide (s.slotGroup slot = g)
    | none => false).foldl
    (fun best slot =>
      match best with
      | none => some slot
      | some b => if s.slotPriority b < s.slotPriority slot then some slot else some b) none

/-- The return of a PAUSED context of group g, when g is not 0 and there is one (R91). -/
def State.returnPaused (s : State) (p : Nat) (g : Fin 8) : State :=
  if g = 0 then s
  else match s.returning? p g with
    | some slot => s.enterRunning slot
    | none => s

/-- A context enters ENDED: its reason and remaining ticks are recorded, it holds no timer, joins the
tail of the ended list, and MODE_ENDED is raised (R91). -/
def State.enterEnded (s : State) (slot : Fin 12) (reason : EndReason) (remaining : Nat) : State :=
  let s := s.modifySlot slot fun c => { c with phase := .ended reason, timer := none, stored := remaining }
  let s := { s with mst := { s.mst with ended := s.mst.ended ++ [slot] } }
  s.raise (.modeEnded slot)

/-- The end of a standing context (R91). `returns` says whether the rule that ends it makes the return of
a PAUSED context of its group, which is made only from RUNNING. -/
def State.endContext (s : State) (slot : Fin 12) (reason : EndReason) (returns : Bool) : State :=
  match s.slot? slot with
  | none => s
  | some c =>
    if c.phase.stands then
      let group := s.slotGroup slot
      let remaining := s.remainingOf c
      let s := (s.releaseHeld c.timer).leaveLists slot
      let s := if returns = true ∧ c.phase = .running then s.returnPaused c.owner group else s
      s.enterEnded slot reason remaining
    else s

/-- Several contexts ended together, in slot order, without returns (R94, R96, R97). -/
def State.endAll (s : State) (which : State → Fin 12 → Bool) (reason : EndReason) : State :=
  (List.finRange 12).foldl (fun s slot => if which s slot then s.endContext slot reason false else s) s

/-! ### Starts (R81 to R87) -/

/-- The outcome of a start: the slot concerned and whether MODE_STARTED is raised, or why it failed. -/
inductive StartOutcome where
  | started (slot : Fin 12)
  | stood (slot : Fin 12)
  | failed (reason : Status)
  deriving DecidableEq, Repr

/-- The standing context of template t held by player p (R83, R84). -/
def State.standing? (s : State) (p : Nat) (t : Fin 32) : Option (Fin 12) :=
  (List.finRange 12).find? fun slot =>
    match s.slot? slot with
    | some c => c.phase.stands && decide (c.template = t) && decide (c.owner = p)
    | none => false

/-- The slot for a new context: the lowest FREE slot, else the oldest ended one (R81). -/
def State.chooseSlot? (s : State) : Option (Fin 12) :=
  match (List.finRange 12).find? fun slot => (s.slot? slot).isNone with
  | some slot => some slot
  | none => s.mst.ended.head?

/-- The timer a context of template tm takes: `some none` when it needs none, `none` when it needs one and
no timer is FREE (R82). -/
def State.timerFor? (s : State) (tm : Template) : Option (Option (Fin 16)) :=
  match tm.period? with
  | none => some none
  | some _ => s.freeTimer?.map some

/-- A timer taken by a slot's context with a remaining count (R82). -/
def State.takeTimer (s : State) (slot : Fin 12) (tm : Template) (t : Option (Fin 16)) (remaining : Nat) : State :=
  match t with
  | none => s
  | some t =>
    (s.setTimer t (some (tm.timer slot (tm.period?.getD 0) remaining))).modifySlot slot
      fun c => { c with timer := some t }

/-- A PARKED context resumed on its own by a start (R84): its timer taken, then RUNNING or PAUSED by its
exclusion group; with no timer FREE it ends with NO_TIMER. -/
def State.resumeByStart (s : State) (slot : Fin 12) (c : Context) (tm : Template) : State × StartOutcome :=
  match s.timerFor? tm with
  | none => (s.endContext slot .noTimer false, .failed .noTimer)
  | some t =>
    let s := s.takeTimer slot tm t c.stored
    match s.runningInGroup c.owner tm.exclusionGroup with
    | none => ((s.enterRunning slot).raise .modeStarted, .started slot)
    | some other =>
      if tm.priority ≤ s.slotPriority other then ((s.enterPaused slot).raise .modeStarted, .started slot)
      else (((s.enterPaused other).enterRunning slot).raise .modeStarted, .started slot)

/-- A start that finds a standing context (R84). -/
def State.startStanding (s : State) (slot : Fin 12) (c : Context) (tm : Template) : State × StartOutcome :=
  if c.phase = .parked then s.resumeByStart slot c tm
  else if tm.refreshes then (s.modifyHeld c.timer Timer.load, .stood slot)
  else (s, .stood slot)

/-- A context as set up (R85). -/
def newContext (t : Fin 32) (tm : Template) (owner : Nat) : Context :=
  ⟨.running, t, owner, 0, tm.value.worth, tm.multiplier, 0, none, 0⟩

/-- The new context put into its slot, which leaves the ended list when it is reclaimed; its timer is
set up and it enters RUNNING; MODE_STARTED is raised (R81, R85, R86). -/
def State.setUp (s : State) (slot : Fin 12) (timer : Option (Fin 16)) (t : Fin 32) (tm : Template) : State :=
  let s := { s with mst := { s.mst with ended := s.mst.ended.erase slot } }
  let s := s.setSlot slot (some (newContext t tm s.currentPlayer))
  let s := s.takeTimer slot tm timer (tm.period?.getD 0)
  (s.enterRunning slot).raise .modeStarted

/-- A start with no standing context: the slot, the timer, then the exclusion check, each of which can
fail and leave everything as it was (R85). -/
def State.startNew (s : State) (t : Fin 32) (tm : Template) : State × StartOutcome :=
  match s.chooseSlot? with
  | none => (s, .failed .noSlot)
  | some slot =>
    match s.timerFor? tm with
    | none => (s, .failed .noTimer)
    | some timer =>
      match s.runningInGroup s.currentPlayer tm.exclusionGroup with
      | none => (s.setUp slot timer t tm, .started slot)
      | some other =>
        if tm.priority ≤ s.slotPriority other then (s, .failed .blocked)
        else ((s.enterPaused other).setUp slot timer t tm, .started slot)

/-- A start of template t for the current player: the conditions of R83, then R84 or R85. -/
def State.startMode (s : State) (t : Fin 32) : State × StartOutcome :=
  match s.mst.templates[t] with
  | none => (s, .failed .undefined)
  | some tm =>
    if s.gpc.tilted then (s, .failed .wrongState)
    else if s.gpc.game ≠ .starting ∧ s.gpc.game ≠ .inPlay then (s, .failed .wrongState)
    else if tm.mbOnly = true ∧ s.lmc.multiball = false then (s, .failed .wrongState)
    else match s.standing? s.currentPlayer t with
      | some slot =>
        match s.slot? slot with
        | some c => s.startStanding slot c tm
        | none => (s, .failed .undefined)
      | none => s.startNew t tm

/-- An automatic start: one that fails raises MODE_START_FAILED (R86). -/
def State.autoStart (s : State) (t : Fin 32) : State :=
  match s.startMode t with
  | (s, .failed _) => s.raise .modeStartFailed
  | (s, _) => s

/-- The automatic start of a next template, when one is named (R90, R92). -/
def State.startNext (s : State) (next : Option (Fin 32)) : State :=
  match next with
  | some t => s.autoStart t
  | none => s

/-! ### Claims and completion (R88 to R90) -/

/-- A credit made for a context: worth × count × its multiplier × pf, to the current player (R56, R88). -/
def State.payContext (s : State) (slot : Fin 12) (c : Context) (tm : Template) (worth count : Nat) : State :=
  s.credit s.currentPlayer (awardPoints worth count c.multiplier (s.pfFactor tm.applyPf)) (some slot)

/-- The completion of a context: the completion value, the end, the next template (R90). -/
def State.complete (s : State) (slot : Fin 12) (c : Context) (tm : Template) (f : ShotFields) : State :=
  let s := s.payContext slot c tm f.completionValue.worth 1
  let s := s.endContext slot .completed true
  s.startNext tm.nextOnCompletion

/-- A hit claimed by an EXCLUSIVE or ADDITIVE context (R88). -/
def State.claimShot (s : State) (slot : Fin 12) (c : Context) (tm : Template) (f : ShotFields) (k : Nat) : State :=
  let hits := min (c.hits + k) 255
  let s := s.payContext slot c tm c.value k
  let s := s.modifySlot slot fun c => { c with hits := hits }
  if 0 < f.targetHits ∧ f.targetHits ≤ hits then s.complete slot c tm f
  else if f.retrigger then s.modifyHeld c.timer Timer.load
  else s

/-- A HURRY context's collect (R89). -/
def State.collect (s : State) (slot : Fin 12) (c : Context) (tm : Template) (k : Nat) : State :=
  let s := s.payContext slot c tm c.value 1
  let s := s.modifySlot slot fun c => { c with hits := min (c.hits + k) 255 }
  let s := s.endContext slot .completed true
  s.startNext tm.nextOnCompletion

/-- A claimed hit, and whether it stops the walk (R47). -/
def State.claimHit (s : State) (slot : Fin 12) (k : Nat) : State × Bool :=
  match s.slot? slot, s.slotTemplate? slot with
  | some c, some tm =>
    match tm.kind with
    | .exclusive f => (s.claimShot slot c tm f k, true)
    | .additive f => (s.claimShot slot c tm f k, false)
    | .hurry _ => (s.collect slot c tm k, true)
  | _, _ => (s, false)

/-- Whether a slot's context claims group g (R47). -/
def State.claims (s : State) (slot : Fin 12) (g : Fin 16) : Bool :=
  match s.slotTemplate? slot with
  | some tm => tm.claims.getLsbD g.val
  | none => false

/-- The walk down the stack as it stood at the take. `alive` holds the contexts of it that have not left
RUNNING since; one that has is passed over, and so is one that entered later (R47, log 16). The answer says
whether the walk was stopped. -/
def State.walk (s : State) (g : Fin 16) (k : Nat) (alive : List (Fin 12)) : List (Fin 12) → State × Bool
  | [] => (s, false)
  | slot :: rest =>
    if slot ∈ alive ∧ s.claims slot g = true then
      if (s.claimHit slot k).2 then ((s.claimHit slot k).1, true)
      else (s.claimHit slot k).1.walk g k (alive.filter (s.claimHit slot k).1.isRunning) rest
    else s.walk g k alive rest

/-! ### Timer expiries of contexts (R92, R93) -/

/-- The expiry of a CONTEXT timer, already FREE: the context ends TIMED_OUT and its next template starts (R92). -/
def State.contextTimeout (s : State) (slot : Fin 12) : State :=
  match s.slotTemplate? slot with
  | some tm => (s.endContext slot .timedOut true).startNext tm.nextOnTimeout
  | none => s

/-- The expiry of a HURRY timer: above the floor the value decays and the timer reloads, at the floor
the context ends TIMED_OUT and its next template starts (R69, R93, R149). -/
def State.hurryExpiry (s : State) (slot : Fin 12) (t : Fin 16) : State :=
  match s.slot? slot, s.slotTemplate? slot with
  | some c, some tm =>
    match tm.kind with
    | .hurry f =>
      if f.floor.worth < c.value then
        (s.modifySlot slot fun c =>
          { c with value := decayStep c.value f.floor.worth f.decay f.unitExponent }).modifyTimer t Timer.load
      else (s.endContext slot .timedOut true).startNext tm.nextOnTimeout
    | _ => s
  | _, _ => s

/-! ### Ball end, resume, multiball end (R94 to R96) -/

/-- A context parked: it leaves its list, stores its timer's count and releases the timer (R94). -/
def State.park (s : State) (slot : Fin 12) : State :=
  match s.slot? slot with
  | none => s
  | some c =>
    let remaining := s.remainingOf c
    let s := (s.releaseHeld c.timer).leaveLists slot
    s.modifySlot slot fun c => { c with phase := .parked, timer := none, stored := remaining }

/-- The treatment of one RUNNING or PAUSED context at ball end; the first row that applies decides (R94). -/
def State.parkOrEnd (s : State) (slot : Fin 12) : State :=
  match s.slotTemplate? slot with
  | none => s
  | some tm =>
    if tm.mbOnly then s.endContext slot .mbEnded false
    else if s.gpc.tilted then s.endContext slot .tilted false
    else if tm.carries then s.park slot
    else s.endContext slot .ballEnded false

/-- Whether a slot holds a RUNNING or PAUSED context of player p. -/
def State.isLiveOf (s : State) (p : Nat) (slot : Fin 12) : Bool :=
  s.isLive slot && decide ((s.slot? slot).map Context.owner = some p)

/-- The treatment of the contexts of the player whose ball has ended, in slot order (R94). -/
def State.parkAll (s : State) : State :=
  (List.finRange 12).foldl (fun s slot => if s.isLiveOf s.currentPlayer slot then s.parkOrEnd slot else s) s

/-- Insertion into a list kept in order of a relation `before`, behind equals. -/
def insertSorted {α : Type} (before : α → α → Bool) (a : α) : List α → List α
  | [] => [a]
  | x :: xs => if before a x then a :: x :: xs else x :: insertSorted before a xs

/-- A list in order of a relation, equals keeping their order. -/
def sortBy {α : Type} (before : α → α → Bool) (l : List α) : List α :=
  l.foldl (fun acc a => insertSorted before a acc) []

/-- The PARKED contexts of player p: highest priority first, within one priority in slot order (R95). -/
def State.parkedOf (s : State) (p : Nat) : List (Fin 12) :=
  sortBy (fun a b => decide (s.slotPriority b < s.slotPriority a))
    ((List.finRange 12).filter fun slot =>
      decide ((s.slot? slot).map (fun c => (c.phase, c.owner)) = some (.parked, p)))

/-- One PARKED context resumed; `groups` are the exclusion groups already resumed into RUNNING in this
event (R95). -/
def State.resumeOne (s : State) (groups : List (Fin 8)) (slot : Fin 12) : State × List (Fin 8) :=
  match s.slot? slot, s.slotTemplate? slot with
  | some c, some tm =>
    match s.timerFor? tm with
    | none => (s.endContext slot .noTimer false, groups)
    | some t =>
      let s := s.takeTimer slot tm t c.stored
      if tm.exclusionGroup ≠ 0 ∧ tm.exclusionGroup ∈ groups then (s.enterPaused slot, groups)
      else (s.enterRunning slot, tm.exclusionGroup :: groups)
  | _, _ => (s, groups)

/-- The resume of the incoming player's PARKED contexts (R95). -/
def State.resumeAll (s : State) (p : Nat) : State :=
  ((s.parkedOf p).foldl (fun acc slot => acc.1.resumeOne acc.2 slot) (s, [])).1

/-- The exclusion groups in which R96 makes a return: the player has PAUSED contexts there and no RUNNING one. -/
def State.groupsToReturn (s : State) (p : Nat) : List (Fin 8) :=
  (List.finRange 8).filter fun g =>
    decide (g ≠ 0) && (s.returning? p g).isSome && (s.runningInGroup p g).isNone

/-- The order in which the groups are taken: free (log 8). -/
def State.returnOrder (s : State) (l : List (Fin 8)) : List (Fin 8) :=
  sortBy (fun a b => decide (Config.groupReturnKey s.freeUse a.val < Config.groupReturnKey s.freeUse b.val)) l

/-- Every mb_only context in RUNNING or PAUSED ended with MB_ENDED in slot order, then one return per
exclusion group of the current player (R96). -/
def State.endMbOnly (s : State) : State :=
  let s := s.endAll (fun s slot => s.isLive slot && ((s.slotTemplate? slot).map Template.mbOnly).getD false) .mbEnded
  let s := (s.returnOrder (s.groupsToReturn s.currentPlayer)).foldl
    (fun s g => s.returnPaused s.currentPlayer g) s
  { s with freeUse := s.freeUse + 1 }

/-- Every slot FREE and the three lists empty (R97). -/
def State.clearSlots (s : State) : State :=
  { s with mst := { s.mst with slots := .replicate 12 none, stack := [], pauseOrder := [], ended := [] } }

end Sys2Proof.Machine
end

