-- ==== Sys2Proof/Machine/Counters.lean ====
section
/-! DEFINITION. PTB: the advance of a counter, its completions and actions, and the counter requests (01). -/

namespace Sys2Proof.Machine

/-- The definition of a counter (R8). -/
def State.counterDef (s : State) : CounterRef → CounterDef
  | .player i => s.ptb.playerDefs[i]
  | .common i => s.ptb.commonDefs[i]

/-- The definition of a counter written. -/
def State.setCounterDef (s : State) (c : CounterRef) (d : CounterDef) : State :=
  match c with
  | .player i => { s with ptb := { s.ptb with playerDefs := s.ptb.playerDefs.set i.val d i.isLt } }
  | .common i => { s with ptb := { s.ptb with commonDefs := s.ptb.commonDefs.set i.val d i.isLt } }

/-- The value of a counter, on player p's page for class PLAYER (R9). -/
def State.counterValue (s : State) (c : CounterRef) (p : Nat) : Nat :=
  match c with
  | .player i => ((s.player? p).map fun r => r.counters[i]).getD 0
  | .common i => s.ptb.commonValues[i]

/-- The value of a counter written, on player p's page for class PLAYER. -/
def State.setCounterValue (s : State) (c : CounterRef) (p v : Nat) : State :=
  match c with
  | .player i => s.modifyPlayer p fun r => { r with counters := r.counters.set i.val v i.isLt }
  | .common i => { s with ptb := { s.ptb with commonValues := s.ptb.commonValues.set i.val v i.isLt } }

/-- The value of a disabled counter made 0: the common value, or the value in every record present (R13). -/
def State.disableCounter (s : State) (c : CounterRef) : State :=
  match c with
  | .player i =>
    { s with ptb := { s.ptb with
      players := s.ptb.players.map fun r => { r with counters := r.counters.set i.val 0 i.isLt } } }
  | .common i => { s with ptb := { s.ptb with commonValues := s.ptb.commonValues.set i.val 0 i.isLt } }

/-- What an advance finds: the value and target after it, the staged target, the completions counted. -/
structure Advanced where
  value : Nat
  target : Nat
  staged : Option Nat
  completions : Nat
  deriving DecidableEq, Repr

/-- An advance on a HOLD counter of target T above 0 (R11). -/
def advanceHold (v target : Nat) (staged : Option Nat) (k : Nat) : Advanced :=
  if target ≤ v then ⟨target, target, staged, 0⟩
  else if v + k < target then ⟨v + k, target, staged, 0⟩
  else match staged with
    | some t => ⟨min target t, t, none, 1⟩
    | none => ⟨target, target, none, 1⟩

/-- The passes of an advance on a REPEAT counter: each counts a completion, lowers n by the target, then
applies a staged target; it stops below the target or at a target of 0 (R12). -/
def repeatPasses : Nat → Nat → Nat → Option Nat → Nat → Advanced
  | 0, n, target, staged, done => ⟨n, target, staged, done⟩
  | fuel + 1, n, target, staged, done =>
    if n < target then ⟨n, target, staged, done⟩
    else
      match staged with
      | some 0 => ⟨0, 0, none, done + 1⟩
      | some t => repeatPasses fuel (n - target) t none (done + 1)
      | none => repeatPasses fuel (n - target) target none (done + 1)

/-- An advance on a REPEAT counter of target T above 0; every pass lowers n, so n + 1 passes suffice (R12). -/
def advanceRepeat (v target : Nat) (staged : Option Nat) (k : Nat) : Advanced :=
  repeatPasses (v + k + 1) (v + k) target staged 0

/-- What an advance by k finds on a counter whose target is above 0 (R11, R12). -/
def CounterDef.advance (d : CounterDef) (v k : Nat) : Advanced :=
  match d.afterReach with
  | .hold => advanceHold v d.target d.staged k
  | .repeats => advanceRepeat v d.target d.staged k

/-- A completion's action, for the current player (R14). -/
def State.counterAction (s : State) : CounterAction → State
  | .none => s
  | .notify c => s.raise (.counterNotify c)
  | .lightLock => s.lightLock
  | .startMode t => s.autoStart t
  | .extraBall => s.giveExtraBall s.currentPlayer
  | .bonusMult => s.raiseBonusMult s.currentPlayer 1

/-- The actions of n completions, one after another (R14). -/
def State.counterActions (s : State) (a : CounterAction) : Nat → State
  | 0 => s
  | n + 1 => (s.counterAction a).counterActions a n

/-- An advance of a counter by k for the current player: ignored at target 0; else the value, the target
and the staged target are updated, a counter whose target became 0 is disabled for all, and the actions
of the completions are performed (R9, R11 to R14). -/
def State.advanceCounter (s : State) (c : CounterRef) (k : Nat) : State :=
  let d := s.counterDef c
  if d.target = 0 then s
  else
    let a := d.advance (s.counterValue c s.currentPlayer) k
    let s := s.setCounterValue c s.currentPlayer a.value
    let s := s.setCounterDef c { d with target := a.target, staged := a.staged }
    let s := if a.target = 0 then s.disableCounter c else s
    s.counterActions d.action a.completions

/-- A counter's target restored to the defined one, the staged target absent (R8). -/
def CounterDef.restore (d : CounterDef) : CounterDef := { d with target := d.definedTarget, staged := none }

/-- Every counter definition restored (R8, R18). -/
def State.restoreTargets (s : State) : State :=
  { s with ptb := { s.ptb with
    playerDefs := mapTable CounterDef.restore s.ptb.playerDefs
    commonDefs := mapTable CounterDef.restore s.ptb.commonDefs } }

/-- Every common value 0 (R9). -/
def State.clearCommon (s : State) : State :=
  { s with ptb := { s.ptb with commonValues := .replicate 32 0 } }

/-- The largest value WRITE_COUNTER writes (R16). -/
def CounterDef.bound (d : CounterDef) : Nat :=
  match d.afterReach with
  | .repeats => d.target - 1
  | .hold => d.target

/-- The player check of a counter request: made for class PLAYER, not for COMMON (R16, R17). -/
def State.checkCounterPlayer (s : State) (c : CounterRef) (p : Nat) : Option Status :=
  match c with
  | .common _ => none
  | .player _ =>
    match s.checkPlayer p with
    | .error e => some e
    | .ok _ => none

/-- READ_COUNTER as its owner takes it (R17). The spec gives no order of the two checks, as R16 does for
WRITE_COUNTER: that the class and the index are judged before the player is the model's choice, log 19. -/
def readCounter (p : List Byte) (s : State) : State × Reply :=
  match counterRef? (byteAt p 0) (byteAt p 1) with
  | none => (s, .bare .outOfRange)
  | some c =>
    match s.checkCounterPlayer c (byteAt p 2) with
    | some e => (s, .bare e)
    | none =>
      let d := s.counterDef c
      let v := s.counterValue c (byteAt p 2)
      (s, .ok (numberBytes 2 v ++ numberBytes 2 d.target ++ [flagByte d.staged.isSome] ++
        numberBytes 2 (d.staged.getD 0) ++ [d.afterReach.code] ++ d.action.bytes ++ [indicatorCode v d.target]))

/-- READ_COUNTER (R17). -/
def execReadCounter (payload : List Byte) (s : State) : Host.Outcome State Fault Refusal :=
  takeRequest 0x05 false 3 (readCounter payload) payload s

/-- WRITE_COUNTER as its owner takes it: the game state, the class and index, the player (R16). -/
def writeCounter (p : List Byte) (s : State) : State × Reply :=
  if s.gpc.game.inProgress then
    match counterRef? (byteAt p 0) (byteAt p 1) with
    | none => (s, .bare .outOfRange)
    | some c =>
      match s.checkCounterPlayer c (byteAt p 2) with
      | some e => (s, .bare e)
      | none =>
        let v := numberAt p 3 2
        let b := (s.counterDef c).bound
        (s.setCounterValue c (byteAt p 2) (min v b), .bare (if b < v then .clamped else .ok))
  else (s, .bare .wrongState)

/-- WRITE_COUNTER (R16). -/
def execWriteCounter (payload : List Byte) (s : State) : Host.Outcome State Fault Refusal :=
  takeRequest 0x06 false 5 (writeCounter payload) payload s

/-- STAGE_TARGET as its owner takes it: staged when the target in force is above 0, in force at once when it is 0 (R15). -/
def stageTarget (p : List Byte) (s : State) : State × Reply :=
  if s.gpc.game.inProgress then
    match counterRef? (byteAt p 0) (byteAt p 1) with
    | none => (s, .bare .outOfRange)
    | some c =>
      let d := s.counterDef c
      let t := numberAt p 2 2
      (s.setCounterDef c (if 0 < d.target then { d with staged := some t } else { d with target := t, staged := none }),
        .bare .ok)
  else (s, .bare .wrongState)

/-- STAGE_TARGET (R15). -/
def execStageTarget (payload : List Byte) (s : State) : Host.Outcome State Fault Refusal :=
  takeRequest 0x07 false 4 (stageTarget payload) payload s

/-- DEFINE_COUNTER as its owner takes it (R10). -/
def defineCounter (p : List Byte) (s : State) : State × Reply :=
  match counterRef? (byteAt p 0) (byteAt p 1), afterReach? (byteAt p 4), counterAction? (byteAt p 5) (byteAt p 6) with
  | some c, some a, some act =>
    (s.setCounterDef c ⟨numberAt p 2 2, numberAt p 2 2, none, a, act⟩, .bare .ok)
  | _, _, _ => (s, .bare .outOfRange)

/-- DEFINE_COUNTER (R10). -/
def execDefineCounter (payload : List Byte) (s : State) : Host.Outcome State Fault Refusal :=
  takeRequest 0x61 true 7 (defineCounter payload) payload s

end Sys2Proof.Machine
end

