-- ==== Sys2Proof/Machine/BallEnd.lean ====
section
/-! DEFINITION. The end of multiball (R140, R141) and the ball end (R171), which drains, lock entries,
eject faults and RECOUNT share. -/

namespace Sys2Proof.Machine

/-- The game state written. -/
def State.setGame (s : State) (g : GameState) : State := { s with gpc := { s.gpc with game := g } }

/-- Multiball OFF with MULTIBALL_END raised: the end made by END_GAME and a slam (R141). -/
def State.stopMultiball (s : State) : State :=
  if s.lmc.multiball then ({ s with lmc := { s.lmc with multiball := false } }).raise .multiballEnd else s

/-- The end of multiball at a drain, a RECOUNT or a ball end: OFF, mb_only contexts end MB_ENDED,
MULTIBALL_END raised (R96, R141). -/
def State.endMultiball (s : State) : State :=
  (({ s with lmc := { s.lmc with multiball := false } }).endMbOnly).raise .multiballEnd

/-- The multiball check: RUNNING multiball ends when balls_in_play plus the pending ejects of READY
devices is 1 or less (R140). -/
def State.multiballCheck (s : State) : State :=
  if s.lmc.multiball = true ∧ s.bdt.ballsInPlay + s.readyPending ≤ 1 then s.endMultiball else s

/-- The ball end (R171): BALL_OVER; the bonus credit; multiball ended and locks_lit treated by lit_carry;
contexts parked or ended; pf_mult 1 and the PF_MULT and BALL_SAVE timers released; BALL_END. -/
def State.ballEnd (s : State) : State :=
  let s := s.setGame .ballOver
  let s := s.bonusCredit s.currentPlayer
  let s := if s.lmc.multiball then s.endMultiball else s
  let s := if s.lmc.params.litKeeps then s else s.modifyPlayer s.currentPlayer fun r => { r with locksLit := 0 }
  let s := s.parkAll
  let s := s.modifyPlayer s.currentPlayer fun r => { r with pfMult := 1 }
  let s := (s.releaseBinding .pfMult).releaseBinding .ballSave
  s.raise .ballEnd

/-- The ball end made when its condition holds (R111 step 3). -/
def State.ballEndCheck (s : State) : State := if s.ballEndHolds then s.ballEnd else s

/-- The check made only while the game is IN_PLAY (R110, R119, R121). -/
def State.ballEndCheckInPlay (s : State) : State := if s.gpc.game = .inPlay then s.ballEndCheck else s

end Sys2Proof.Machine
end

