-- ==== Sys2Proof/Machine/Locks.lean ====
section
/-! DEFINITION. LMC: multiball start and its sourcing, balls entering locks, claim loss, the jackpot,
and LMC's requests (07). -/

namespace Sys2Proof.Machine

/-! ### Multiball start (R135 to R137) -/

/-- The sourcing in progress: the state, the balls still wanted and the balls obtained (R136). -/
structure Sourcing where
  state : State
  wanted : Nat
  obtained : Nat
  deriving DecidableEq, Repr

/-- An eject request made for the sourcing; only what it adds counts (R136). -/
def Sourcing.request (x : Sourcing) (d : Fin 6) (n : Nat) : Sourcing :=
  let r := x.state.requestEject d n
  ⟨r.1, x.wanted - r.2, x.obtained + r.2⟩

/-- Whether a claim in device d can be taken: READY, and its occupancy exceeds its eject_pending (R136). -/
def State.claimTakable (s : State) (d : Fin 6) : Bool :=
  (s.device d).present && !(s.device d).faulted && decide ((s.device d).ejectPending < (s.device d).occupancy)

/-- A player's loss of a made lock under STEALABLE: locks_made falls by 1, held at 0, and LOCK_LOST is
raised; under SHARED nothing (R133, R136). -/
def State.loseLock (s : State) (d : Fin 6) (owner : Nat) : State :=
  match ((s.device d).definition.map DeviceDef.kind) with
  | some (.lock true _) =>
    (s.modifyPlayer owner fun r => { r with locksMade := r.locksMade - 1 }).raise .lockLost
  | _ => s

/-- The claims of one device taken from oldest to newest: those of `mine` (step 1) or of the others
(step 3, with the effect of the steal policy). The answer carries the claims that stay. -/
def Sourcing.takeClaims (x : Sourcing) (d : Fin 6) (p : Nat) (mine : Bool) : List Nat → Sourcing × List Nat
  | [] => (x, [])
  | owner :: rest =>
    if 0 < x.wanted ∧ decide (owner = p) = mine ∧ x.state.claimTakable d = true then
      let x := if mine then x else { x with state := x.state.loseLock d owner }
      (x.request d 1).takeClaims d p mine rest
    else
      ((x.takeClaims d p mine rest).1, owner :: (x.takeClaims d p mine rest).2)

/-- Steps 1 and 3 on one device: its list keeps the claims not taken (R136). -/
def Sourcing.claimsStep (p : Nat) (mine : Bool) (x : Sourcing) (d : Fin 6) : Sourcing :=
  let r := x.takeClaims d p mine (x.state.claimsOf d)
  { r.1 with state := r.1.state.setClaims d r.2 }

/-- Whether a device is a LOCK. -/
def Device.isLock (d : Device) : Bool :=
  match d.definition.map DeviceDef.kind with
  | some (.lock _ _) => true
  | _ => false

/-- Step 2 on one device: a READY LOCK gives its unclaimed stock, as one eject request (R136). -/
def Sourcing.stockStep (x : Sourcing) (d : Fin 6) : Sourcing :=
  let r := x.state.device d
  let stock := min x.wanted (r.occupancy - (x.state.claimsOf d).length - r.ejectPending)
  if r.isLock = true ∧ r.faulted = false ∧ 0 < stock then x.request d stock else x

/-- Step 4: the balls still wanted asked of the trough (R136). -/
def Sourcing.troughStep (x : Sourcing) : Sourcing := if 0 < x.wanted then x.request 0 x.wanted else x

/-- Devices 1 to 5 in number order. -/
def lockDevices : List (Fin 6) := [1, 2, 3, 4, 5]

/-- The sourcing of the wanted balls for player p; p's claims still standing then go without an eject (R136). -/
def State.source (s : State) (p wanted : Nat) : Sourcing :=
  let x : Sourcing := ⟨s, wanted, 0⟩
  let x := lockDevices.foldl (Sourcing.claimsStep p true) x
  let x := lockDevices.foldl Sourcing.stockStep x
  let x := lockDevices.foldl (Sourcing.claimsStep p false) x
  let x := x.troughStep
  { x with state := { x.state with lmc := { x.state.lmc with
      claims := mapTable (fun l : List Nat => l.filter fun owner => decide (owner ≠ p)) x.state.lmc.claims } } }

/-- The number of balls wanted at a multiball start (R135). -/
def State.ballsWanted (s : State) : Nat := s.lmc.params.mbBalls - s.bdt.ballsInPlay - s.allPending

/-- The completion of a multiball start for player p, in the order of R137. -/
def State.completeStart (s : State) (p : Nat) : State :=
  let s := s.modifyPlayer p fun r => { r with locksMade := 0, locksLit := 0 }
  let s := { s with lmc := { s.lmc with multiball := true, jackpot := s.lmc.params.jackpotBase.worth } }
  let s := if 0 < s.lmc.params.mbSaveTicks then s.giveBallSave s.lmc.params.mbSaveTicks else s
  s.raise .multiballStart

/-- Multiball started for player p, and the number of balls obtained (R135 to R137). -/
def State.startMultiball (s : State) (p : Nat) : State × Nat :=
  let x := s.source p s.ballsWanted
  (x.state.completeStart p, x.obtained)

/-! ### A ball entering a LOCK (R130 to R132) -/

/-- A kickout: an eject request for one ball (R110, R132). -/
def State.kickOut (s : State) (d : Fin 6) : State := (s.requestEject d 1).1

/-- Whether a lock is made at an entry into device d (R130). -/
def State.makesLock (s : State) (d : Fin 6) : Bool :=
  s.scores && !(s.device d).faulted && !s.lmc.multiball &&
    decide (0 < ((s.player? s.currentPlayer).map Player.locksLit).getD 0)

/-- Whether a device keeps one position free. -/
def Device.keepsRoom (d : Device) : Bool :=
  match d.definition.map DeviceDef.kind with
  | some (.lock _ keepRoom) => keepRoom
  | _ => false

/-- What becomes of the play after a lock is made by player p in device d: multiball, a room-keeping
eject, or a serve with the ball-end check when it adds nothing (R131). -/
def State.afterLock (s : State) (d : Fin 6) (p : Nat) : State :=
  if s.lmc.params.mbLocks ≤ ((s.player? p).map Player.locksMade).getD 0 then (s.startMultiball p).1
  else if (s.device d).keepsRoom = true ∧ (s.device d).occupancy = (s.device d).capacity then s.kickOut d
  else if s.bdt.ballsInPlay = 0 then
    if (s.requestEject 0 1).2 = 0 then (s.requestEject 0 1).1.ballEndCheck else (s.requestEject 0 1).1
  else s

/-- A lock made: the claim, the two counts, LOCK_MADE, then the play (R130, R131). -/
def State.makeLock (s : State) (d : Fin 6) : State :=
  let p := s.currentPlayer
  let s := s.setClaims d (s.claimsOf d ++ [p])
  let s := s.modifyPlayer p fun r => { r with locksLit := r.locksLit - 1, locksMade := r.locksMade + 1 }
  (s.raise .lockMade).afterLock d p

/-- A ball that has entered a LOCK: made into a lock, kicked out, or kept as stock by the game state and
the device state (R130, R132); a ball kept in IN_PLAY is followed by the ball-end check (R110). -/
def State.lockEntry (s : State) (d : Fin 6) : State :=
  if s.makesLock d then s.makeLock d
  else if s.gpc.game.inProgress = false then s
  else if (s.device d).faulted then s.ballEndCheckInPlay
  else s.kickOut d

/-! ### Claim loss (R133) -/

/-- The claim check after an exit that lowered the occupancy: a list longer than the occupancy loses its
oldest claim, with the effect of the steal policy (R133). -/
def State.claimCheck (s : State) (d : Fin 6) : State :=
  match s.claimsOf d with
  | owner :: rest =>
    if (s.device d).occupancy < rest.length + 1 then (s.setClaims d rest).loseLock d owner else s
  | [] => s

/-! ### The jackpot (R142, R143) -/

/-- The jackpot collected for the current player: the credit, JACKPOT, the step of J; skipped while
multiball is OFF (R52, R143). -/
def State.collectJackpot (s : State) (applyPf : Bool) : State :=
  if s.lmc.multiball then
    let s := s.credit s.currentPlayer (awardPoints s.lmc.jackpot 1 1 (s.pfFactor applyPf)) none
    let s := s.raise .jackpot
    { s with lmc := { s.lmc with
      jackpot := min (s.lmc.jackpot + s.lmc.params.jackpotStep.worth) s.lmc.params.jackpotMax.worth } }
  else s

/-! ### Requests -/

/-- LIGHT_LOCK as its owner takes it (R129). -/
def lightLock (s : State) : State × Reply :=
  if s.gpc.game.inProgress then
    let s' := s.lightLock
    let r := s'.player? s.currentPlayer
    (s', ⟨if s.canLight then .ok else .clamped,
      [small ((r.map Player.locksLit).getD 0), small ((r.map Player.locksMade).getD 0)]⟩)
  else (s, .bare .wrongState)

/-- LIGHT_LOCK (R129). -/
def execLightLock (payload : List Byte) (s : State) : Host.Outcome State Fault Refusal :=
  takeRequest 0x33 false 0 lightLock payload s

/-- START_MULTIBALL as its owner takes it (R138). -/
def startMultiball (s : State) : State × Reply :=
  if s.scores = true ∧ s.lmc.multiball = false then
    let r := s.startMultiball s.currentPlayer
    (r.1, .ok [small r.2, small s.ballsWanted])
  else (s, .bare .wrongState)

/-- START_MULTIBALL (R138). -/
def execStartMultiball (payload : List Byte) (s : State) : Host.Outcome State Fault Refusal :=
  takeRequest 0x34 false 0 startMultiball payload s

/-- ADD_BALL as its owner takes it (R139). -/
def addBall (s : State) : State × Reply :=
  if s.lmc.multiball = false then (s, .bare .wrongState)
  else if (s.device 0).faulted = true ∨ (s.device 0).occupancy ≤ (s.device 0).ejectPending then (s, .bare .noBall)
  else ((s.requestEject 0 1).1, .bare .ok)

/-- ADD_BALL (R139). -/
def execAddBall (payload : List Byte) (s : State) : Host.Outcome State Fault Refusal :=
  takeRequest 0x35 false 0 addBall payload s

/-- The lock parameters a payload of SET_LOCK_PARAMS gives, when they pass its checks (R126). -/
def lockParams? (p : List Byte) (installed : Nat) : Option LockParams :=
  match flag? (byteAt p 3), pointAt? p 6, pointAt? p 9, pointAt? p 12 with
  | some resets, some base, some step, some top =>
    if 1 ≤ byteAt p 0 ∧ byteAt p 0 ≤ 6 ∧ 2 ≤ byteAt p 1 ∧ byteAt p 1 ≤ 6 ∧ byteAt p 1 ≤ installed ∧
        1 ≤ byteAt p 2 ∧ byteAt p 2 ≤ 6 ∧ base.worth ≤ top.worth then
      some ⟨byteAt p 0, byteAt p 1, byteAt p 2, !resets, numberAt p 4 2, base, step, top⟩
    else none
  | _, _, _, _ => none

/-- The bytes of the lock parameters, as SET_LOCK_PARAMS carries them (R205, R206). -/
def LockParams.bytes (x : LockParams) : List Byte :=
  [small x.mbLocks, small x.mbBalls, small x.litMax, flagByte (!x.litKeeps)] ++ numberBytes 2 x.mbSaveTicks ++
    x.jackpotBase.bytes ++ x.jackpotStep.bytes ++ x.jackpotMax.bytes

/-- SET_LOCK_PARAMS as its owner takes it; J stands (R126, log 10). -/
def setLockParams (p : List Byte) (s : State) : State × Reply :=
  match lockParams? p s.gpc.params.installed with
  | some x => ({ s with lmc := { s.lmc with params := x } }, .bare .ok)
  | none => (s, .bare .outOfRange)

/-- SET_LOCK_PARAMS (R126). -/
def execSetLockParams (payload : List Byte) (s : State) : Host.Outcome State Fault Refusal :=
  takeRequest 0x66 true 15 (setLockParams payload) payload s

end Sys2Proof.Machine
end

