-- ==== Sys2Proof/Machine/Devices.lean ====
section
/-! DEFINITION. BDT: balls entering and leaving devices, drains, the eject handshake and its expiries,
and BDT's requests (06). -/

namespace Sys2Proof.Machine

/-! ### Entries (R109 to R111) -/

/-- The accounting of a ball entering device d, and whether the entry is accepted (R109). -/
def State.accountEntry (s : State) (d : Fin 6) : State × Bool :=
  if (s.device d).capacity ≤ (s.device d).occupancy then (s.trackingFault, false)
  else if 0 < s.bdt.ballsInPlay then
    let s := s.modifyDevice d fun r => { r with occupancy := r.occupancy + 1 }
    ({ s with bdt := { s.bdt with ballsInPlay := s.bdt.ballsInPlay - 1 } }, true)
  else ((s.modifyDevice d fun r => { r with occupancy := r.occupancy + 1 }).trackingFault, true)

/-- The ball-save step of a drain: a relaunch is requested and BALL_SAVED raised; with multiball OFF the
save is consumed (R111 step 1). -/
def State.saveStep (s : State) : State :=
  if s.ballSaveActive = true ∧ s.gpc.tilted = false ∧ (s.device 0).faulted = false then
    let s := (s.requestEject 0 1).1.raise .ballSaved
    if s.lmc.multiball then s else s.releaseBinding .ballSave
  else s

/-- A drain in IN_PLAY: ball save, the multiball check, the ball-end condition (R111). -/
def State.drain (s : State) : State := s.saveStep.multiballCheck.ballEndCheck

/-- The device handling after an accepted entry, by the device's kind and the game state (R110). -/
def State.handleEntry (s : State) (d : Fin 6) : State :=
  match (s.device d).definition.map DeviceDef.kind with
  | some .trough => if s.gpc.game = .inPlay then s.drain else s
  | some (.lock _ _) => s.lockEntry d
  | some .scoop =>
    if s.gpc.game.inProgress = false then s
    else if (s.device d).faulted then s.ballEndCheckInPlay
    else s.kickOut d
  | none => s

/-- A ball entering device d: the accounting, then the handling of an accepted entry (R44, R109, R110). -/
def State.enterDevice (s : State) (d : Fin 6) : State :=
  if (s.accountEntry d).2 then (s.accountEntry d).1.handleEntry d else (s.accountEntry d).1

/-! ### Exits (R112 to R114) -/

/-- The confirmation of device d's eject by an exit with eject_pending above 0 (R113). -/
def State.confirmEject (s : State) (d : Fin 6) : State :=
  if (s.device d).ejectPending ≤ 1 then
    s.modifyDevice d fun r => { r with ejectPending := 0, retries := 0, ejectTimer := none }
  else
    (s.modifyDevice d fun r =>
      { r with ejectPending := r.ejectPending - 1, retries := 0, ejectTimer := some r.timeout }).raise (.ejectReq d)

/-- One replacement launch of the trough cancelled, when one stands (R113). -/
def State.cancelLaunch (s : State) : State :=
  if (s.device 0).ejectPending = 0 then s
  else s.modifyDevice 0 fun r =>
    { r with
      ejectPending := r.ejectPending - 1
      ejectTimer := if r.ejectPending = 1 then none else r.ejectTimer }

/-- What an exit that lowered the occupancy confirms or cancels (R113). -/
def State.confirmExit (s : State) (d : Fin 6) : State :=
  if 0 < (s.device d).ejectPending then s.confirmEject d
  else if (s.device d).faulted = true ∧ 0 < (s.device d).replaced then
    (s.modifyDevice d fun r => { r with replaced := r.replaced - 1 }).cancelLaunch
  else s

/-- The trough step: a trough exit in STARTING starts the ball, with ball save when it is configured and
the ball is not tilted (R114, R170). -/
def State.troughStep (s : State) (d : Fin 6) : State :=
  if d = 0 ∧ s.gpc.game = .starting then
    let s := s.setGame .inPlay
    if 0 < s.gpc.params.ballSaveTicks ∧ s.gpc.tilted = false then s.giveBallSave s.gpc.params.ballSaveTicks else s
  else s

/-- The accounting of an exit whose device holds a ball (R112). -/
def State.accountExit (s : State) (d : Fin 6) : State :=
  let s := s.modifyDevice d fun r => { r with occupancy := r.occupancy - 1 }
  if s.bdt.ballsInPlay < 12 then { s with bdt := { s.bdt with ballsInPlay := s.bdt.ballsInPlay + 1 } }
  else s.trackingFault

/-- A ball leaving device d (R112 to R114). -/
def State.exitDevice (s : State) (d : Fin 6) : State :=
  if (s.device d).occupancy = 0 then s.trackingFault.troughStep d
  else (((s.accountExit d).claimCheck d).confirmExit d).troughStep d

/-! ### Eject timers (R117, R119) -/

/-- A device whose eject timer a tick lowers; its last count is taken by its expiry (R106, R117, log 4). -/
def Device.lower (r : Device) : Device :=
  { r with ejectTimer := r.ejectTimer.map fun n => if 1 < n then n - 1 else n }

/-- Whether an eject timer stands at its last count. -/
def Device.atLast (r : Device) : Bool := r.ejectTimer.any fun n => decide (n ≤ 1)

/-- BDT's tick: every running eject timer lowered by 1, but one at its last count, whose expiry the tick
produces: it waits to be taken (R106, R117, log 4). -/
def State.bdtTick (s : State) : State :=
  { s with bdt := { s.bdt with
    devices := mapTable Device.lower s.bdt.devices
    expiring := mapTable Device.atLast s.bdt.devices } }

/-- The third expiry: the device is FAULTED and EJECT_FAILED raised, its owed balls are handed to the
trough, and in IN_PLAY the ball-end condition is checked (R119). -/
def State.faultDevice (s : State) (d : Fin 6) : State :=
  let owed := (s.device d).ejectPending
  let s := (s.modifyDevice d fun r =>
    { r with faulted := true, retries := 3, ejectTimer := none, ejectPending := 0 }).raise (.ejectFailed d)
  let s :=
    if d = 0 then s
    else
      let r := s.requestEject 0 owed
      r.1.modifyDevice d fun x => { x with replaced := r.2 }
  s.ballEndCheckInPlay

/-- The expiry of device d's eject timer: the first two raise EJECT_REQ again and restart it, the third
faults the device (R117). -/
def State.ejectExpiry (s : State) (d : Fin 6) : State :=
  if 2 ≤ (s.device d).retries then s.faultDevice d
  else
    (s.modifyDevice d fun r =>
      { r with retries := r.retries + 1, ejectTimer := some r.timeout }).raise (.ejectReq d)

/-- BDT_TICK (R117). -/
def execBdtTick (s : State) : Host.Outcome State Fault Refusal := .next s.bdtTick

/-- EJECT_EXPIRY: taken for a device whose eject timer the last tick found at its last count and which no
exit has stopped or restarted since; for any other there is no expiry to take (R117, R118, log 4). -/
def execEjectExpiry (device : Fin 6) (s : State) : Host.Outcome State Fault Refusal :=
  .next (if s.bdt.expiring[device] = true ∧ (s.device device).atLast = true then s.ejectExpiry device else s)

/-! ### Definitions (R103 to R105, R38) -/

/-- The device kind a DEFINE_DEVICE names: TROUGH for device 0, LOCK or SCOOP for the others; a LOCK's
steal policy and keep_room are checked, those of the other kinds are not (R104). -/
def deviceKind? (d : Fin 6) (kind steal room : Nat) : Option DeviceKind :=
  match kind with
  | 1 => if d = 0 then some .trough else none
  | 2 => if d = 0 then none else (flag? steal).bind fun st => (flag? room).map (.lock st)
  | 3 => if d = 0 then none else some .scoop
  | _ => none

/-- Whether a present device other than d names a switch as its entry or exit switch (R104). -/
def State.switchTaken (s : State) (d : Fin 6) (sw : Fin 128) : Bool :=
  (List.finRange 6).any fun e =>
    decide (e ≠ d) &&
      match (s.device e).definition with
      | some x => decide (x.entrySwitch = sw) || decide (x.exitSwitch = sw)
      | none => false

/-- The definition a DEFINE_DEVICE of device d gives (R104): none when a check fails. -/
def State.deviceDef? (s : State) (d : Fin 6) (p : List Byte) : Option (Option DeviceDef) :=
  if byteAt p 1 = 0 then some none
  else
    match deviceKind? d (byteAt p 2) (byteAt p 7) (byteAt p 8), index? 128 (byteAt p 3), index? 128 (byteAt p 4) with
    | some kind, some entry, some exit =>
      if byteAt p 1 ≤ (if d = 0 then 12 else 6) ∧ entry ≠ exit ∧ s.switchTaken d entry = false ∧
          s.switchTaken d exit = false ∧ 10 ≤ numberAt p 5 2 ∧ numberAt p 5 2 ≤ 500 then
        some (some ⟨kind, byteAt p 1, entry, exit, numberAt p 5 2⟩)
      else none
    | _, _, _ => none

/-- Whether a present device names a switch as its entry or exit switch (R36, R38). -/
def State.switchNamed (s : State) (sw : Fin 128) : Bool :=
  (List.finRange 6).any fun e =>
    match (s.device e).definition with
    | some x => decide (x.entrySwitch = sw) || decide (x.exitSwitch = sw)
    | none => false

/-- Whether device d is present and names a switch as its entry switch (R36, R38). -/
def State.entersAt (s : State) (d : Fin 6) (sw : Fin 128) : Bool :=
  match (s.device d).definition with
  | some x => decide (x.entrySwitch = sw)
  | none => false

/-- Whether device d is present and names a switch as its exit switch (R36, R38). -/
def State.leavesAt (s : State) (d : Fin 6) (sw : Fin 128) : Bool :=
  match (s.device d).definition with
  | some x => decide (x.exitSwitch = sw)
  | none => false

/-- Whether a rule agrees with the device table (R36, R38). -/
def State.ruleAgrees (s : State) (sw : Fin 128) : Rule → Bool
  | .ignored => true
  | .scoring _ _ _ => !s.switchNamed sw
  | .deviceEntry d _ _ => s.entersAt d sw
  | .deviceExit d => s.leavesAt d sw

/-- The rule table brought into agreement with the device table: a rule that does not agree is IGNORED (R38). -/
def State.agreeRules (s : State) : State :=
  { s with evl := ⟨Vector.ofFn fun sw => if s.ruleAgrees sw s.evl.rules[sw] then s.evl.rules[sw] else .ignored⟩ }

/-- DEFINE_DEVICE as its owner takes it: the definition replaced, the state that of an empty idle device,
the claims emptied, OK becomes UNCOUNTED, the rules agree (R104, R105, R38). -/
def defineDevice (p : List Byte) (s : State) : State × Reply :=
  match index? 6 (byteAt p 0) with
  | none => (s, .bare .outOfRange)
  | some d =>
    match s.deviceDef? d p with
    | none => (s, .bare .outOfRange)
    | some x =>
      let s := s.modifyDevice d fun _ => { Device.absent with definition := x }
      let s := s.setClaims d []
      let s := { s with bdt := { s.bdt with
        tracking := if s.bdt.tracking = Tracking.ok then .uncounted else s.bdt.tracking } }
      (s.agreeRules, .bare .ok)

/-- DEFINE_DEVICE (R104, R105). -/
def execDefineDevice (payload : List Byte) (s : State) : Host.Outcome State Fault Refusal :=
  takeRequest 0x63 true 9 (defineDevice payload) payload s

/-! ### CLEAR_DEVICE_FAULT, RECOUNT, READ_DEVICE (R120 to R122) -/

/-- CLEAR_DEVICE_FAULT as its owner takes it (R120). -/
def clearDeviceFault (p : List Byte) (s : State) : State × Reply :=
  match index? 6 (byteAt p 0) with
  | none => (s, .bare .outOfRange)
  | some d =>
    if (s.device d).present = false then (s, .bare .outOfRange)
    else if (s.device d).faulted = false then (s, .bare .wrongState)
    else (s.modifyDevice d fun r => { r with faulted := false, retries := 0, replaced := 0 }, .bare .ok)

/-- CLEAR_DEVICE_FAULT (R120). -/
def execClearDeviceFault (payload : List Byte) (s : State) : Host.Outcome State Fault Refusal :=
  takeRequest 0x32 false 1 (clearDeviceFault payload) payload s

/-- A device after RECOUNT: the occupancy given, eject_pending clamped to it; one that falls to 0 stops
the timer and clears the retries (R121, log 14). -/
def Device.recount (r : Device) (occ : Nat) : Device :=
  if r.ejectPending ≤ occ then { r with occupancy := occ }
  else if occ = 0 then { r with occupancy := 0, ejectPending := 0, retries := 0, ejectTimer := none }
  else { r with occupancy := occ, ejectPending := occ }

/-- The sum of the occupancies and balls_in_play a RECOUNT carries. -/
def recountSum (p : List Byte) : Nat := ((List.range 7).map (byteAt p)).sum

/-- Whether a RECOUNT adds up and fits the devices (R121). -/
def State.recountFits (s : State) (p : List Byte) : Bool :=
  ((List.finRange 6).all fun d => decide (byteAt p d.val ≤ (s.device d).capacity)) &&
    decide (byteAt p 6 ≤ 12) && decide (recountSum p = s.gpc.params.installed)

/-- The oldest claims beyond an occupancy removed (R121, R134). -/
def trimClaims (l : List Nat) (occ : Nat) : List Nat := l.drop (l.length - occ)

/-- RECOUNT as its owner takes it (R121). -/
def recount (p : List Byte) (s : State) : State × Reply :=
  if s.recountFits p then
    let s := { s with
      bdt := ⟨Vector.ofFn fun d => s.bdt.devices[d].recount (byteAt p d.val), byteAt p 6, .ok, s.bdt.expiring⟩
      lmc := { s.lmc with claims := Vector.ofFn fun d => trimClaims s.lmc.claims[d] (byteAt p d.val) } }
    (if s.gpc.game = .inPlay then s.multiballCheck.ballEndCheck else s, .bare .ok)
  else (s, .bare .outOfRange)

/-- RECOUNT (R121). -/
def execRecount (payload : List Byte) (s : State) : Host.Outcome State Fault Refusal :=
  takeRequest 0x31 false 7 (recount payload) payload s

/-- The definition fields of a device image, with the absent marks of R207. -/
def Device.definitionBytes (r : Device) : List Byte :=
  match r.definition with
  | some x =>
    [x.kind.code, small x.capacity, small x.entrySwitch.val, small x.exitSwitch.val] ++ numberBytes 2 x.timeout ++
      x.kind.lockBytes
  | none => [0, 0, absentMark, absentMark, 0, 0, absentMark, absentMark]

/-- The device image (R122, R207). -/
def State.deviceImage (s : State) (d : Fin 6) : List Byte :=
  let r := s.device d
  [small d.val] ++ r.definitionBytes ++ [small r.occupancy, small r.ejectPending, small r.retries] ++
    numberBytes 2 (r.ejectTimer.getD 0) ++ [flagByte r.faulted, small r.replaced] ++
    [small s.bdt.ballsInPlay, small s.gpc.params.installed, s.bdt.tracking.code] ++
    [small (s.claimsOf d).length] ++ (s.claimsOf d).map small

/-- READ_DEVICE as its owner takes it (R122). -/
def readDevice (p : List Byte) (s : State) : State × Reply :=
  match index? 6 (byteAt p 0) with
  | none => (s, .bare .outOfRange)
  | some d => (s, .ok (s.deviceImage d))

/-- READ_DEVICE (R122). -/
def execReadDevice (payload : List Byte) (s : State) : Host.Outcome State Fault Refusal :=
  takeRequest 0x30 false 1 (readDevice payload) payload s

end Sys2Proof.Machine
end

