-- ==== Sys2Proof/Machine/Evaluator.lean ====
section
/-! DEFINITION. EVL: the award evaluation of a queue entry, and the rule table's requests (03); the take
of the queue head (R27). -/

namespace Sys2Proof.Machine

/-! ### The evaluation (R41 to R54) -/

/-- An award record performed for an entry of count k, for the current player (R48 to R54). -/
def State.performAward (s : State) (k : Nat) : Award → State
  | .score v applyPf => s.credit s.currentPlayer (awardPoints v.worth k 1 (s.pfFactor applyPf)) none
  | .bonus v => s.addBonus s.currentPlayer (v.worth * k)
  | .bonusMult n => s.raiseBonusMult s.currentPlayer (n * k)
  | .advance c => s.advanceCounter c k
  | .jackpot applyPf => s.collectJackpot applyPf
  | .lightLock => s.lightLock
  | .startMode t => s.autoStart t
  | .extraBall => s.giveExtraBall s.currentPlayer

/-- The base awards, in list order (R48). -/
def State.baseAwards (s : State) (k : Nat) (awards : List Award) : State :=
  awards.foldl (fun s a => s.performAward k a) s

/-- The walk of the stack taken at the entry, then the base awards unless it was stopped (R43, R47). -/
def State.scoreHit (s : State) (g : Fin 16) (k : Nat) (awards : List Award) (stack : List (Fin 12)) : State :=
  let r := s.walk g k (stack.filter s.isRunning) stack
  if r.2 then r.1 else r.1.baseAwards k awards

/-- The evaluation of an entry whose class agrees with its rule's (R42 to R45); one whose class no longer
agrees is discarded, for a device class with a tracking fault (R41). -/
def State.evaluate (s : State) (e : Entry) : State :=
  match e.cls, s.evl.rules[e.switch] with
  | .scoring, .scoring _ g awards => if s.scores then s.scoreHit g e.count awards s.mst.stack else s
  | .deviceEntry, .deviceEntry d g awards =>
    let s' := s.enterDevice d
    if s'.scores then s'.scoreHit g 1 awards s.mst.stack else s'
  | .deviceExit, .deviceExit d => s.exitDevice d
  | .scoring, _ => s
  | .deviceEntry, _ | .deviceExit, _ => s.trackingFault

/-- The take of the head: the entry leaves the queue, and a count of 23 or less clears the
overrun-reported flag (R26, R27). -/
def State.takeHead (s : State) (rest : List Entry) : State :=
  { s with swi := ⟨rest, if rest.length ≤ 23 then false else s.swi.overrun⟩ }

/-- AWARD_EVALUATION: the head is taken and evaluated whole; with the queue empty or the line HELD EVL
takes nothing (R27, R28, log 7). -/
def execAwardEvaluation (s : State) : Host.Outcome State Fault Refusal :=
  .next (match s.swi.queue with
    | e :: rest => if s.lineState = .held then s else (s.takeHead rest).evaluate e
    | [] => s)

/-! ### DEFINE_RULE, READ_RULE (R35 to R39) -/

/-- The rule a payload gives for its class, checked as R35 gives, the device check apart. -/
def rule? (p : List Byte) : Option Rule :=
  match byteAt p 1 with
  | 0 => some .ignored
  | 1 =>
    match edge? (byteAt p 3), index? 16 (byteAt p 4), awardsAt? p 6 (byteAt p 5) with
    | some e, some g, some l => if l.length ≤ 4 then some (.scoring e g l) else none
    | _, _, _ => none
  | 2 =>
    match index? 6 (byteAt p 2), index? 16 (byteAt p 4), awardsAt? p 6 (byteAt p 5) with
    | some d, some g, some l => if l.length ≤ 4 then some (.deviceEntry d g l) else none
    | _, _, _ => none
  | 3 =>
    match index? 6 (byteAt p 2) with
    | some d => if byteAt p 5 = 0 then some (.deviceExit d) else none
    | none => none
  | _ => none

/-- DEFINE_RULE as its owner takes it: the checks of R35 and R36, then the whole entry replaced (R37). -/
def defineRule (p : List Byte) (s : State) : State × Reply :=
  match index? 128 (byteAt p 0), rule? p with
  | some sw, some r =>
    if s.ruleAgrees sw r then ({ s with evl := ⟨s.evl.rules.set sw.val r sw.isLt⟩ }, .bare .ok)
    else (s, .bare .outOfRange)
  | _, _ => (s, .bare .outOfRange)

/-- DEFINE_RULE (R35 to R37); its length follows the count byte as received (R200). -/
def execDefineRule (payload : List Byte) (s : State) : Host.Outcome State Fault Refusal :=
  takeRequest 0x60 true (6 + 5 * byteAt payload 5) (defineRule payload) payload s

/-- The bytes of a rule entry: class, device, edge, group, award list, with the absent marks (R39, R206). -/
def Rule.bytes : Rule → List Byte
  | .ignored => [0, absentMark, absentMark, absentMark, 0]
  | .scoring e g l => [1, absentMark, e.code, small g.val] ++ awardListBytes l
  | .deviceEntry d g l => [2, small d.val, absentMark, small g.val] ++ awardListBytes l
  | .deviceExit d => [3, small d.val, absentMark, absentMark, 0]

/-- READ_RULE as its owner takes it (R39). -/
def readRule (p : List Byte) (s : State) : State × Reply :=
  match index? 128 (byteAt p 0) with
  | none => (s, .bare .outOfRange)
  | some sw => (s, .ok (s.evl.rules[sw]).bytes)

/-- READ_RULE (R39). -/
def execReadRule (payload : List Byte) (s : State) : Host.Outcome State Fault Refusal :=
  takeRequest 0x0A false 1 (readRule payload) payload s

end Sys2Proof.Machine
end

