-- ==== Sys2Proof/Machine/Intake.lean ====
section
/-! DEFINITION. SWI: arrivals, the places they take in the event queue, overrun, and SWI's requests (02). -/

namespace Sys2Proof.Machine

/-- What becomes of an accepted report: a new queue, by coalescing or by a new entry (R23 to R25). -/
inductive Placing where
  | coalesced (queue : List Entry)
  | appended (queue : List Entry)
  | dropped
  deriving DecidableEq, Repr

/-- Whether a scoring report for a switch coalesces into the tail entry (R23). -/
def coalesces (queue : List Entry) (sw : Fin 128) : Bool :=
  match queue.getLast? with
  | some e => decide (e.switch = sw) && decide (e.cls = .scoring) && decide (e.count < 255)
  | none => false

/-- The queue with the tail entry's count raised by 1 (R23). -/
def coalesced : List Entry → List Entry
  | [] => []
  | [e] => [{ e with count := e.count + 1 }]
  | e :: rest => e :: coalesced rest

/-- The place of an accepted report: a scoring report coalesces, or is appended while at least 9 entries
are free; a device report is appended while one is free (R23 to R25). -/
def place (queue : List Entry) (sw : Fin 128) (cls : EntryClass) : Placing :=
  if cls = .scoring then
    if coalesces queue sw then .coalesced (coalesced queue)
    else if queue.length ≤ 23 then .appended (queue ++ [⟨sw, cls, 1⟩]) else .dropped
  else if queue.length ≤ 31 then .appended (queue ++ [⟨sw, cls, 1⟩]) else .dropped

/-- The class a report is accepted as, by the rule of its switch and its edge; none when it is discarded (R22). -/
def Rule.accepts (r : Rule) (edge : Edge) : Option EntryClass :=
  match r, edge with
  | .scoring e _ _, edge => if e = edge then some .scoring else none
  | .deviceEntry _ _ _, .close => some .deviceEntry
  | .deviceExit _, .close => some .deviceExit
  | _, _ => none

/-- The event queue replaced. -/
def State.setQueue (s : State) (q : List Entry) : State := { s with swi := { s.swi with queue := q } }

/-- The overrun-reported flag set. -/
def State.setOverrun (s : State) : State := { s with swi := { s.swi with overrun := true } }

/-- A dropped report: a scoring one raises QUEUE_OVERRUN and sets the flag while the flag is clear; a
device one makes a tracking fault and raises QUEUE_OVERRUN in either case (R24 to R26, log 9). -/
def State.dropReport (s : State) (cls : EntryClass) : State :=
  if cls = .scoring then
    if s.swi.overrun then s else (s.raise .queueOverrun).setOverrun
  else (s.trackingFault.raise .queueOverrun).setOverrun

/-- The arrival of an accepted report from the Switch Port (R23 to R26). -/
def State.arrive (s : State) (sw : Fin 128) (cls : EntryClass) : State :=
  match place s.swi.queue sw cls with
  | .coalesced q => s.setQueue q
  | .appended q => s.setQueue q
  | .dropped => s.dropReport cls

/-- SWITCH_REPORT: a byte whose stop bit is low is a framing error and discarded; any other is a report,
classified by the rule of its switch (R21, R22, R209). -/
def execSwitchReport (byte : Byte) (stopBit : Bool) (s : State) : Host.Outcome State Fault Refusal :=
  let report := decodeSwitchByte byte
  .next (if stopBit = false then s
    else match (s.evl.rules[report.2]).accepts (if report.1 then .close else .opening) with
      | some cls => s.arrive report.2 cls
      | none => s)

/-- The class an injected report has: that of the rule, whose own edge it takes (R29). -/
def Rule.injectedClass : Rule → Option EntryClass
  | .ignored => none
  | .scoring _ _ _ => some .scoring
  | .deviceEntry _ _ _ => some .deviceEntry
  | .deviceExit _ => some .deviceExit

/-- The payload of INJECT_SWITCH's answer, carried under every status: the entry count after the request
and the disposition code (R29, R200). -/
def State.injectAnswer (s : State) (disposition : Byte) : List Byte := [small s.swi.queue.length, disposition]

/-- INJECT_SWITCH as its owner takes it: a report that would be dropped is refused instead (R29). -/
def injectSwitch (p : List Byte) (s : State) : State × Reply :=
  match index? 128 (byteAt p 0) with
  | none => (s, ⟨.outOfRange, s.injectAnswer 0⟩)
  | some sw =>
    match (s.evl.rules[sw]).injectedClass with
    | none => (s, ⟨.undefined, s.injectAnswer 0⟩)
    | some cls =>
      match place s.swi.queue sw cls with
      | .coalesced q => (s.setQueue q, ⟨.ok, (s.setQueue q).injectAnswer 1⟩)
      | .appended q => (s.setQueue q, ⟨.ok, (s.setQueue q).injectAnswer 2⟩)
      | .dropped => (s, ⟨.queueFull, s.injectAnswer 0⟩)

/-- INJECT_SWITCH (R29). -/
def execInjectSwitch (payload : List Byte) (s : State) : Host.Outcome State Fault Refusal :=
  takeRequest 0x09 false 1 (injectSwitch payload) payload s

/-- READ_QUEUE (R30): the entry count, the fill state, the overrun-reported flag. -/
def execReadQueue (payload : List Byte) (s : State) : Host.Outcome State Fault Refusal :=
  takeRequest 0x08 false 0
    (fun s => (s, .ok [small s.swi.queue.length, fillCode s.swi.queue.length, flagByte s.swi.overrun])) payload s

end Sys2Proof.Machine
end

