-- ==== Sys2Proof/Machine/Game.lean ====
section
/-! DEFINITION. GPC: the course of a game, tilt and slam, the line event, and GPC's requests (09). -/

namespace Sys2Proof.Machine

/-! ### Tilt, slam and the end of a game (R177 to R179) -/

/-- The tilt of the current ball: the flag is set and the BALL_SAVE timer released; nothing more when the
flag is set already (R177). -/
def State.tiltBall (s : State) : State :=
  if s.gpc.tilted then s
  else ({ s with gpc := { s.gpc with tilted := true } }).releaseBinding .ballSave

/-- The flag cleared for a new ball, and set again at once when the line state is TILTED (R168, R175, R177). -/
def State.clearTilt (s : State) : State :=
  let s := { s with gpc := { s.gpc with tilted := false } }
  if s.lineState = .tilted then s.tiltBall else s

/-- The launch of a ball: an eject request for one ball from the trough (R168, R175). -/
def State.launch (s : State) : State := (s.requestEject 0 1).1

/-- The end of a game by request or slam, in the order of R179. -/
def State.endGame (s : State) : State :=
  let s := s.setGame .gameOver
  let s := s.endAll State.isStanding .gameEnded
  let s := s.stopMultiball
  let s := s.releaseBound
  s.raise .gameOver

/-- What a line event does by the new line state and the game state (R165, R178). -/
def State.actOnLine (s : State) : State :=
  match s.lineState, s.gpc.game with
  | .tilted, .starting | .tilted, .inPlay => s.tiltBall
  | .slam, .starting | .slam, .inPlay | .slam, .ballOver => s.endGame.clearClaims
  | _, _ => s

/-- A line's new level recorded. -/
def State.setLine (s : State) (line : GameLine) (high : Bool) : State :=
  match line with
  | .playen => { s with gpc := { s.gpc with playenPin := high } }
  | .tilt => { s with gpc := { s.gpc with tiltPin := high } }

/-- LINE_EVENT: a level held less than 20 µs is no change; a change to the line state already held has
no effect; any other is recorded and acts (R164, R165, log 12). -/
def execLineEvent (line : GameLine) (high : Bool) (heldNs : Nat) (s : State) : Host.Outcome State Fault Refusal :=
  .next (if heldNs < 20000 then s
    else if (s.setLine line high).lineState = s.lineState then s.setLine line high
    else (s.setLine line high).actOnLine)

/-! ### START_GAME, ADD_PLAYER (R167 to R169) -/

/-- The first check of START_GAME that fails (R167). -/
def State.startRefusal (s : State) : Option Status :=
  if (s.gpc.game ≠ .idle ∧ s.gpc.game ≠ .gameOver) ∨ s.lineState = .slam then some .wrongState
  else if s.bdt.tracking ≠ .ok then some .faulted
  else if (s.device 0).faulted then some .faulted
  else if (s.device 0).present = false ∨ (s.device 0).occupancy ≤ (s.device 0).ejectPending then some .noBall
  else none

/-- What an accepted START_GAME does, owner by owner in the order of R168. -/
def State.beginGame (s : State) : State :=
  let s := (({ s with ptb := { s.ptb with players := [Player.created] } }).clearCommon).restoreTargets
  let s := s.clearSlots
  let s := s.releaseBound
  let s := s.clearClaims
  let s := { s with lmc := { s.lmc with multiball := false, jackpot := 0 } }
  let s := { s with gpc := { s.gpc with current := some 1, ballNumber := 1 } }
  let s := s.clearTilt
  let s := s.setGame .starting
  s.launch

/-- START_GAME as its owner takes it (R167, R168). -/
def startGame (s : State) : State × Reply :=
  match s.startRefusal with
  | some e => (s, .bare e)
  | none => (s.beginGame, .bare .ok)

/-- START_GAME (R167, R168). -/
def execStartGame (payload : List Byte) (s : State) : Host.Outcome State Fault Refusal :=
  takeRequest 0x10 false 0 startGame payload s

/-- ADD_PLAYER as its owner takes it (R169). -/
def addPlayer (s : State) : State × Reply :=
  if s.gpc.game.inProgress = true ∧ s.gpc.ballNumber = 1 then
    if s.gpc.params.maxPlayers ≤ s.playerCount then (s, .bare .limit)
    else
      ({ s with ptb := { s.ptb with players := s.ptb.players ++ [Player.created] } },
        .ok [small (s.playerCount + 1)])
  else (s, .bare .wrongState)

/-- ADD_PLAYER (R169). -/
def execAddPlayer (payload : List Byte) (s : State) : Host.Outcome State Fault Refusal :=
  takeRequest 0x11 false 0 addPlayer payload s

/-! ### NEXT_BALL (R174 to R176) -/

/-- The extra balls of player p. -/
def State.extraBallsOf (s : State) (p : Nat) : Nat := ((s.player? p).map Player.extraBalls).getD 0

/-- The next ball: the player and the ball number (R174). -/
def State.chooseBall (s : State) : Nat × Nat :=
  if 0 < s.extraBallsOf s.currentPlayer then (s.currentPlayer, s.gpc.ballNumber)
  else if s.currentPlayer < s.playerCount then (s.currentPlayer + 1, s.gpc.ballNumber)
  else (1, s.gpc.ballNumber + 1)

/-- The extra ball a replay spends (R174). -/
def State.spendExtraBall (s : State) : State :=
  s.modifyPlayer s.currentPlayer fun r => { r with extraBalls := r.extraBalls - 1 }

/-- A NEXT_BALL that continues the game, in the order of R175. -/
def State.continueGame (s : State) (p b : Nat) : State :=
  let s := { s with gpc := { s.gpc with current := some p, ballNumber := b } }
  let s := s.clearTilt
  let s := s.resumeAll p
  let s := s.setGame .starting
  s.launch

/-- Whether a slot holds a PARKED context. -/
def State.isParked (s : State) (slot : Fin 12) : Bool :=
  match s.slot? slot with
  | some c => decide (c.phase = .parked)
  | none => false

/-- A NEXT_BALL that ends the game (R176). -/
def State.finishGame (s : State) : State :=
  ((s.setGame .gameOver).endAll State.isParked .gameEnded).raise .gameOver

/-- The answer of NEXT_BALL: the current player, the ball number, the game state, that player's extra
balls (R175, R176, R206). -/
def State.ballImage (s : State) : List Byte :=
  [small s.currentPlayer, small s.gpc.ballNumber, s.gpc.game.code, small (s.extraBallsOf s.currentPlayer)]

/-- An accepted NEXT_BALL (R174). -/
def State.nextBall (s : State) : State :=
  let chosen := s.chooseBall
  let s := s.spendExtraBall
  if s.gpc.params.ballsPerGame < chosen.2 then s.finishGame else s.continueGame chosen.1 chosen.2

/-- NEXT_BALL as its owner takes it (R174). -/
def nextBall (s : State) : State × Reply :=
  if s.gpc.game = .ballOver then (s.nextBall, .ok s.nextBall.ballImage) else (s, .bare .wrongState)

/-- NEXT_BALL (R174). -/
def execNextBall (payload : List Byte) (s : State) : Host.Outcome State Fault Refusal :=
  takeRequest 0x12 false 0 nextBall payload s

/-! ### END_GAME, CLEAR_GAME (R179, R180) -/

/-- END_GAME (R179). -/
def execEndGame (payload : List Byte) (s : State) : Host.Outcome State Fault Refusal :=
  takeRequest 0x13 false 0
    (fun s => if s.gpc.game.inProgress then (s.endGame, .bare .ok) else (s, .bare .wrongState)) payload s

/-- The game record of IDLE: no players, no current player, ball 0, the flag clear (R163, R180, R181). -/
def State.clearGameRecord (s : State) : State :=
  { s with
    ptb := { s.ptb with players := [], commonValues := .replicate 32 0 }
    gpc := { s.gpc with game := .idle, current := none, ballNumber := 0, tilted := false } }

/-- What CLEAR_GAME does: the record of IDLE, the slots FREE, the claims emptied, multiball OFF (R180, R145). -/
def State.clearGame (s : State) : State :=
  let s := s.clearGameRecord.clearSlots.clearClaims
  { s with lmc := { s.lmc with multiball := false } }

/-- CLEAR_GAME (R180). -/
def execClearGame (payload : List Byte) (s : State) : Host.Outcome State Fault Refusal :=
  takeRequest 0x14 false 0
    (fun s => if s.gpc.game = .gameOver then (s.clearGame, .bare .ok) else (s, .bare .wrongState)) payload s

/-! ### SET_GAME_PARAMS, READ_GAME (R166, R182) -/

/-- The game parameters a payload gives, when each is in its range (R166). -/
def gameParams? (p : List Byte) : Option GameParams :=
  if 1 ≤ byteAt p 0 ∧ byteAt p 0 ≤ 10 ∧ 1 ≤ byteAt p 1 ∧ byteAt p 1 ≤ 6 ∧ 1 ≤ byteAt p 2 ∧ byteAt p 2 ≤ 12 then
    some ⟨byteAt p 0, byteAt p 1, byteAt p 2, numberAt p 3 2⟩
  else none

/-- The bytes of the game parameters (R205, R206). -/
def GameParams.bytes (x : GameParams) : List Byte :=
  [small x.ballsPerGame, small x.maxPlayers, small x.installed] ++ numberBytes 2 x.ballSaveTicks

/-- SET_GAME_PARAMS as its owner takes it; another installed count makes OK UNCOUNTED (R107, R166). -/
def setGameParams (p : List Byte) (s : State) : State × Reply :=
  match gameParams? p with
  | some x =>
    ({ s with
      gpc := { s.gpc with params := x }
      bdt := { s.bdt with
        tracking := if x.installed ≠ s.gpc.params.installed ∧ s.bdt.tracking = Tracking.ok then .uncounted
          else s.bdt.tracking } }, .bare .ok)
  | none => (s, .bare .outOfRange)

/-- SET_GAME_PARAMS (R166). -/
def execSetGameParams (payload : List Byte) (s : State) : Host.Outcome State Fault Refusal :=
  takeRequest 0x65 true 5 (setGameParams payload) payload s

/-- The answer of READ_GAME (R182, R206). -/
def State.gameImage (s : State) : List Byte :=
  [s.gpc.game.code, s.lineState.code, small s.playerCount, small s.currentPlayer, small s.gpc.ballNumber,
    small s.gpc.params.ballsPerGame, flagByte s.gpc.tilted, flagByte s.lmc.multiball] ++ numberBytes 5 s.lmc.jackpot ++
    [flagByte s.ballSaveActive, small s.bdt.ballsInPlay, s.bdt.tracking.code]

/-- READ_GAME (R182). -/
def execReadGame (payload : List Byte) (s : State) : Host.Outcome State Fault Refusal :=
  takeRequest 0x01 false 0 (fun s => (s, .ok s.gameImage)) payload s

end Sys2Proof.Machine
end

