-- ==== Sys2Proof/Machine/Link.lean ====
section
/-! DEFINITION. GLK: frames it answers alone, NOP, READ_PARAMS, SOFT_RESET (10); and the reset pin (R210). -/

namespace Sys2Proof.Machine

/-- SHORT_FRAME: discarded and answered BAD_LENGTH; the echo is the code byte received, or 0x00 (R184). -/
def execShortFrame (bytes : List Byte) (s : State) : Host.Outcome State Fault Refusal :=
  .next (s.transaction fun s => s.answer (bytes.headD 0x00) .badLength [])

/-- UNKNOWN_REQUEST: discarded and answered UNKNOWN_REQUEST with length 0 (R187). -/
def execUnknownRequest (code : Byte) (_payload : List Byte) (s : State) : Host.Outcome State Fault Refusal :=
  .next (s.transaction fun s => s.answer code .unknownRequest [])

/-- NOP: answers OK and changes nothing (R186). -/
def execNop (payload : List Byte) (s : State) : Host.Outcome State Fault Refusal :=
  takeRequest 0x00 false 0 (fun s => (s, .bare .ok)) payload s

/-- READ_PARAMS as its owner takes it (R190). -/
def readParams (p : List Byte) (s : State) : State × Reply :=
  match byteAt p 0 with
  | 0 => (s, .ok s.gpc.params.bytes)
  | 1 => (s, .ok s.lmc.params.bytes)
  | 2 => (s, .ok (thresholdBytes s.scu.thresholds))
  | _ => (s, .bare .outOfRange)

/-- READ_PARAMS (R190). -/
def execReadParams (payload : List Byte) (s : State) : Host.Outcome State Fault Refusal :=
  takeRequest 0x67 false 1 (readParams payload) payload s

/-- A device after SOFT_RESET: its eject requests dropped, READY, its definition and occupancy kept (R124). -/
def Device.softReset (r : Device) : Device :=
  { r with ejectPending := 0, retries := 0, ejectTimer := none, faulted := false, replaced := 0 }

/-- What SOFT_RESET does, block by block (R181, R191). -/
def State.softReset (s : State) : State :=
  let s := s.clearGameRecord.restoreTargets.clearSlots.clearClaims
  { s with
    swi := ⟨[], false⟩
    bdt := { s.bdt with devices := mapTable Device.softReset s.bdt.devices, expiring := .replicate 6 false }
    lmc := { s.lmc with multiball := false, jackpot := 0 }
    tmu := ⟨.replicate 16 none, .replicate 16 false⟩
    ntu := { s.ntu with lists := .replicate 7 [] } }

/-- SOFT_RESET (R191). -/
def execSoftReset (payload : List Byte) (s : State) : Host.Outcome State Fault Refusal :=
  takeRequest 0x5F false 0 (fun s => (s.softReset, .bare .ok)) payload s

/-- The part at the rise of RESET_N: every record at its power-on value, the line state formed from the
pins as they stand, a chip select that is low waited out (R192, R210). What is not the part's, the
commands still waiting and the count of free uses, stays. -/
def State.powerOn (s : State) (playen tilt csN : Bool) : State :=
  { State.reset with
    gpc := { State.reset.gpc with playenPin := playen, tiltPin := tilt }
    glk := { State.reset.glk with waiting := !csN }
    freeUse := s.freeUse
    pending := s.pending }

/-- RESET: a low level of 1 µs or longer resets the part; a shorter one has no effect (R210, log 12). -/
def execReset (lowNs : Nat) (playen tilt csN : Bool) (s : State) : Host.Outcome State Fault Refusal :=
  .next (if lowNs < 1000 then s else s.powerOn playen tilt csN)

end Sys2Proof.Machine
end

