-- ==== Sys2Proof/Machine/ModeRequests.lean ====
section
/-! DEFINITION. The requests of MST: templates, starts, stops, adjustments, reads and retirement (05, 5.10). -/

namespace Sys2Proof.Machine

/-! ### DEFINE_TEMPLATE (R75, R76) -/

/-- The fields of an EXCLUSIVE or ADDITIVE template, when they pass the checks (R75). -/
def shotFields? (p : List Byte) : Option ShotFields :=
  match flag? (byteAt p 13), pointAt? p 15 with
  | some retrigger, some completion => some ⟨numberAt p 11 2, retrigger, byteAt p 14, completion⟩
  | _, _ => none

/-- The fields of a HURRY template with start value `start`, when they pass the checks (R75). -/
def hurryFields? (p : List Byte) (start : PointValue) : Option HurryFields :=
  match pointAt? p 24 with
  | some floor =>
    if floor.worth ≤ start.worth ∧ byteAt p 27 ≠ 0 ∧ byteAt p 28 ≤ 7 ∧ numberAt p 29 2 ≠ 0 then
      some ⟨floor, byteAt p 27, byteAt p 28, numberAt p 29 2⟩
    else none
  | none => none

/-- The kind of a template with its fields; fields the kind does not use are not checked (R75). -/
def templateKind? (p : List Byte) (start : PointValue) : Option TemplateKind :=
  match byteAt p 3 with
  | 0 => (shotFields? p).map .exclusive
  | 1 => (shotFields? p).map .additive
  | 2 => (hurryFields? p start).map .hurry
  | _ => none

/-- The template a DEFINE_TEMPLATE with the defined flag yes gives, when it passes the checks (R75, R205,
log 15). -/
def template? (p : List Byte) : Option Template :=
  match pointAt? p 6, flag? (byteAt p 10), nextTemplate? (byteAt p 18), nextTemplate? (byteAt p 19),
    index? 8 (byteAt p 20), flag? (byteAt p 21), flag? (byteAt p 22), flag? (byteAt p 23) with
  | some value, some applyPf, some onCompletion, some onTimeout, some group, some carries, some mbOnly, some ignores =>
    match templateKind? p value with
    | some kind =>
      if byteAt p 2 ≤ 15 ∧ 1 ≤ byteAt p 9 ∧ byteAt p 9 ≤ 10 then
        some ⟨byteAt p 2, kind, BitVec.ofNat 16 (numberAt p 4 2), value, byteAt p 9, applyPf, onCompletion, onTimeout,
          group, carries, mbOnly, !ignores⟩
      else none
    | none => none
  | _, _, _, _, _, _, _, _ => none

/-- What a DEFINE_TEMPLATE writes: none when it is refused (R75). -/
def templateEntry? (p : List Byte) : Option (Option Template) :=
  match flag? (byteAt p 1) with
  | some false => some none
  | some true => (template? p).map some
  | none => none

/-- DEFINE_TEMPLATE as its owner takes it (R75, R76). -/
def defineTemplate (p : List Byte) (s : State) : State × Reply :=
  match index? 32 (byteAt p 0), templateEntry? p with
  | some t, some x =>
    ({ s with mst := { s.mst with templates := s.mst.templates.set t.val x t.isLt } }, .bare .ok)
  | _, _ => (s, .bare .outOfRange)

/-- DEFINE_TEMPLATE (R75, R76). -/
def execDefineTemplate (payload : List Byte) (s : State) : Host.Outcome State Fault Refusal :=
  takeRequest 0x62 true 31 (defineTemplate payload) payload s

/-! ### START_MODE, STOP_MODE, RETIRE_MODE (R98, R99, R102) -/

/-- START_MODE as its owner takes it: the slot is answered when the start succeeded (R98). -/
def startModeRequest (p : List Byte) (s : State) : State × Reply :=
  match index? 32 (byteAt p 0) with
  | none => (s, .bare .outOfRange)
  | some t =>
    match s.startMode t with
    | (s, .started slot) => (s, .ok [small slot.val])
    | (s, .stood slot) => (s, .ok [small slot.val])
    | (s, .failed e) => (s, .bare e)

/-- START_MODE (R98). -/
def execStartMode (payload : List Byte) (s : State) : Host.Outcome State Fault Refusal :=
  takeRequest 0x20 false 1 (startModeRequest payload) payload s

/-- STOP_MODE as its owner takes it: a standing context of any player ends ABORTED (R99). -/
def stopMode (p : List Byte) (s : State) : State × Reply :=
  match index? 12 (byteAt p 0) with
  | none => (s, .bare .outOfRange)
  | some slot =>
    if s.isStanding slot then (s.endContext slot .aborted true, .bare .ok) else (s, .bare .wrongState)

/-- STOP_MODE (R99). -/
def execStopMode (payload : List Byte) (s : State) : Host.Outcome State Fault Refusal :=
  takeRequest 0x21 false 1 (stopMode payload) payload s

/-- Whether a slot's context is ENDED. -/
def State.isEnded (s : State) (slot : Fin 12) : Bool :=
  match s.slot? slot with
  | some c => !c.phase.stands
  | none => false

/-- RETIRE_MODE as its owner takes it: an ENDED slot becomes FREE and leaves the ended list (R102). -/
def retireMode (p : List Byte) (s : State) : State × Reply :=
  match index? 12 (byteAt p 0) with
  | none => (s, .bare .outOfRange)
  | some slot =>
    if s.isEnded slot then
      (({ s with mst := { s.mst with ended := s.mst.ended.erase slot } }).setSlot slot none, .bare .ok)
    else (s, .bare .notEnded)

/-- RETIRE_MODE (R102). -/
def execRetireMode (payload : List Byte) (s : State) : Host.Outcome State Fault Refusal :=
  takeRequest 0x23 false 1 (retireMode payload) payload s

/-! ### ADJUST_MODE (R100) -/

/-- Whether bit i of a select set is set. -/
def selected (p : List Byte) (i : Nat) : Bool := (byteAt p 1).testBit i

/-- The parts of an ADJUST_MODE: what its select set chose (R100). -/
structure Adjustment where
  ticks : Option Nat
  value : Option PointValue
  multiplier : Option Nat
  period : Option Nat
  deriving DecidableEq, Repr

/-- The parts read from the payload; none when the select set names anything else or a selected point
value is out of range (R100). -/
def adjustment? (p : List Byte) : Option Adjustment :=
  if 16 ≤ byteAt p 1 ∨ (selected p 1 = true ∧ (pointAt? p 4).isNone) then none
  else some ⟨if selected p 0 then some (numberAt p 2 2) else none, if selected p 1 then pointAt? p 4 else none,
    if selected p 2 then some (byteAt p 7) else none, if selected p 3 then some (numberAt p 8 2) else none⟩

/-- The time part: the remaining count rises by the ticks, held at 65,535 (R100, R154). -/
def State.addTime (s : State) (slot : Fin 12) (c : Context) (ticks : Nat) : State :=
  if c.phase = .parked then s.modifySlot slot fun c => { c with stored := min (c.stored + ticks) 65535 }
  else s.amendHeld c.timer fun r => { r with remaining := min (r.remaining + ticks) 65535 }

/-- The value an adjustment sets: the worth, for HURRY held between the floor and the start value (R67, R100). -/
def Template.adjusted (tm : Template) (worth : Nat) : Nat :=
  match tm.kind with
  | .hurry f => max f.floor.worth (min worth tm.value.worth)
  | _ => worth

/-- The multiplier an adjustment sets: held to 1..10 (R100). -/
def heldMultiplier (m : Nat) : Nat := max 1 (min m 10)

/-- The parts applied, in the order of the table of R100. -/
def State.applyAdjustment (s : State) (slot : Fin 12) (c : Context) (tm : Template) (a : Adjustment) : State :=
  let s := match a.ticks with
    | some n => s.addTime slot c n
    | none => s
  let s := match a.value with
    | some v => s.modifySlot slot fun c => { c with value := tm.adjusted v.worth }
    | none => s
  let s := match a.multiplier with
    | some m => s.modifySlot slot fun c => { c with multiplier := heldMultiplier m }
    | none => s
  match a.period with
  | some n => s.amendHeld c.timer fun r => { r with staged := some n }
  | none => s

/-- Whether any part was held at a bound (R100). -/
def State.adjustmentHeld (s : State) (c : Context) (tm : Template) (a : Adjustment) : Bool :=
  (match a.ticks with
    | some n => decide (65535 < s.remainingOf c + n)
    | none => false) ||
  (match a.value with
    | some v => decide (tm.adjusted v.worth ≠ v.worth)
    | none => false) ||
  (match a.multiplier with
    | some m => decide (heldMultiplier m ≠ m)
    | none => false)

/-- The checks of R100 that follow the slot's state: time on an untimed context, decay period on a context
that is not HURRY or with a period of 0, then decay period on a PARKED context. -/
def adjustmentRefused (c : Context) (tm : Template) (a : Adjustment) : Option Status :=
  if a.ticks.isSome = true ∧ tm.period?.isNone = true then some .outOfRange
  else
    match a.period with
    | some n =>
      if tm.isHurry = false ∨ n = 0 then some .outOfRange
      else if c.phase = .parked then some .wrongState
      else none
    | none => none

/-- ADJUST_MODE as its owner takes it (R100). -/
def adjustMode (p : List Byte) (s : State) : State × Reply :=
  match index? 12 (byteAt p 0), adjustment? p with
  | some slot, some a =>
    match s.slot? slot, s.slotTemplate? slot with
    | some c, some tm =>
      if c.phase.stands = false then (s, .bare .wrongState)
      else
        match adjustmentRefused c tm a with
        | some e => (s, .bare e)
        | none =>
          let s' := s.applyAdjustment slot c tm a
          match s'.slot? slot with
          | some c' => (s', ⟨if s.adjustmentHeld c tm a then .clamped else .ok,
              numberBytes 2 (s'.remainingOf c') ++ numberBytes 5 c'.value ++ [small c'.multiplier]⟩)
          | none => (s, .bare .wrongState)
    | _, _ => (s, .bare .wrongState)
  | _, _ => (s, .bare .outOfRange)

/-- ADJUST_MODE (R100). -/
def execAdjustMode (payload : List Byte) (s : State) : Host.Outcome State Fault Refusal :=
  takeRequest 0x24 false 10 (adjustMode payload) payload s

/-! ### READ_MODE, READ_STACK (R101) -/

/-- A timer number, or the absent mark. -/
def timerByte (t : Option (Fin 16)) : Byte :=
  match t with
  | some t => small t.val
  | none => absentMark

/-- The context image (R101, R207). -/
def State.contextImage (s : State) (slot : Fin 12) : List Byte :=
  match s.slot? slot with
  | none => [small slot.val, 0, absentMark, 0, 0] ++ numberBytes 5 0 ++ [0] ++ numberBytes 5 0 ++ [absentMark, 0, 0, 0]
  | some c =>
    [small slot.val, c.phase.code, small c.template.val, small c.owner, small c.hits] ++ numberBytes 5 c.value ++
      [small c.multiplier] ++ numberBytes 5 c.total ++ [timerByte c.timer] ++ numberBytes 2 (s.remainingOf c) ++
      [c.phase.reasonByte]

/-- READ_MODE as its owner takes it (R101). -/
def readMode (p : List Byte) (s : State) : State × Reply :=
  match index? 12 (byteAt p 0) with
  | none => (s, .bare .outOfRange)
  | some slot => (s, .ok (s.contextImage slot))

/-- READ_MODE (R101). -/
def execReadMode (payload : List Byte) (s : State) : Host.Outcome State Fault Refusal :=
  takeRequest 0x22 false 1 (readMode payload) payload s

/-- A list of slots as its count and numbers. -/
def slotListBytes (l : List (Fin 12)) : List Byte := small l.length :: l.map fun slot => small slot.val

/-- READ_STACK (R101): the mode stack from the head, then the ended list from the oldest. -/
def execReadStack (payload : List Byte) (s : State) : Host.Outcome State Fault Refusal :=
  takeRequest 0x25 false 0
    (fun s => (s, .ok (slotListBytes s.mst.stack ++ slotListBytes s.mst.ended))) payload s

end Sys2Proof.Machine
end

