-- ==== Sys2Proof/Machine/Notices.lean ====
section
/-! DEFINITION. NTU: finding, acknowledging and enabling notices (10, 10.8 and 10.9). -/

namespace Sys2Proof.Machine

/-- Whether a source is pending (R193). -/
def Ntu.isPending (n : Ntu) (x : Source) : Bool := decide (x ∈ n.lists[x.group])

/-- A source removed from its list wherever it stands; those behind it close up (R198). -/
def Ntu.remove (n : Ntu) (x : Source) : Ntu :=
  { n with lists := n.lists.set x.group.val (n.lists[x.group].erase x) x.group.isLt }

/-- The bytes of PEEK_NOTICE's answer (R197). -/
def Ntu.peek (n : Ntu) : List Byte := [small n.nextVector, small n.groupSet]

/-- PEEK_NOTICE (R197). -/
def execPeekNotice (payload : List Byte) (s : State) : Host.Outcome State Fault Refusal :=
  takeRequest 0x50 false 0 (fun s => (s, .ok s.ntu.peek)) payload s

/-- ACK_NOTICE as its owner takes it (R198). -/
def ackNotice (p : List Byte) (s : State) : State × Reply :=
  match sourceOf? (byteAt p 0) with
  | none => (s, .bare .outOfRange)
  | some x =>
    if s.ntu.isPending x then
      ({ s with ntu := s.ntu.remove x }, .ok [small (s.ntu.remove x).nextVector])
    else (s, .bare .notPending)

/-- ACK_NOTICE (R198). -/
def execAckNotice (payload : List Byte) (s : State) : Host.Outcome State Fault Refusal :=
  takeRequest 0x51 false 1 (ackNotice payload) payload s

/-- SET_NOTICE_ENABLE as its owner takes it: bit 7 names no group (R195, R203). -/
def setNoticeEnable (p : List Byte) (s : State) : State × Reply :=
  if 128 ≤ byteAt p 0 then (s, .bare .outOfRange)
  else ({ s with ntu := { s.ntu with enabled := BitVec.ofNat 7 (byteAt p 0) } }, .ok [small (byteAt p 0)])

/-- SET_NOTICE_ENABLE (R195). -/
def execSetNoticeEnable (payload : List Byte) (s : State) : Host.Outcome State Fault Refusal :=
  takeRequest 0x52 false 1 (setNoticeEnable payload) payload s

end Sys2Proof.Machine
end

