-- ==== Sys2Proof/Machine/Players.lean ====
section
/-! DEFINITION. PTB: reading and writing player records, and the playfield multiplier (01, 1.1 and 1.2). -/

namespace Sys2Proof.Machine

/-- The image of a player record (R2, R206). -/
def Player.image (r : Player) : List Byte :=
  numberBytes 5 r.score ++ [flagByte r.scoreLimitReported] ++ numberBytes 4 r.bonus ++
    [small r.bonusMult, small r.pfMult, small r.extraBalls, small r.locksLit, small r.locksMade, r.crossed] ++
    r.counters.toList.flatMap (numberBytes 2)

/-- READ_PLAYER as its owner takes it (R1, R2). -/
def readPlayer (p : List Byte) (s : State) : State × Reply :=
  match s.checkPlayer (byteAt p 0) with
  | .error e => (s, .bare e)
  | .ok r => (s, .ok r.image)

/-- READ_PLAYER (R2). -/
def execReadPlayer (payload : List Byte) (s : State) : Host.Outcome State Fault Refusal :=
  takeRequest 0x02 false 1 (readPlayer payload) payload s

/-- The record after a selective write, each value clamped to its field (R3). The select set has bit 0
for bonus, bit 1 for bonus_mult, bit 2 for extra_balls (R205). -/
def Player.written (r : Player) (select bonus mult extra : Nat) : Player :=
  { r with
    bonus := if select.testBit 0 then min bonus bonusMax else r.bonus
    bonusMult := if select.testBit 1 then max 1 (min mult 99) else r.bonusMult
    extraBalls := if select.testBit 2 then min extra 9 else r.extraBalls }

/-- Whether a selected value of WRITE_PLAYER is clamped (R3). -/
def writeClamps (select bonus mult extra : Nat) : Bool :=
  (select.testBit 0 && decide (bonusMax < bonus)) ||
    (select.testBit 1 && (decide (mult = 0) || decide (99 < mult))) || (select.testBit 2 && decide (9 < extra))

/-- WRITE_PLAYER as its owner takes it: the game state, the player, the select set (R3). -/
def writePlayer (p : List Byte) (s : State) : State × Reply :=
  if s.gpc.game.inProgress then
    match s.checkPlayer (byteAt p 0) with
    | .error e => (s, .bare e)
    | .ok _ =>
      if 8 ≤ byteAt p 1 then (s, .bare .outOfRange)
      else
        (s.modifyPlayer (byteAt p 0) fun r => r.written (byteAt p 1) (numberAt p 2 4) (byteAt p 6) (byteAt p 7),
          .bare (if writeClamps (byteAt p 1) (numberAt p 2 4) (byteAt p 6) (byteAt p 7) then .clamped else .ok))
  else (s, .bare .wrongState)

/-- WRITE_PLAYER (R3). -/
def execWritePlayer (payload : List Byte) (s : State) : Host.Outcome State Fault Refusal :=
  takeRequest 0x03 false 8 (writePlayer payload) payload s

/-- A playfield multiplier clamped to 1..8 (R6). -/
def heldPfMult (m : Nat) : Nat := max 1 (min m 8)

/-- SET_PLAYFIELD_MULT as its owner takes it: the multiplier is set; 0 ticks free the PF_MULT timer,
others restart it or allocate one (R6). -/
def setPlayfieldMult (p : List Byte) (s : State) : State × Reply :=
  if s.gpc.game = .starting ∨ s.gpc.game = .inPlay then
    let m := byteAt p 0
    let s := s.modifyPlayer s.currentPlayer fun r => { r with pfMult := heldPfMult m }
    let st : Status := if heldPfMult m = m then .ok else .clamped
    if numberAt p 1 2 = 0 then (s.releaseBinding .pfMult, .bare st)
    else
      let r := s.giveBoundTimer .pfMult (numberAt p 1 2)
      (r.1, .bare (if r.2 then st else .noTimer))
  else (s, .bare .wrongState)

/-- SET_PLAYFIELD_MULT (R6). -/
def execSetPlayfieldMult (payload : List Byte) (s : State) : Host.Outcome State Fault Refusal :=
  takeRequest 0x15 false 3 (setPlayfieldMult payload) payload s

end Sys2Proof.Machine
end

