-- ==== Sys2Proof/Machine/Timers.lean ====
section
/-! DEFINITION. TMU: the tick, the expiries and the USER timer requests (08). -/

namespace Sys2Proof.Machine

/-- A timer lowered by a tick; its last count is taken by its expiry (R146, R147, log 3). -/
def Timer.lower (r : Timer) : Timer := if 1 < r.remaining then { r with remaining := r.remaining - 1 } else r

/-- TMU's tick: the remaining count of every timer that counts is lowered by 1, but that of a timer at its
last count, whose expiry the tick produces: it waits to be taken, and takes the count to 0 (R146, R147,
R149, log 3). -/
def State.tmuTick (s : State) : State :=
  { s with tmu :=
    ⟨mapTable (Option.map fun r : Timer => if s.counts r then r.lower else r) s.tmu.timers,
      Vector.ofFn fun t => s.tmu.expiring[t] || (s.tmu.timers[t]).any s.expires⟩ }

/-- The expiry of a USER timer: USER_TIMER is raised; a PERIODIC timer then reloads, another becomes IDLE
with remaining 0, its period and staged period kept (R149, R150). -/
def State.userExpiry (s : State) (t : Fin 16) (r : Timer) : State :=
  match r.kind with
  | .periodic => (s.raise (.userTimer t)).modifyTimer t Timer.load
  | .oneShot | .retrigger =>
    (s.modifyTimer t fun r => { r with state := .idle, remaining := 0 }).raise (.userTimer t)

/-- The expiry of timer t, by its binding; a CONTEXT, BALL_SAVE or PF_MULT timer is FREE before its
action is handed on (R149, R150). -/
def State.expire (s : State) (t : Fin 16) (r : Timer) : State :=
  match r.binding with
  | .context slot => (s.releaseTimer t).contextTimeout slot
  | .hurry slot => s.hurryExpiry slot t
  | .ballSave => s.releaseTimer t
  | .pfMult => (s.releaseTimer t).modifyPlayer s.currentPlayer fun p => { p with pfMult := 1 }
  | .user => s.userExpiry t r

/-- TMU_TICK (R147). -/
def execTmuTick (s : State) : Host.Outcome State Fault Refusal := .next s.tmuTick

/-- A timer's last count taken: it reaches 0 and expires; one to which ticks were added since its tick is
lowered by 1 and goes on (R100, R147, R149, log 3). -/
def State.takeExpiry (s : State) (t : Fin 16) (r : Timer) : State :=
  if r.remaining ≤ 1 then (s.setTimer t (some { r with remaining := 0 })).expire t { r with remaining := 0 }
  else s.setTimer t (some { r with remaining := r.remaining - 1 })

/-- TIMER_EXPIRY: taken for a RUNNING timer whose expiry a tick has produced; for any other there is no
expiry to take (R149, log 3). -/
def execTimerExpiry (timer : Fin 16) (s : State) : Host.Outcome State Fault Refusal :=
  .next (match s.tmu.timers[timer] with
    | some r => if s.tmu.expiring[timer] = true ∧ r.state = .running then s.takeExpiry timer r else s
    | none => s)

/-! ### Requests (R155 to R160) -/

/-- The timer a request names, when it is a USER timer: a number above 15 is OUT_OF_RANGE, a FREE or
bound timer WRONG_STATE (08, 8.6). -/
def State.userTimer (s : State) (v : Nat) : Except Status (Fin 16 × Timer) :=
  match index? 16 v with
  | none => .error .outOfRange
  | some t =>
    match s.tmu.timers[t] with
    | some r => if r.binding = .user then .ok (t, r) else .error .wrongState
    | none => .error .wrongState

/-- ALLOC_TIMER as its owner takes it (R155). -/
def allocTimer (p : List Byte) (s : State) : State × Reply :=
  match timerKind? (byteAt p 0), flag? (byteAt p 3) with
  | some kind, some pauses =>
    let period := numberAt p 1 2
    if period = 0 then (s, .bare .outOfRange)
    else match s.freeTimer? with
      | some t => (s.setTimer t (some ⟨.idle, kind, period, none, period, pauses, .user⟩), .ok [small t.val])
      | none => (s, .bare .noTimer)
  | _, _ => (s, .bare .outOfRange)

/-- ALLOC_TIMER (R155). -/
def execAllocTimer (payload : List Byte) (s : State) : Host.Outcome State Fault Refusal :=
  takeRequest 0x40 false 4 (allocTimer payload) payload s

/-- START_TIMER as its owner takes it: an IDLE timer starts, a RUNNING RETRIGGER one restarts (R156). -/
def startTimer (p : List Byte) (s : State) : State × Reply :=
  match s.userTimer (byteAt p 0) with
  | .error e => (s, .bare e)
  | .ok (t, r) =>
    if r.state = .idle ∨ r.kind = .retrigger then
      (s.setTimer t (some { r.load with state := .running }), .ok (numberBytes 2 r.load.remaining))
    else (s, .bare .wrongState)

/-- START_TIMER (R156). -/
def execStartTimer (payload : List Byte) (s : State) : Host.Outcome State Fault Refusal :=
  takeRequest 0x41 false 1 (startTimer payload) payload s

/-- STOP_TIMER as its owner takes it (R157). -/
def stopTimer (p : List Byte) (s : State) : State × Reply :=
  match s.userTimer (byteAt p 0) with
  | .error e => (s, .bare e)
  | .ok (t, r) => (s.setTimer t (some { r with state := .idle }), .ok (numberBytes 2 r.remaining))

/-- STOP_TIMER (R157). -/
def execStopTimer (payload : List Byte) (s : State) : Host.Outcome State Fault Refusal :=
  takeRequest 0x42 false 1 (stopTimer payload) payload s

/-- FREE_TIMER as its owner takes it (R158). -/
def freeTimer (p : List Byte) (s : State) : State × Reply :=
  match s.userTimer (byteAt p 0) with
  | .error e => (s, .bare e)
  | .ok (t, _) => (s.releaseTimer t, .bare .ok)

/-- FREE_TIMER (R158). -/
def execFreeTimer (payload : List Byte) (s : State) : Host.Outcome State Fault Refusal :=
  takeRequest 0x43 false 1 (freeTimer payload) payload s

/-- STAGE_PERIOD as its owner takes it (R159). -/
def stagePeriod (p : List Byte) (s : State) : State × Reply :=
  match s.userTimer (byteAt p 0) with
  | .error e => (s, .bare e)
  | .ok (t, _) =>
    if numberAt p 1 2 = 0 then (s, .bare .outOfRange)
    else (s.amendTimer t fun r => { r with staged := some (numberAt p 1 2) }, .bare .ok)

/-- STAGE_PERIOD (R159). -/
def execStagePeriod (payload : List Byte) (s : State) : Host.Outcome State Fault Refusal :=
  takeRequest 0x44 false 3 (stagePeriod payload) payload s

/-- The timer image (R160, R207). -/
def State.timerImage (s : State) (t : Fin 16) : List Byte :=
  match s.tmu.timers[t] with
  | none => [small t.val, 0, 0, 0, 0, 0, 0, 0, 0, 0, 0, absentMark, 0]
  | some r =>
    [small t.val, r.state.code, r.kind.code] ++ numberBytes 2 r.period ++ numberBytes 2 (r.staged.getD 0) ++
      numberBytes 2 r.remaining ++
      [flagByte r.pauses, r.binding.code, r.binding.slotByte, flagByte (decide (r.state = .running) && s.pauseHolds r)]

/-- READ_TIMER as its owner takes it: accepted on FREE and USER timers (R160). -/
def readTimer (p : List Byte) (s : State) : State × Reply :=
  match index? 16 (byteAt p 0) with
  | none => (s, .bare .outOfRange)
  | some t =>
    match s.tmu.timers[t] with
    | none => (s, .ok (s.timerImage t))
    | some r => if r.binding = .user then (s, .ok (s.timerImage t)) else (s, .bare .wrongState)

/-- READ_TIMER (R160). -/
def execReadTimer (payload : List Byte) (s : State) : Host.Outcome State Fault Refusal :=
  takeRequest 0x45 false 1 (readTimer payload) payload s

end Sys2Proof.Machine
end

