-- ==== Sys2Proof/Machine/Dispatch.lean ====
section
/-! DEFINITION. The meaning of every command: one arm per constructor of `Instr`. -/

namespace Sys2Proof.Machine

def exec (i : Instr) (s : State) : Host.Outcome State Fault Refusal :=
  match i with
  | .switchReport byte stopBit => Sys2Proof.Machine.execSwitchReport byte stopBit s
  | .awardEvaluation => Sys2Proof.Machine.execAwardEvaluation s
  | .tmuTick => Sys2Proof.Machine.execTmuTick s
  | .timerExpiry timer => Sys2Proof.Machine.execTimerExpiry timer s
  | .bdtTick => Sys2Proof.Machine.execBdtTick s
  | .ejectExpiry device => Sys2Proof.Machine.execEjectExpiry device s
  | .lineEvent line high heldNs => Sys2Proof.Machine.execLineEvent line high heldNs s
  | .reset lowNs playen tilt csN => Sys2Proof.Machine.execReset lowNs playen tilt csN s
  | .shortFrame bytes => Sys2Proof.Machine.execShortFrame bytes s
  | .unknownRequest code payload => Sys2Proof.Machine.execUnknownRequest code payload s
  | .nop payload => Sys2Proof.Machine.execNop payload s
  | .readGame payload => Sys2Proof.Machine.execReadGame payload s
  | .readPlayer payload => Sys2Proof.Machine.execReadPlayer payload s
  | .writePlayer payload => Sys2Proof.Machine.execWritePlayer payload s
  | .adjustScore payload => Sys2Proof.Machine.execAdjustScore payload s
  | .readCounter payload => Sys2Proof.Machine.execReadCounter payload s
  | .writeCounter payload => Sys2Proof.Machine.execWriteCounter payload s
  | .stageTarget payload => Sys2Proof.Machine.execStageTarget payload s
  | .readQueue payload => Sys2Proof.Machine.execReadQueue payload s
  | .injectSwitch payload => Sys2Proof.Machine.execInjectSwitch payload s
  | .readRule payload => Sys2Proof.Machine.execReadRule payload s
  | .startGame payload => Sys2Proof.Machine.execStartGame payload s
  | .addPlayer payload => Sys2Proof.Machine.execAddPlayer payload s
  | .nextBall payload => Sys2Proof.Machine.execNextBall payload s
  | .endGame payload => Sys2Proof.Machine.execEndGame payload s
  | .clearGame payload => Sys2Proof.Machine.execClearGame payload s
  | .setPlayfieldMult payload => Sys2Proof.Machine.execSetPlayfieldMult payload s
  | .startMode payload => Sys2Proof.Machine.execStartMode payload s
  | .stopMode payload => Sys2Proof.Machine.execStopMode payload s
  | .readMode payload => Sys2Proof.Machine.execReadMode payload s
  | .retireMode payload => Sys2Proof.Machine.execRetireMode payload s
  | .adjustMode payload => Sys2Proof.Machine.execAdjustMode payload s
  | .readStack payload => Sys2Proof.Machine.execReadStack payload s
  | .readDevice payload => Sys2Proof.Machine.execReadDevice payload s
  | .recount payload => Sys2Proof.Machine.execRecount payload s
  | .clearDeviceFault payload => Sys2Proof.Machine.execClearDeviceFault payload s
  | .lightLock payload => Sys2Proof.Machine.execLightLock payload s
  | .startMultiball payload => Sys2Proof.Machine.execStartMultiball payload s
  | .addBall payload => Sys2Proof.Machine.execAddBall payload s
  | .allocTimer payload => Sys2Proof.Machine.execAllocTimer payload s
  | .startTimer payload => Sys2Proof.Machine.execStartTimer payload s
  | .stopTimer payload => Sys2Proof.Machine.execStopTimer payload s
  | .freeTimer payload => Sys2Proof.Machine.execFreeTimer payload s
  | .stagePeriod payload => Sys2Proof.Machine.execStagePeriod payload s
  | .readTimer payload => Sys2Proof.Machine.execReadTimer payload s
  | .peekNotice payload => Sys2Proof.Machine.execPeekNotice payload s
  | .ackNotice payload => Sys2Proof.Machine.execAckNotice payload s
  | .setNoticeEnable payload => Sys2Proof.Machine.execSetNoticeEnable payload s
  | .softReset payload => Sys2Proof.Machine.execSoftReset payload s
  | .defineRule payload => Sys2Proof.Machine.execDefineRule payload s
  | .defineCounter payload => Sys2Proof.Machine.execDefineCounter payload s
  | .defineTemplate payload => Sys2Proof.Machine.execDefineTemplate payload s
  | .defineDevice payload => Sys2Proof.Machine.execDefineDevice payload s
  | .defineThresholds payload => Sys2Proof.Machine.execDefineThresholds payload s
  | .setGameParams payload => Sys2Proof.Machine.execSetGameParams payload s
  | .setLockParams payload => Sys2Proof.Machine.execSetLockParams payload s
  | .readParams payload => Sys2Proof.Machine.execReadParams payload s

end Sys2Proof.Machine
end

