-- ==== Sys2Proof/Safety.lean ====
section
/-! DEFINITION. What counts as a safe run, and the laws the spec says hold in every state of the part: the
terms the statements use. -/

namespace Sys2Proof.Machine

/-! ### Runs -/

/-- A step that goes on. -/
def goesOn (s : State) : Prop := ∃ t, step s = .next t

/-- A run of n steps none of which stops. -/
def safeFor : Nat → State → Prop
  | 0, _ => True
  | n + 1, s => ∃ t, step s = .next t ∧ safeFor n t

/-! ### The laws -/

/-- The event queue holds at most 32 entries, every count lies in 1..255, a device entry counts 1 (R20). -/
abbrev QueueLaw (s : State) : Prop :=
  s.swi.queue.length ≤ 32 ∧
    ∀ e ∈ s.swi.queue, 1 ≤ e.count ∧ e.count ≤ 255 ∧ (e.cls ≠ .scoring → e.count = 1)

/-- No source stands twice in the pending lists, and each stands in the list of its own group (R193). -/
abbrev NoticeLaw (s : State) : Prop :=
  ∀ g : Fin 7, (s.ntu.lists[g]).Nodup ∧ ∀ x ∈ s.ntu.lists[g], x.group = g

/-- The fields of a player record lie in their ranges (01, 1.1), and a reported score limit means a score
held at the limit (R58, R63). -/
abbrev Player.InRange (r : Player) : Prop :=
  r.score ≤ scoreMax ∧ (r.scoreLimitReported = true → r.score = scoreMax) ∧ r.bonus ≤ bonusMax ∧
    1 ≤ r.bonusMult ∧ r.bonusMult ≤ 99 ∧ 1 ≤ r.pfMult ∧ r.pfMult ≤ 8 ∧ r.extraBalls ≤ 9

/-- Every player record lies in its ranges. -/
abbrev PlayerLaw (s : State) : Prop := ∀ r ∈ s.ptb.players, r.InRange

/-- The game record: in IDLE no player, no current player, ball 0 and no tilt; in every other state 1 to 6
players, one of them current, and a ball number of the game; the parameters in their ranges (R163, R166). -/
abbrev GameLaw (s : State) : Prop :=
  1 ≤ s.gpc.params.ballsPerGame ∧ s.gpc.params.maxPlayers ≤ 6 ∧
    (s.gpc.game = .idle →
      s.ptb.players = [] ∧ s.gpc.current = none ∧ s.gpc.ballNumber = 0 ∧ s.gpc.tilted = false) ∧
    (s.gpc.game ≠ .idle →
      s.gpc.current ≠ none ∧ 1 ≤ s.currentPlayer ∧ s.currentPlayer ≤ s.playerCount ∧ s.playerCount ≤ 6 ∧
        1 ≤ s.gpc.ballNumber ∧ s.gpc.ballNumber ≤ s.gpc.params.ballsPerGame)

/-- A counter definition whose targets are two-byte numbers (R8). -/
abbrev CounterDef.InRange (d : CounterDef) : Prop :=
  d.definedTarget ≤ 65535 ∧ d.target ≤ 65535 ∧ ∀ n ∈ d.staged, n ≤ 65535

/-- Every counter value is a two-byte number, a counter with target 0 stands at 0, and in IDLE no record
is present and every common value is 0 (R8, R9, R13, R17). -/
abbrev CounterLaw (s : State) : Prop :=
  (s.gpc.game = .idle → s.ptb.players = [] ∧ ∀ i : Fin 32, s.ptb.commonValues[i] = 0) ∧
    (∀ i : Fin 16, (s.ptb.playerDefs[i]).InRange ∧ ∀ r ∈ s.ptb.players,
      r.counters[i] ≤ 65535 ∧ ((s.ptb.playerDefs[i]).target = 0 → r.counters[i] = 0)) ∧
    (∀ i : Fin 32, (s.ptb.commonDefs[i]).InRange ∧ s.ptb.commonValues[i] ≤ 65535 ∧
      ((s.ptb.commonDefs[i]).target = 0 → s.ptb.commonValues[i] = 0))

/-- A device definition within the ranges of R103. -/
abbrev DeviceDef.InRange (d : Fin 6) (x : DeviceDef) : Prop :=
  1 ≤ x.capacity ∧ x.capacity ≤ (if d = 0 then 12 else 6) ∧ 10 ≤ x.timeout ∧ x.timeout ≤ 500

/-- The claim list is no longer than the occupancy, eject_pending not above it, the occupancy not above the
capacity; a FAULTED device has no eject pending; the eject timer runs exactly while one is, at 1 to 500 ticks;
the counts and the balls in play lie in their ranges (R106, R107). -/
abbrev DeviceLaw (s : State) : Prop :=
  s.bdt.ballsInPlay ≤ 12 ∧ ∀ d : Fin 6,
    (∀ x ∈ (s.device d).definition, x.InRange d) ∧
      (s.claimsOf d).length ≤ (s.device d).occupancy ∧
      (s.device d).ejectPending ≤ (s.device d).occupancy ∧
      (s.device d).occupancy ≤ (s.device d).capacity ∧
      ((s.device d).faulted = true → (s.device d).ejectPending = 0) ∧
      ((s.device d).ejectPending = 0 ↔ (s.device d).ejectTimer = none) ∧
      (∀ n ∈ (s.device d).ejectTimer, 1 ≤ n ∧ n ≤ 500) ∧
      (s.device d).retries ≤ 3 ∧ (s.device d).replaced ≤ 6

/-- While the tracking state is OK, the occupancies and the balls in play sum to the installed balls (R107). -/
abbrev BallLaw (s : State) : Prop :=
  s.bdt.tracking = .ok → s.heldBalls + s.bdt.ballsInPlay = s.gpc.params.installed

/-- Lit and made locks lie within mb_locks, lit locks within lit_max, for every player; with no game there
is no player (R127). -/
abbrev LockLaw (s : State) : Prop :=
  (s.gpc.game = .idle → s.ptb.players = []) ∧
    ∀ r ∈ s.ptb.players, r.locksLit ≤ s.lmc.params.litMax ∧ r.locksLit + r.locksMade ≤ s.lmc.params.mbLocks

/-- Multiball runs only IN_PLAY, and while it runs J is at most the jackpot max, which the base is not
above (R126, R142). -/
abbrev JackpotLaw (s : State) : Prop :=
  s.lmc.params.jackpotBase.worth ≤ s.lmc.params.jackpotMax.worth ∧
    (s.lmc.multiball = true → s.gpc.game = .inPlay ∧ s.lmc.jackpot ≤ s.lmc.params.jackpotMax.worth)

/-- The phase of a slot's context, none when the slot is FREE. -/
def State.phase? (s : State) (slot : Fin 12) : Option Phase := (s.slot? slot).map Context.phase

/-- The owner and template of a slot's context when it stands. -/
def State.standingKey? (s : State) (slot : Fin 12) : Option (Nat × Fin 32) :=
  if s.isStanding slot then (s.slot? slot).map fun c => (c.owner, c.template) else none

/-- The owner and exclusion group of a slot's context when it is RUNNING in a group other than 0. -/
def State.runningKey? (s : State) (slot : Fin 12) : Option (Nat × Fin 8) :=
  if s.isRunning slot = true ∧ s.slotGroup slot ≠ 0 then (s.slot? slot).map fun c => (c.owner, s.slotGroup slot)
  else none

/-- The mode stack, the pause order and the ended list hold exactly the RUNNING, PAUSED and ENDED slots, each
once; the stack is in non-increasing order of priority (R77, R79, R80). -/
abbrev ListLaw (s : State) : Prop :=
  s.mst.stack.Nodup ∧ s.mst.pauseOrder.Nodup ∧ s.mst.ended.Nodup ∧
    (∀ x, x ∈ s.mst.stack ↔ s.phase? x = some .running) ∧
    (∀ x, x ∈ s.mst.pauseOrder ↔ s.phase? x = some .paused) ∧
    (∀ x, x ∈ s.mst.ended ↔ s.isEnded x = true) ∧
    s.mst.stack.Pairwise fun a b => s.slotPriority b ≤ s.slotPriority a

/-- Every context's template is defined, in IDLE every slot is FREE, and RUNNING and PAUSED contexts are the
current player's and stand only in STARTING and IN_PLAY (R74, R77, R79). -/
abbrev OwnerLaw (s : State) : Prop :=
  (s.gpc.game = .idle → ∀ x, s.slot? x = none) ∧
    ∀ x, (s.slot? x ≠ none → s.slotTemplate? x ≠ none) ∧
      (s.isLive x = true → (s.slot? x).map Context.owner = some s.currentPlayer ∧
        (s.gpc.game = .starting ∨ s.gpc.game = .inPlay))

/-- At most one standing context for a player and template, at most one RUNNING context for a player and
exclusion group other than 0 (R78). -/
abbrev ExclusionLaw (s : State) : Prop :=
  ∀ x y, x ≠ y →
    (s.standingKey? x ≠ none → s.standingKey? x ≠ s.standingKey? y) ∧
      (s.runningKey? x ≠ none → s.runningKey? x ≠ s.runningKey? y)

/-- The laws of the mode stack (R77 to R80). -/
abbrev ModeLaw (s : State) : Prop := ListLaw s ∧ OwnerLaw s ∧ ExclusionLaw s

/-- Whether a slot's context holds a timer by its phase and template: RUNNING or PAUSED, timed or HURRY (R77). -/
def State.needsTimer (s : State) (slot : Fin 12) : Bool :=
  s.isLive slot && ((s.slotTemplate? slot).bind Template.period?).isSome

/-- The binding and state of a timer, none when it is FREE. -/
def State.timerKey? (s : State) (t : Fin 16) : Option (Binding × TimerState) :=
  (s.tmu.timers[t]).map fun r => (r.binding, r.state)

/-- The binding a slot's timer has, and its state: RUNNING or, in PAUSED, FROZEN (R77, R82). -/
def State.wantedKey? (s : State) (slot : Fin 12) : Option (Binding × TimerState) :=
  (s.slotTemplate? slot).map fun tm => (tm.binding slot, if s.isRunning slot then .running else .frozen)

/-- A context holds a timer exactly when its phase and template ask for one; that timer is bound to it and
RUNNING or FROZEN with it; a timer bound to a slot is the one its context holds; at most one timer is bound
to ball save and one to the playfield multiplier; IDLE timers are USER timers, ball save's and the
multiplier's are RUNNING; bound timers have the pause flag set and stand only in STARTING and IN_PLAY
(R77, R78, R146, R148, R153, R161). -/
abbrev TimerLaw (s : State) : Prop :=
  (∀ x, ((s.slotTimer? x).isSome = s.needsTimer x) ∧
      ∀ t ∈ s.slotTimer? x, s.timerKey? t = s.wantedKey? x) ∧
    (∀ t, ∀ r ∈ s.tmu.timers[t],
      (r.binding ≠ .user → r.pauses = true ∧ r.state ≠ .idle ∧ (s.gpc.game = .starting ∨ s.gpc.game = .inPlay)) ∧
      (r.state = .frozen → r.binding ≠ .user ∧ r.binding ≠ .ballSave ∧ r.binding ≠ .pfMult) ∧
      ∀ x : Fin 12, r.binding = .context x ∨ r.binding = .hurry x → s.slotTimer? x = some t) ∧
    (∀ t u : Fin 16, t ≠ u → ∀ r ∈ s.tmu.timers[t], ∀ q ∈ s.tmu.timers[u],
      r.binding = q.binding → r.binding ≠ .ballSave ∧ r.binding ≠ .pfMult)

/-- Periods and staged periods lie in 1..65,535, a RUNNING or FROZEN timer's remaining in 1..65,535 and an IDLE
one's in 0..65,535; so that they do, the periods of templates and the stored count of a PARKED context that needs
a timer lie in 1..65,535 and the save ticks of the parameters within 65,535 (R74, R77, R125, R146, R166). -/
abbrev CountLaw (s : State) : Prop :=
  (∀ t : Fin 16, ∀ r ∈ s.tmu.timers[t], (1 ≤ r.period ∧ r.period ≤ 65535) ∧ (∀ n ∈ r.staged, 1 ≤ n ∧ n ≤ 65535) ∧
      r.remaining ≤ 65535 ∧ (r.state ≠ .idle → 1 ≤ r.remaining)) ∧
    (∀ i : Fin 32, ∀ tm ∈ s.mst.templates[i], ∀ n ∈ tm.period?, 1 ≤ n ∧ n ≤ 65535) ∧
    (∀ x, ∀ c ∈ s.slot? x, c.phase = .parked →
      c.stored ≤ 65535 ∧ ∀ n ∈ (s.slotTemplate? x).bind Template.period?, 1 ≤ c.stored) ∧
    s.gpc.params.ballSaveTicks ≤ 65535 ∧ s.lmc.params.mbSaveTicks ≤ 65535

end Sys2Proof.Machine

namespace Sys2Proof

/-- The payload length the request with a code takes (the table of R201; DEFINE_RULE and DEFINE_THRESHOLDS by
their count bytes, R200); none for a code that names no request. -/
def requestLength (code : Byte) (p : List Byte) : Option Nat :=
  match code.toNat with
  | 0x00 | 0x01 | 0x08 | 0x10 | 0x11 | 0x12 | 0x13 | 0x14 | 0x25 | 0x33 | 0x34 | 0x35 | 0x50 | 0x5F => some 0
  | 0x02 | 0x09 | 0x0A | 0x20 | 0x21 | 0x22 | 0x23 | 0x30 | 0x32 | 0x41 | 0x42 | 0x43 | 0x45 | 0x51 | 0x52
  | 0x67 => some 1
  | 0x05 | 0x15 | 0x44 => some 3
  | 0x07 | 0x40 => some 4
  | 0x04 | 0x06 | 0x65 => some 5
  | 0x31 | 0x61 => some 7
  | 0x03 => some 8
  | 0x63 => some 9
  | 0x24 => some 10
  | 0x66 => some 15
  | 0x62 => some 31
  | 0x60 => some (6 + 5 * Machine.byteAt p 5)
  | 0x64 => some (1 + 6 * Machine.byteAt p 0)
  | _ => none

/-- The codes of the configuration requests (R188, R201). -/
def isConfiguration (code : Byte) : Bool := decide (0x60 ≤ code.toNat) && decide (code.toNat ≤ 0x66)

/-- Whether a command is a Game Link transaction: a frame, short or complete (R183). -/
def Instr.isTransaction : Instr → Bool
  | .shortFrame _ => true
  | i => i.frame.isSome

end Sys2Proof

namespace Sys2Proof.Machine

/-- An award record whose operands lie in the ranges of R34. -/
def Award.InRange : Award → Prop
  | .score v _ => v.inRange = true
  | .bonus v => v.inRange = true
  | .bonusMult n => 1 ≤ n ∧ n ≤ 9
  | .advance _ | .jackpot _ | .lightLock | .startMode _ | .extraBall => True

/-- A rule entry whose award list DEFINE_RULE can carry (R34, R35). -/
def Rule.InRange : Rule → Prop
  | .scoring _ _ l => l.length ≤ 4 ∧ ∀ a ∈ l, a.InRange
  | .deviceEntry _ _ l => l.length ≤ 4 ∧ ∀ a ∈ l, a.InRange
  | .ignored | .deviceExit _ => True

/-- The edge of a report whose bit 7 says whether the switch closed (R209). -/
def edgeOf (close : Bool) : Edge := if close then .close else .opening

/-- Whether a source is pending. -/
def State.hasNotice (s : State) (x : Source) : Bool := decide (x ∈ s.ntu.lists[x.group])

end Sys2Proof.Machine

namespace Sys2Proof.Machine

/-- The state with the record of player n + 1 replaced. -/
def State.withPlayer (s : State) (n : Nat) (r : Player) : State :=
  { s with ptb := { s.ptb with players := s.ptb.players.set n r } }

/-- The state with a device's record replaced. -/
def State.withDevice (s : State) (d : Fin 6) (r : Device) : State :=
  { s with bdt := { s.bdt with devices := s.bdt.devices.set d.val r d.isLt } }

/-- The state with a timer's record replaced, no expiry of it waiting to be taken. -/
def State.withTimer (s : State) (u : Fin 16) (r : Option Timer) : State :=
  { s with tmu := ⟨s.tmu.timers.set u.val r u.isLt, s.tmu.expiring.set u.val false u.isLt⟩ }

/-- The state with a slot's record replaced. -/
def State.withSlot (s : State) (x : Fin 12) (c : Option Context) : State :=
  { s with mst := { s.mst with slots := s.mst.slots.set x.val c x.isLt } }

/-- The number of balls device d gives when w are asked of the devices in number order, each up to its `give`. -/
def givenInOrder (w : Nat) (give : Fin 6 → Nat) (d : Fin 6) : Nat :=
  min (give d) (w - ((List.finRange 6).map fun c => if c < d then give c else 0).sum)

/-- What a ball end of player n + 1, whose record is q, makes of state s: BALL_OVER, the untilted player's bonus
credited and the ball's fields reset, lit locks treated by lit_carry, multiball ended, the RUNNING and PAUSED contexts
parked or ended, ball save and the playfield multiplier's timer released, BALL_END raised (R66, R94, R141, R144, R171). -/
def BallEnds (s t : State) (n : Nat) (q : Player) : Prop :=
  t.gpc = { s.gpc with game := .ballOver } ∧ t.hasNotice .ballEnd = true ∧
    (∃ q' : Player, t.ptb.players[n]? = some q' ∧
      q'.score = (if s.gpc.tilted then q.score else
        min (q.score + min (q.bonus * q.bonusMult) 999999999999) 999999999999) ∧
      q'.bonus = 0 ∧ q'.bonusMult = 1 ∧ q'.pfMult = 1 ∧ q'.counters = q.counters ∧ q'.locksMade = q.locksMade ∧
      q'.locksLit = (if s.lmc.params.litKeeps then q.locksLit else 0)) ∧
    (∀ m, m ≠ n → t.ptb.players[m]? = s.ptb.players[m]?) ∧ t.ptb.commonValues = s.ptb.commonValues ∧
    (∀ y : Fin 12, t.isLive y = false) ∧ t.mst.stack = [] ∧ t.mst.pauseOrder = [] ∧
    (∀ (y : Fin 12) (c : Context) (tm : Template), s.mst.slots[y] = some c → s.isLive y = true →
      s.mst.templates[c.template] = some tm → ∃ c', t.mst.slots[y] = some c' ∧ c'.timer = none ∧
        c'.stored = s.remainingOf c ∧ c'.phase = (if tm.mbOnly then .ended .mbEnded else
          if s.gpc.tilted then .ended .tilted else if tm.carries then .parked else .ended .ballEnded)) ∧
    t.lmc.multiball = false ∧ (s.lmc.multiball = true → t.hasNotice .multiballEnd = true) ∧
    t.ballSaveActive = false ∧ t.boundTimer? .pfMult = none

/-- Whether a PAUSED context that is not mb_only returns at the end of multiball: its exclusion group is not 0 and has
no RUNNING context left, and no other PAUSED one stands before it by priority, then by pause order (R91, R96). -/
def State.returnsAtEnd (s : State) (y : Fin 12) : Prop :=
  s.slotGroup y ≠ 0 ∧ ∀ (z : Fin 12) (f : Context) (tm : Template), z ≠ y → s.mst.slots[z] = some f →
    s.mst.templates[f.template] = some tm → tm.mbOnly = false → s.slotGroup z = s.slotGroup y → f.phase ≠ .running ∧
      (f.phase = .paused → s.slotPriority z < s.slotPriority y ∨
        (s.slotPriority z = s.slotPriority y ∧ ∃ a b, s.mst.pauseOrder = a ++ y :: b ∧ z ∈ b))

/-- What the end of multiball at a drain or a RECOUNT makes of state s: OFF with MULTIBALL_END, J kept; the mb_only
contexts in RUNNING and PAUSED end MB_ENDED in slot order, then one PAUSED context of each group left without a RUNNING
one returns; the other contexts and the timers of no context stand, ball save's among them (R96, R141). -/
def MultiballEnds (s t : State) : Prop :=
  t.lmc.multiball = false ∧ t.lmc.jackpot = s.lmc.jackpot ∧ t.lmc.params = s.lmc.params ∧
    t.hasNotice .multiballEnd = true ∧ t.gpc = s.gpc ∧ t.ptb = s.ptb ∧ t.mst.templates = s.mst.templates ∧
    t.mst.ended = s.mst.ended ++ (List.finRange 12).filter (fun y =>
      s.isLive y && ((s.slotTemplate? y).map Template.mbOnly).getD false) ∧
    (∀ y : Fin 12, s.mst.slots[y] = none → t.mst.slots[y] = none) ∧
    (∀ (y : Fin 12) (c : Context) (tm : Template), s.mst.slots[y] = some c → s.mst.templates[c.template] = some tm →
      (s.isLive y = true → tm.mbOnly = true → t.hasNotice (.modeEnded y) = true ∧
        t.mst.slots[y] = some { c with phase := .ended .mbEnded, timer := none, stored := s.remainingOf c } ∧
        ∀ u : Fin 16, c.timer = some u → t.tmu.timers[u] = none) ∧
      (s.isLive y = false ∨ (tm.mbOnly = false ∧ (c.phase = .running ∨ ¬ s.returnsAtEnd y)) →
        t.mst.slots[y] = some c ∧ ∀ u : Fin 16, c.timer = some u → t.tmu.timers[u] = s.tmu.timers[u]) ∧
      (tm.mbOnly = false → c.phase = .paused → s.returnsAtEnd y → t.mst.slots[y] = some { c with phase := .running } ∧
        ∀ (u : Fin 16) (r : Timer), c.timer = some u → s.tmu.timers[u] = some r →
          t.tmu.timers[u] = some { r with state := .running })) ∧
    ∀ u : Fin 16, (∀ r : Timer, s.tmu.timers[u] = some r → r.binding = .user ∨ r.binding = .ballSave ∨
      r.binding = .pfMult) → t.tmu.timers[u] = s.tmu.timers[u]

/-- The state after the head of the queue has been taken, the rest being left (R26, R27). -/
def State.afterTake (s : State) (rest : List Entry) : State :=
  { s with swi := ⟨rest, if rest.length ≤ 23 then false else s.swi.overrun⟩ }

end Sys2Proof.Machine
end

