-- ==== Sys2Proof/WellFormed.lean ====
section
/-! DEFINITION. Which commands can reach the part: the checks a term of `Instr` can fail. -/

namespace Sys2Proof

/-- A frame declares at most 62 payload bytes (R184), UNKNOWN_REQUEST carries a code that names no
request (R187), SHORT_FRAME a transaction that is short or over-long (R184); every event is well formed
(log 17). -/
def Instr.wellFormed (i : Instr) : Bool :=
  match i with
  | .shortFrame bytes => frameIsShort bytes
  | .unknownRequest code p => !codeNamesRequest code && decide (p.length ≤ 62)
  | i => match i.frame with
    | some f => decide (f.2.length ≤ 62)
    | none => true

end Sys2Proof
end

