-- ==== Sys2Proof/Certificates/Slice0/Obligations.lean ====
section
/-! DEFINITION. The statements for the provers: def Obligations.<Name> : Prop, listed in OBLIGATIONS.json. A
statement about a command is about the state s in which it is taken; `s.glk.waiting = false` says that no
transaction is being waited out after a reset (R192), as holds of every request but the first after it. -/

open Sys2Proof Sys2Proof.Machine

/-! ### The queue of commands and the resets -/

/-- A step carries out the command at the front of the queue, with the queue's rest; with no command waiting the part
idles. Both are the model's choice, log 1. -/
def Obligations.StepRunsFrontCommand : Prop :=
  (∀ (s : State) (c : Instr) (rest : List Instr),
     s.pending = c :: rest → step s = exec c { s with pending := rest }) ∧
 ∀ s : State, s.pending = [] → step s = .next s

/-- Every command is carried out in every state: none faults, none is refused, none touches the queue of
waiting commands (log 1). -/
def Obligations.EveryCommandCompletes : Prop :=
  ∀ (c : Instr) (s : State), ∃ t, exec c s = .next t ∧ t.pending = s.pending

/-- RESET_N low for less than 1 µs has no effect; for 1 µs or longer every record takes its power-on value,
the line state is formed from the pins, and a CS_N that is low is waited out; while RESET_N is low MISO is at high
impedance and ATTN_N is released, in a low pulse too short to reset as well (the model's choice, log 21); the queue of
waiting commands is kept (the model's choice, log 1) (R192, R210). -/
def Obligations.ResetGivesPowerOnRecords : Prop :=
  ∀ (s : State) (lowNs : Nat) (playen tilt csN : Bool),
    s.attnPulled false = false ∧ (∀ (early : Bool) (k : Nat), s.miso false csN early k = none) ∧
    (lowNs < 1000 → exec (.reset lowNs playen tilt csN) s = .next s) ∧
    (1000 ≤ lowNs → ∃ t, exec (.reset lowNs playen tilt csN) s = .next t ∧
      t.swi = ⟨[], false⟩ ∧ (∀ sw : Fin 128, t.evl.rules[sw] = .ignored) ∧
      t.ptb.players = [] ∧ (∀ i : Fin 16, t.ptb.playerDefs[i] = ⟨0, 0, none, .repeats, .none⟩) ∧
      (∀ i : Fin 32, t.ptb.commonDefs[i] = ⟨0, 0, none, .repeats, .none⟩ ∧ t.ptb.commonValues[i] = 0) ∧
      t.scu.thresholds = [] ∧
      (∀ i : Fin 32, t.mst.templates[i] = none) ∧ (∀ x : Fin 12, t.mst.slots[x] = none) ∧
      t.mst.stack = [] ∧ t.mst.pauseOrder = [] ∧ t.mst.ended = [] ∧
      (∀ d : Fin 6, t.bdt.devices[d] = ⟨none, 0, 0, 0, none, false, 0⟩ ∧ t.lmc.claims[d] = []) ∧
      t.bdt.ballsInPlay = 0 ∧ t.bdt.tracking = .uncounted ∧
      t.lmc.params = ⟨3, 3, 1, true, 0, ⟨1, 6⟩, ⟨5, 5⟩, ⟨1, 7⟩⟩ ∧ t.lmc.multiball = false ∧ t.lmc.jackpot = 0 ∧
      (∀ u : Fin 16, t.tmu.timers[u] = none ∧ t.tmu.expiring[u] = false) ∧
      (∀ d : Fin 6, t.bdt.expiring[d] = false) ∧
      t.gpc = ⟨.idle, none, 0, false, playen, tilt, ⟨3, 4, 4, 0⟩⟩ ∧
      t.lineState = (if playen then (if tilt then .tilted else .normal) else (if tilt then .slam else .held)) ∧
      t.glk = ⟨⟨0x00, .ok, []⟩, !csN⟩ ∧
      (∀ g : Fin 7, t.ntu.lists[g] = []) ∧ t.ntu.enabled = BitVec.allOnes 7 ∧ t.attnLow = false ∧
      t.pending = s.pending)

/-- SOFT_RESET ends any game and clears its records; definitions, parameters, the ball picture, the line state
and the enable set are kept (R181, R191, R19, R31, R97, R124, R145, R162). -/
def Obligations.SoftResetClearsTheGame : Prop :=
  ∀ s : State, s.glk.waiting = false → ∃ t, exec (.softReset []) s = .next t ∧
    t.swi = ⟨[], false⟩ ∧ t.evl = s.evl ∧ t.scu = s.scu ∧
    t.ptb.players = [] ∧ (∀ i : Fin 32, t.ptb.commonValues[i] = 0) ∧
    (∀ i : Fin 16, t.ptb.playerDefs[i] =
      { s.ptb.playerDefs[i] with target := (s.ptb.playerDefs[i]).definedTarget, staged := none }) ∧
    (∀ i : Fin 32, t.ptb.commonDefs[i] =
      { s.ptb.commonDefs[i] with target := (s.ptb.commonDefs[i]).definedTarget, staged := none }) ∧
    t.mst.templates = s.mst.templates ∧ (∀ x : Fin 12, t.mst.slots[x] = none) ∧
    t.mst.stack = [] ∧ t.mst.pauseOrder = [] ∧ t.mst.ended = [] ∧
    (∀ d : Fin 6, t.bdt.devices[d] =
        { s.bdt.devices[d] with ejectPending := 0, retries := 0, ejectTimer := none, faulted := false, replaced := 0 } ∧
      t.lmc.claims[d] = []) ∧
    t.bdt.ballsInPlay = s.bdt.ballsInPlay ∧ t.bdt.tracking = s.bdt.tracking ∧
    t.lmc.params = s.lmc.params ∧ t.lmc.multiball = false ∧ t.lmc.jackpot = 0 ∧
    (∀ u : Fin 16, t.tmu.timers[u] = none ∧ t.tmu.expiring[u] = false) ∧
    (∀ d : Fin 6, t.bdt.expiring[d] = false) ∧
    t.gpc = ⟨.idle, none, 0, false, s.gpc.playenPin, s.gpc.tiltPin, s.gpc.params⟩ ∧
    (∀ g : Fin 7, t.ntu.lists[g] = []) ∧ t.ntu.enabled = s.ntu.enabled ∧
    t.glk = ⟨⟨0x5F, .ok, []⟩, false⟩

/-! ### Frames -/

/-- A transaction that carries a well-formed command's frame is read back as that command, whole bytes after the
payload ignored; a Switch Port byte and the report it carries determine each other (R183, R184, R187, R201, R209). -/
def Obligations.FramesReadBackAsTheirCommands : Prop :=
  (∀ (i : Instr) (bytes extra : List Byte), i.wellFormed = true → encodeFrame i = some bytes →
     decodeFrame bytes = i ∧ ((∀ b, i ≠ .shortFrame b) → decodeFrame (bytes ++ extra) = i)) ∧
  (∀ (close : Bool) (sw : Fin 128), decodeSwitchByte (encodeSwitchByte close sw) = (close, sw)) ∧
    ∀ b : Byte, encodeSwitchByte (decodeSwitchByte b).1 (decodeSwitchByte b).2 = b

/-- NOP answers OK with length 0 in every game state and line state, and changes nothing else (R186). A transaction
shifts out the response frame, echo, status, length and payload, and 0x00 after it, or 0xFF throughout when it begins
before the response is formed; with CS_N high MISO is at high impedance (R183, R185). What the transaction that is
waited out after a reset shifts out is not stated here (log 20). -/
def Obligations.NopAnswersOk : Prop :=
  (∀ s : State, s.glk.waiting = false → exec (.nop []) s = .next (s.answer 0x00 .ok [])) ∧
  ∀ (s : State) (k : Nat),
    (s.glk.waiting = false → s.miso true false false k = some (([s.glk.response.echo, s.glk.response.status.code,
        small s.glk.response.payload.length] ++ s.glk.response.payload).getD k 0x00) ∧
      s.miso true false true k = some 0xFF) ∧
    ∀ early : Bool, s.miso true true early k = none

/-- A short or over-long frame is answered BAD_LENGTH, with the code byte received or 0x00, and a code that
names no request UNKNOWN_REQUEST; nothing else changes (R184, R187). For terms that no transaction carries (a
SHORT_FRAME that is not short, an UNKNOWN_REQUEST whose code names a request or whose payload exceeds 62 bytes) the
answer is the model's choice, log 17. -/
def Obligations.DiscardedFramesChangeNothing : Prop :=
  ∀ s : State, s.glk.waiting = false →
    exec (.shortFrame []) s = .next (s.answer 0x00 .badLength []) ∧
    (∀ code bytes, exec (.shortFrame (code :: bytes)) s = .next (s.answer code .badLength [])) ∧
    (∀ code payload, exec (.unknownRequest code payload) s = .next (s.answer code .unknownRequest []))

/-- A request whose declared length is not the one its code takes is answered BAD_LENGTH, whatever its operands and the
game state; a configuration request of the right length taken outside IDLE is answered IN_GAME, its operands
unexamined; neither changes anything else. A transaction whose CS_N was low at the rise of RESET_N is waited out and
takes nothing (R187, R188, R192, R200, R201). -/
def Obligations.FramesAreJudgedBeforeTheirOwners : Prop :=
  (∀ (s : State) (i : Instr) (code : Byte) (p : List Byte) (n : Nat),
     s.glk.waiting = false → i.frame = some (code, p) → requestLength code p = some n →
       i ≠ .unknownRequest code p → p.length ≠ n ∨ 62 < p.length →
       exec i s = .next (s.answer code .badLength [])) ∧
  (∀ (s : State) (i : Instr) (code : Byte) (p : List Byte),
     s.glk.waiting = false → i.frame = some (code, p) → isConfiguration code = true →
       i ≠ .unknownRequest code p → requestLength code p = some p.length → p.length ≤ 62 →
       s.gpc.game ≠ .idle → exec i s = .next (s.answer code .inGame [])) ∧
  ∀ (s : State) (i : Instr), s.glk.waiting = true → i.isTransaction = true →
    exec i s = .next { s with glk := ⟨s.glk.response, false⟩ }

/-! ### The laws -/

/-- Every law of the part holds right after power-on: the laws of the player records and counters, the event queue, the
contexts, the devices, the locks and the jackpot, the timers, the game record and the pending lists (R1, R8, R20, R77,
R78, R106, R107, R126, R145, R146, R163, R166, R193), at the power-on values of R210. -/
def Obligations.LawsHoldAtReset : Prop :=
  QueueLaw State.reset ∧ NoticeLaw State.reset ∧ PlayerLaw State.reset ∧ GameLaw State.reset ∧
    CounterLaw State.reset ∧ DeviceLaw State.reset ∧ BallLaw State.reset ∧ LockLaw State.reset ∧
    JackpotLaw State.reset ∧ ModeLaw State.reset ∧ TimerLaw State.reset ∧ CountLaw State.reset

/-- Every step keeps the law of the event queue, and the pending lists free of repeats with each source in its group's
list (R20, R193). -/
def Obligations.StepsKeepTheQueueAndNoticeLaws : Prop :=
  (∀ s t : State, QueueLaw s → step s = .next t → QueueLaw t) ∧
  ∀ s t : State, NoticeLaw s → step s = .next t → NoticeLaw t

/-- Every step keeps every player's fields in their ranges, the counters in range with a disabled counter at 0, and lit
and made locks within lit_max and mb_locks (R8, R9, R13, R57, R58, R64, R65, R127, R173). -/
def Obligations.StepsKeepPlayersCountersAndLocks : Prop :=
  (∀ s t : State, PlayerLaw s → step s = .next t → PlayerLaw t) ∧
  (∀ s t : State, CounterLaw s → step s = .next t → CounterLaw t) ∧
  ∀ s t : State, LockLaw s → step s = .next t → LockLaw t

/-- Every step keeps the game record in agreement with the game state, and multiball to IN_PLAY with J within the
jackpot max while it runs (R141, R142, R163). -/
def Obligations.StepsKeepTheGameRecord : Prop :=
  (∀ s t : State, GameLaw s → step s = .next t → GameLaw t) ∧
  ∀ s t : State, JackpotLaw s → step s = .next t → JackpotLaw t

/-- Every step keeps the device law, claims and eject_pending within the occupancy and the occupancy within the
capacity, and conserves the balls while the tracking state is OK (R106, R107). -/
def Obligations.StepsKeepDevicesAndBalls : Prop :=
  (∀ s t : State, DeviceLaw s → step s = .next t → DeviceLaw t) ∧
  ∀ s t : State, BallLaw s → step s = .next t → BallLaw t

/-- Every step keeps the laws of the mode stack, the pause order, the ended list and the exclusion groups
(R77 to R80). -/
def Obligations.StepsKeepTheModeLaw : Prop :=
  ∀ s t : State, ModeLaw s → step s = .next t → ModeLaw t

/-- Every step keeps the law of the timer pool, contexts and timers bound to each other one to one, and keeps the
remaining count of every RUNNING and FROZEN timer within 1..65,535, every period too (R77, R78, R146, R153). -/
def Obligations.StepsKeepTheTimerLaw : Prop :=
  (∀ s t : State, ModeLaw s → TimerLaw s → step s = .next t → TimerLaw t) ∧
  ∀ s t : State, ModeLaw s → TimerLaw s → CountLaw s → step s = .next t → CountLaw t

/-! ### Reads -/

/-- READ_GAME, READ_QUEUE and READ_STACK answer OK with the records as they stand, in every state; READ_MODE answers the
context image, the remaining ticks being the held timer's count in RUNNING and PAUSED and the stored count in PARKED
and ENDED, and is OUT_OF_RANGE for a slot above 11; nothing else changes (R30, R77, R101, R182, R206, R207). -/
def Obligations.ReadsOfGameQueueStackAndModes : Prop :=
  (∀ s : State, s.glk.waiting = false →
     exec (.readGame []) s = .next (s.answer 0x01 .ok
       ([s.gpc.game.code, s.lineState.code, small s.ptb.players.length, small (s.gpc.current.getD 0),
         small s.gpc.ballNumber, small s.gpc.params.ballsPerGame, flagByte s.gpc.tilted, flagByte s.lmc.multiball] ++
         numberBytes 5 s.lmc.jackpot ++
         [flagByte s.ballSaveActive, small s.bdt.ballsInPlay, s.bdt.tracking.code])) ∧
     exec (.readQueue []) s = .next (s.answer 0x08 .ok
       [small s.swi.queue.length,
         (if s.swi.queue.length = 0 then 0 else if s.swi.queue.length ≤ 23 then 1
           else if s.swi.queue.length ≤ 31 then 2 else 3), flagByte s.swi.overrun]) ∧
     exec (.readStack []) s = .next (s.answer 0x25 .ok
       ((small s.mst.stack.length :: s.mst.stack.map fun x => small x.val) ++
         (small s.mst.ended.length :: s.mst.ended.map fun x => small x.val)))) ∧
  ∀ (s : State) (b : Byte), s.glk.waiting = false →
    (12 ≤ b.toNat → exec (.readMode [b]) s = .next (s.answer 0x22 .outOfRange [])) ∧
    ∀ x : Fin 12, x.val = b.toNat →
      (s.mst.slots[x] = none → exec (.readMode [b]) s = .next (s.answer 0x22 .ok
        [b, 0, 0xFF, 0, 0, 0, 0, 0, 0, 0, 0, 0, 0, 0, 0, 0, 0xFF, 0, 0, 0])) ∧
      (∀ (c : Context) (n : Nat), s.mst.slots[x] = some c →
        (match c.phase, c.timer with
          | .running, some u | .paused, some u => n = ((s.tmu.timers[u]).map Timer.remaining).getD 0
          | .running, none | .paused, none => n = 0
          | .parked, _ | .ended _, _ => n = c.stored) →
        exec (.readMode [b]) s = .next (s.answer 0x22 .ok
          ([b, c.phase.code, small c.template.val, small c.owner, small c.hits] ++ numberBytes 5 c.value ++
            [small c.multiplier] ++ numberBytes 5 c.total ++
            [match c.timer with
              | some u => small u.val
              | none => 0xFF] ++ numberBytes 2 n ++ [c.phase.reasonByte])))

/-- READ_PLAYER answers the whole record of a player who has one; a number outside 1..6 is OUT_OF_RANGE, a player
without a record WRONG_STATE. READ_COUNTER answers the value, the targets, after_reach, the action and the indicator;
the player operand is ignored for class COMMON. That a class or an index out of range answers OUT_OF_RANGE whatever the
player is the model's choice, log 19 (R1, R2, R17, R206). -/
def Obligations.ReadsOfPlayersAndCounters : Prop :=
  (∀ (s : State) (b : Byte), s.glk.waiting = false →
     (b.toNat = 0 ∨ 6 < b.toNat → exec (.readPlayer [b]) s = .next (s.answer 0x02 .outOfRange [])) ∧
     (1 ≤ b.toNat → b.toNat ≤ 6 → s.ptb.players.length < b.toNat →
       exec (.readPlayer [b]) s = .next (s.answer 0x02 .wrongState [])) ∧
     (∀ r : Player, 1 ≤ b.toNat → b.toNat ≤ 6 → s.ptb.players[b.toNat - 1]? = some r →
       exec (.readPlayer [b]) s = .next (s.answer 0x02 .ok
         (numberBytes 5 r.score ++ [flagByte r.scoreLimitReported] ++ numberBytes 4 r.bonus ++
           [small r.bonusMult, small r.pfMult, small r.extraBalls, small r.locksLit, small r.locksMade, r.crossed] ++
           (List.finRange 16).flatMap fun i => numberBytes 2 r.counters[i])))) ∧
  ∀ (s : State) (cls idx pl : Byte), s.glk.waiting = false →
    (2 ≤ cls.toNat ∨ (cls.toNat = 0 ∧ 16 ≤ idx.toNat) ∨ (cls.toNat = 1 ∧ 32 ≤ idx.toNat) →
      exec (.readCounter [cls, idx, pl]) s = .next (s.answer 0x05 .outOfRange [])) ∧
    (∀ (d : CounterDef) (v : Nat),
      (cls.toNat = 1 ∧ (∃ i : Fin 32, i.val = idx.toNat ∧ d = s.ptb.commonDefs[i] ∧ v = s.ptb.commonValues[i])) ∨
      (cls.toNat = 0 ∧ 1 ≤ pl.toNat ∧ pl.toNat ≤ 6 ∧ (∃ (i : Fin 16) (r : Player), i.val = idx.toNat ∧
        s.ptb.players[pl.toNat - 1]? = some r ∧ d = s.ptb.playerDefs[i] ∧ v = r.counters[i])) →
      exec (.readCounter [cls, idx, pl]) s = .next (s.answer 0x05 .ok
        (numberBytes 2 v ++ numberBytes 2 d.target ++
          (match d.staged with
            | some n => 1 :: numberBytes 2 n
            | none => [0, 0, 0]) ++ [d.afterReach.code] ++ d.action.bytes ++
          [if v < d.target then 0 else if v = d.target then 1 else 2]))) ∧
    (cls.toNat = 0 → idx.toNat < 16 → pl.toNat = 0 ∨ 6 < pl.toNat →
      exec (.readCounter [cls, idx, pl]) s = .next (s.answer 0x05 .outOfRange [])) ∧
    (cls.toNat = 0 → idx.toNat < 16 → 1 ≤ pl.toNat → pl.toNat ≤ 6 → s.ptb.players.length < pl.toNat →
      exec (.readCounter [cls, idx, pl]) s = .next (s.answer 0x05 .wrongState []))

/-- READ_DEVICE answers the definition, the state, the tracker-wide counts and the claim list, an absent device with its
absent marks; a number above 5 is OUT_OF_RANGE. READ_TIMER answers a FREE timer with its absent marks and a USER timer
with its record and whether it is held still; a bound timer is WRONG_STATE, a number above 15 OUT_OF_RANGE (R122,
R148, R160, R207). -/
def Obligations.ReadsOfDevicesAndTimers : Prop :=
  (∀ (s : State) (b : Byte), s.glk.waiting = false →
     (6 ≤ b.toNat → exec (.readDevice [b]) s = .next (s.answer 0x30 .outOfRange [])) ∧
     ∀ (d : Fin 6) (r : Device), d.val = b.toNat → s.bdt.devices[d] = r →
       exec (.readDevice [b]) s = .next (s.answer 0x30 .ok
         ([b] ++
           (match r.definition with
             | none => [0, 0, 0xFF, 0xFF, 0, 0, 0xFF, 0xFF]
             | some x => [x.kind.code, small x.capacity, small x.entrySwitch.val, small x.exitSwitch.val] ++
                 numberBytes 2 x.timeout ++
                 (match x.kind with
                   | .lock stealable keepRoom => [flagByte stealable, flagByte keepRoom]
                   | .trough | .scoop => [0xFF, 0xFF])) ++
           [small r.occupancy, small r.ejectPending, small r.retries] ++ numberBytes 2 (r.ejectTimer.getD 0) ++
           [flagByte r.faulted, small r.replaced, small s.bdt.ballsInPlay, small s.gpc.params.installed,
             s.bdt.tracking.code, small (s.lmc.claims[d]).length] ++ (s.lmc.claims[d]).map small))) ∧
  ∀ (s : State) (b : Byte), s.glk.waiting = false →
    (16 ≤ b.toNat → exec (.readTimer [b]) s = .next (s.answer 0x45 .outOfRange [])) ∧
    ∀ u : Fin 16, u.val = b.toNat →
      (s.tmu.timers[u] = none → exec (.readTimer [b]) s = .next (s.answer 0x45 .ok
        [b, 0, 0, 0, 0, 0, 0, 0, 0, 0, 0, 0xFF, 0])) ∧
      (∀ r : Timer, s.tmu.timers[u] = some r → r.binding ≠ .user →
        exec (.readTimer [b]) s = .next (s.answer 0x45 .wrongState [])) ∧
      (∀ r : Timer, s.tmu.timers[u] = some r → r.binding = .user →
        exec (.readTimer [b]) s = .next (s.answer 0x45 .ok
          ([b, r.state.code, r.kind.code] ++ numberBytes 2 r.period ++ numberBytes 2 (r.staged.getD 0) ++
            numberBytes 2 r.remaining ++ [flagByte r.pauses, 4, 0xFF,
            if r.state = .running ∧ r.pauses = true ∧
                (s.lineState = .held ∨ s.gpc.game ≠ .inPlay ∨ s.bdt.ballsInPlay = 0) then 1 else 0])))

/-! ### Notices -/

/-- A raise joins the tail of the source's group when the source is not pending and changes nothing when it is.
ACK_NOTICE removes a pending source wherever it stands, whether or not its group is enabled, and answers the vector
PEEK_NOTICE would return next; SET_NOTICE_ENABLE replaces the enable set; both refuse what names nothing, and neither
changes any record (R194, R195, R198). -/
def Obligations.NoticesJoinAndLeave : Prop :=
  (∀ (s : State) (x : Source),
     (x ∈ s.ntu.lists[x.group] → s.raise x = s) ∧
     (x ∉ s.ntu.lists[x.group] →
       (s.raise x).ntu.lists[x.group] = s.ntu.lists[x.group] ++ [x] ∧
       (∀ g : Fin 7, g ≠ x.group → (s.raise x).ntu.lists[g] = s.ntu.lists[g]) ∧
       (s.raise x).ntu.enabled = s.ntu.enabled ∧ { s.raise x with ntu := s.ntu } = s)) ∧
  ∀ (s : State) (b : Byte), s.glk.waiting = false →
    ((∀ x : Source, b.toNat ≠ x.vector) → exec (.ackNotice [b]) s = .next (s.answer 0x51 .outOfRange [])) ∧
    (∀ x : Source, b.toNat = x.vector → x ∉ s.ntu.lists[x.group] →
      exec (.ackNotice [b]) s = .next (s.answer 0x51 .notPending [])) ∧
    (∀ (x : Source) (before after : List Source), b.toNat = x.vector →
      s.ntu.lists[x.group] = before ++ x :: after → x ∉ before → ∃ t : State,
        exec (.ackNotice [b]) s = .next (t.answer 0x51 .ok [small t.ntu.nextVector]) ∧
        t.ntu.lists[x.group] = before ++ after ∧
        (∀ g : Fin 7, g ≠ x.group → t.ntu.lists[g] = s.ntu.lists[g]) ∧
        t.ntu.enabled = s.ntu.enabled ∧ { t with ntu := s.ntu } = s) ∧
    (128 ≤ b.toNat → exec (.setNoticeEnable [b]) s = .next (s.answer 0x52 .outOfRange [])) ∧
    (b.toNat < 128 → ∃ e : BitVec 7, (∀ g : Fin 7, e.getLsbD g.val = b.getLsbD g.val) ∧
      exec (.setNoticeEnable [b]) s = .next (({ s with ntu := { s.ntu with enabled := e } }).answer 0x52 .ok [b]))

/-- The vector byte of each notification source has the value the table of R208 gives, and a vector names a
source exactly when it is the vector of one (R193, R208). -/
def Obligations.VectorsNameTheSources : Prop :=
  (∀ u : Fin 16, (Source.userTimer u).vector = 16 + u.val) ∧
  (∀ i : Fin 8, (Source.threshold i).vector = 32 + i.val) ∧
  Source.jackpot.vector = 40 ∧ Source.extraBall.vector = 41 ∧ Source.scoreLimit.vector = 42 ∧
  (∀ c : Fin 4, (Source.counterNotify c).vector = 43 + c.val) ∧
  (∀ x : Fin 12, (Source.modeEnded x).vector = 48 + x.val) ∧
  Source.modeStarted.vector = 60 ∧ Source.modeStartFailed.vector = 61 ∧
  Source.lockLit.vector = 64 ∧ Source.lockMade.vector = 65 ∧ Source.lockLost.vector = 66 ∧
  (∀ d : Fin 6, (Source.ejectReq d).vector = 80 + d.val) ∧
  Source.ballEnd.vector = 96 ∧ Source.ballSaved.vector = 97 ∧ Source.multiballStart.vector = 98 ∧
  Source.multiballEnd.vector = 99 ∧ Source.gameOver.vector = 100 ∧
  Source.trackingFault.vector = 112 ∧ Source.queueOverrun.vector = 113 ∧
  (∀ d : Fin 6, (Source.ejectFailed d).vector = 114 + d.val) ∧
  ∀ (v : Nat) (x : Source), sourceOf? v = some x ↔ x.vector = v

/-- PEEK_NOTICE answers the vector of the oldest source of the highest-numbered enabled group that holds one, or 0
when every enabled group is empty, with the set of groups that hold any, enabled or not, and changes nothing; the part
pulls ATTN_N low exactly when an enabled group holds a source (R196, R197). -/
def Obligations.PeekFindsTheMostUrgentNotice : Prop :=
  ∀ s : State, s.glk.waiting = false → ∃ v m : Byte,
    exec (.peekNotice []) s = .next (s.answer 0x50 .ok [v, m]) ∧
    (∀ g : Fin 7, m.getLsbD g.val = !(s.ntu.lists[g]).isEmpty) ∧ m.getLsbD 7 = false ∧
    (∀ (g : Fin 7) (x : Source) (l : List Source), s.ntu.enabled.getLsbD g.val = true → s.ntu.lists[g] = x :: l →
      (∀ h : Fin 7, g < h → s.ntu.enabled.getLsbD h.val = true → s.ntu.lists[h] = []) →
      v.toNat = x.vector ∧ s.attnPulled true = true) ∧
    ((∀ g : Fin 7, s.ntu.enabled.getLsbD g.val = true → s.ntu.lists[g] = []) →
      v = 0 ∧ s.attnPulled true = false)

/-! ### Switch intake -/

/-- A byte with a framing error and a report its rule does not count change nothing; a counted scoring report
coalesces into the tail, or is appended while at most 23 entries stand, or is dropped with one QUEUE_OVERRUN in
an episode; a counted device report is appended while at most 31 stand, or is dropped with a tracking fault
(R21 to R26, R209). That the drop of a device report raises TRACKING_FAULT before QUEUE_OVERRUN is the model's choice,
log 9. -/
def Obligations.SwitchReportsAreAdmitted : Prop :=
  ∀ (s : State) (sw : Fin 128) (close : Bool) (b : Byte), decodeSwitchByte b = (close, sw) →
    exec (.switchReport b false) s = .next s ∧
    (s.evl.rules[sw] = .ignored → exec (.switchReport b true) s = .next s) ∧
    (∀ e g l, s.evl.rules[sw] = .scoring e g l →
      (e ≠ edgeOf close → exec (.switchReport b true) s = .next s) ∧
      (e = edgeOf close →
        (∀ init k, s.swi.queue = init ++ [⟨sw, .scoring, k⟩] → k < 255 →
          exec (.switchReport b true) s =
            .next { s with swi := ⟨init ++ [⟨sw, .scoring, k + 1⟩], s.swi.overrun⟩ }) ∧
        ((∀ init k, s.swi.queue = init ++ [⟨sw, .scoring, k⟩] → 255 ≤ k) →
          (s.swi.queue.length ≤ 23 → exec (.switchReport b true) s =
            .next { s with swi := ⟨s.swi.queue ++ [⟨sw, .scoring, 1⟩], s.swi.overrun⟩ }) ∧
          (24 ≤ s.swi.queue.length → s.swi.overrun = true → exec (.switchReport b true) s = .next s) ∧
          (24 ≤ s.swi.queue.length → s.swi.overrun = false → exec (.switchReport b true) s =
            .next (State.raise .queueOverrun { s with swi := ⟨s.swi.queue, true⟩ }))))) ∧
    (∀ d cls, (s.evl.rules[sw] = .deviceExit d ∧ cls = EntryClass.deviceExit) ∨
        (∃ g l, s.evl.rules[sw] = .deviceEntry d g l ∧ cls = EntryClass.deviceEntry) →
      (close = false → exec (.switchReport b true) s = .next s) ∧
      (close = true → s.swi.queue.length ≤ 31 → exec (.switchReport b true) s =
        .next { s with swi := ⟨s.swi.queue ++ [⟨sw, cls, 1⟩], s.swi.overrun⟩ }) ∧
      (close = true → 32 ≤ s.swi.queue.length → exec (.switchReport b true) s =
        .next (State.raise .queueOverrun (State.raise .trackingFault
          { s with swi := ⟨s.swi.queue, true⟩, bdt := { s.bdt with tracking := .fault } }))))

/-- INJECT_SWITCH is a report with its rule's own edge: coalesced, appended, or refused with QUEUE_FULL where a
Switch Port report would be dropped; the answer carries the entry count and the disposition under every status
(R29, R200). -/
def Obligations.InjectedReportsAreAdmitted : Prop :=
  ∀ (s : State) (b : Byte), s.glk.waiting = false →
    (128 ≤ b.toNat → exec (.injectSwitch [b]) s = .next (s.answer 0x09 .outOfRange [small s.swi.queue.length, 0])) ∧
    ∀ sw : Fin 128, sw.val = b.toNat →
      (s.evl.rules[sw] = .ignored →
        exec (.injectSwitch [b]) s = .next (s.answer 0x09 .undefined [small s.swi.queue.length, 0])) ∧
      (∀ e g l, s.evl.rules[sw] = .scoring e g l →
        (∀ init k, s.swi.queue = init ++ [⟨sw, .scoring, k⟩] → k < 255 →
          exec (.injectSwitch [b]) s =
            .next (State.answer { s with swi := ⟨init ++ [⟨sw, .scoring, k + 1⟩], s.swi.overrun⟩ } 0x09 .ok
              [small s.swi.queue.length, 1])) ∧
        ((∀ init k, s.swi.queue = init ++ [⟨sw, .scoring, k⟩] → 255 ≤ k) →
          (s.swi.queue.length ≤ 23 → exec (.injectSwitch [b]) s =
            .next (State.answer { s with swi := ⟨s.swi.queue ++ [⟨sw, .scoring, 1⟩], s.swi.overrun⟩ } 0x09 .ok
              [small (s.swi.queue.length + 1), 2])) ∧
          (24 ≤ s.swi.queue.length → exec (.injectSwitch [b]) s =
            .next (s.answer 0x09 .queueFull [small s.swi.queue.length, 0])))) ∧
      (∀ d cls, (s.evl.rules[sw] = .deviceExit d ∧ cls = EntryClass.deviceExit) ∨
          (∃ g l, s.evl.rules[sw] = .deviceEntry d g l ∧ cls = EntryClass.deviceEntry) →
        (s.swi.queue.length ≤ 31 → exec (.injectSwitch [b]) s =
          .next (State.answer { s with swi := ⟨s.swi.queue ++ [⟨sw, cls, 1⟩], s.swi.overrun⟩ } 0x09 .ok
            [small (s.swi.queue.length + 1), 2])) ∧
        (32 ≤ s.swi.queue.length → exec (.injectSwitch [b]) s =
          .next (s.answer 0x09 .queueFull [small s.swi.queue.length, 0])))

/-! ### Award evaluation -/

/-- EVL takes the head unless the queue is empty or the line HELD; a count of 23 or less left clears the
overrun-reported flag; definitions, parameters, lines, the rotation and the response stand. An entry whose class is no
longer its rule's is discarded, for a device class with a tracking fault; a scoring entry taken outside IN_PLAY or on
a tilted ball is discarded; a hit no context of the stack claims is paid by the rule's award list in list order for
the entry's count (R26, R27, R28, R40, R41, R42, R43, R47, R48). That AWARD_EVALUATION on an empty queue or with the
line HELD leaves the state as it is, is the model's choice, log 7. -/
def Obligations.HeadsAreTakenDiscardedAndPaid : Prop :=
  (∀ s : State,
     (s.swi.queue = [] ∨ s.lineState = .held → exec .awardEvaluation s = .next s) ∧
     ∀ e rest, s.swi.queue = e :: rest → s.lineState ≠ .held → ∃ t, exec .awardEvaluation s = .next t ∧
       t.swi.queue = rest ∧ t.swi.overrun = (if rest.length ≤ 23 then false else s.swi.overrun) ∧
       t.evl = s.evl ∧ t.scu = s.scu ∧ t.mst.templates = s.mst.templates ∧
       (∀ d : Fin 6, (t.bdt.devices[d]).definition = (s.bdt.devices[d]).definition) ∧
       t.lmc.params = s.lmc.params ∧ t.ptb.players.length = s.ptb.players.length ∧
       { t.gpc with game := s.gpc.game } = s.gpc ∧ t.glk = s.glk ∧ t.ntu.enabled = s.ntu.enabled) ∧
  (∀ (s : State) (e : Entry) (rest : List Entry), s.swi.queue = e :: rest → s.lineState ≠ .held →
     (e.cls = .scoring →
       (s.gpc.game ≠ .inPlay ∨ s.gpc.tilted = true ∨ ∀ x g l, s.evl.rules[e.switch] ≠ .scoring x g l) →
       exec .awardEvaluation s = .next (s.afterTake rest)) ∧
     (∀ u : State, u = { s.afterTake rest with bdt := { s.bdt with tracking := .fault } } →
       (e.cls = .deviceEntry → (∀ d g l, s.evl.rules[e.switch] ≠ .deviceEntry d g l) →
         exec .awardEvaluation s = .next (u.raise .trackingFault)) ∧
       (e.cls = .deviceExit → (∀ d, s.evl.rules[e.switch] ≠ .deviceExit d) →
         exec .awardEvaluation s = .next (u.raise .trackingFault)))) ∧
  ∀ (s u : State) (sw : Fin 128) (k : Nat) (rest : List Entry) (e : Edge) (g : Fin 16) (l : List Award),
    s.swi.queue = ⟨sw, .scoring, k⟩ :: rest → s.lineState ≠ .held → s.gpc.game = .inPlay → s.gpc.tilted = false →
    s.evl.rules[sw] = .scoring e g l → (∀ x ∈ s.mst.stack, s.claims x g = false) →
    u = s.afterTake rest →
    exec .awardEvaluation s = .next (l.foldl (fun t a => t.performAward k a) u)

/-- A hit claimed by an EXCLUSIVE context that does not complete pays value × count × multiplier × playfield
multiplier to the current player, counts the hits, restarts a RETRIGGER timer, and stops: no base award and no
later context sees it (R47, R56, R57, R59, R88). -/
def Obligations.ExclusiveClaimPaysAndStops : Prop :=
  ∀ (s : State) (sw : Fin 128) (k : Nat) (rest : List Entry) (e : Edge) (g : Fin 16) (l : List Award)
    (above below : List (Fin 12)) (x : Fin 12) (c : Context) (tm : Template) (f : ShotFields) (n : Nat) (r : Player),
    s.swi.queue = ⟨sw, .scoring, k⟩ :: rest → s.lineState ≠ .held → s.gpc.game = .inPlay → s.gpc.tilted = false →
    s.evl.rules[sw] = .scoring e g l → s.mst.stack = above ++ x :: below →
    (∀ y ∈ above, s.claims y g = false) → s.mst.slots[x] = some c → c.phase = .running →
    s.mst.templates[c.template] = some tm → tm.kind = .exclusive f → tm.claims.getLsbD g.val = true →
    (f.targetHits = 0 ∨ min (c.hits + k) 255 < f.targetHits) →
    s.gpc.current = some (n + 1) → s.ptb.players[n]? = some r →
    ∃ (t : State) (c' : Context) (r' : Player), exec .awardEvaluation s = .next t ∧
      t.mst.slots[x] = some c' ∧ t.ptb.players[n]? = some r' ∧
      (∀ points, points = min (c.value * k * c.multiplier * (if tm.applyPf then r.pfMult else 1)) 999999999999 →
        r'.score = min (r.score + points) 999999999999 ∧
        c' = { c with hits := min (c.hits + k) 255, total := min (c.total + points) 999999999999 }) ∧
      r'.bonus = r.bonus ∧ r'.bonusMult = r.bonusMult ∧ r'.counters = r.counters ∧ r'.locksLit = r.locksLit ∧
      t.ptb.commonValues = s.ptb.commonValues ∧ t.mst.stack = s.mst.stack ∧ t.mst.ended = s.mst.ended ∧
      (∀ y : Fin 12, y ≠ x → t.mst.slots[y] = s.mst.slots[y]) ∧ t.bdt = s.bdt ∧ t.lmc = s.lmc ∧ t.gpc = s.gpc ∧
      (∀ u : Fin 16, c.timer ≠ some u ∨ f.retrigger = false → t.tmu.timers[u] = s.tmu.timers[u]) ∧
      (∀ (u : Fin 16) (q : Timer), c.timer = some u → f.retrigger = true → s.tmu.timers[u] = some q →
        t.tmu.timers[u] = some { q with
          period := q.staged.getD q.period, staged := none, remaining := q.staged.getD q.period })

/-- A hit claimed by an ADDITIVE context is paid and counted as by an EXCLUSIVE one and lets the walk go on: with no
other claim below it the base awards are paid, with an EXCLUSIVE claim below it that one is paid too and the base
awards are not. When the hits of an EXCLUSIVE or ADDITIVE context reach its target hits, its completion value is
credited by its multiplier and the playfield multiplier, it ends COMPLETED with the return of a PAUSED context, and its
next template on completion starts; only after an ADDITIVE one the walk goes on (R47, R56, R59, R88, R90,
R91). The laws of the lists are a premise where the start made by a completion could else reclaim a slot of the walk. -/
def Obligations.AdditiveClaimsGoOnAndCompletionsEnd : Prop :=
  ∀ (s u : State) (sw : Fin 128) (k pf points : Nat) (rest : List Entry) (e : Edge) (g : Fin 16) (l : List Award)
    (above below : List (Fin 12)) (x : Fin 12) (c c' : Context) (tm : Template) (f : ShotFields) (n : Nat) (r : Player),
    s.swi.queue = ⟨sw, .scoring, k⟩ :: rest → s.lineState ≠ .held → s.gpc.game = .inPlay → s.gpc.tilted = false →
    s.evl.rules[sw] = .scoring e g l → s.mst.stack = above ++ x :: below → s.mst.stack.Nodup →
    (∀ y ∈ above, s.claims y g = false) → s.mst.slots[x] = some c → c.phase = .running →
    s.mst.templates[c.template] = some tm → tm.kind = .exclusive f ∨ tm.kind = .additive f →
    tm.claims.getLsbD g.val = true → s.gpc.current = some (n + 1) → s.ptb.players[n]? = some r →
    pf = (if tm.applyPf then r.pfMult else 1) →
    points = min (c.value * k * c.multiplier * pf) 999999999999 →
    c' = { c with hits := min (c.hits + k) 255, total := min (c.total + points) 999999999999 } →
    u = ((s.afterTake rest).credit (n + 1) points (some x)).withSlot x (some c') →
    (tm.kind = .additive f → f.targetHits = 0 ∨ c'.hits < f.targetHits → ∀ w : State,
      (f.retrigger = false ∨ c.timer = none → w = u) →
      (f.retrigger = true → ∀ v, c.timer = some v → ∃ q : Timer, s.tmu.timers[v] = some q ∧
        w = u.withTimer v (some { q with
          period := q.staged.getD q.period, staged := none, remaining := q.staged.getD q.period })) →
      ((∀ y ∈ below, s.claims y g = false) →
        exec .awardEvaluation s = .next (l.foldl (fun t a => t.performAward k a) w)) ∧
      (∀ (mid tail : List (Fin 12)) (y : Fin 12) (d : Context) (tn : Template) (h : ShotFields) (more : Nat),
        below = mid ++ y :: tail → (∀ z ∈ mid, s.claims z g = false) → s.mst.slots[y] = some d → d.phase = .running →
        s.mst.templates[d.template] = some tn → tn.kind = .exclusive h → tn.claims.getLsbD g.val = true →
        h.targetHits = 0 ∨ min (d.hits + k) 255 < h.targetHits → h.retrigger = false →
        more = min (d.value * k * d.multiplier * (if tn.applyPf then r.pfMult else 1)) 999999999999 →
        exec .awardEvaluation s = .next ((w.credit (n + 1) more (some y)).withSlot y (some { d with
          hits := min (d.hits + k) 255, total := min (d.total + more) 999999999999 })))) ∧
    (0 < f.targetHits → f.targetHits ≤ c'.hits → ∀ w : State,
      w = ((u.credit (n + 1) (min (f.completionValue.mantissa * 10 ^ f.completionValue.scale * c.multiplier * pf)
        999999999999) (some x)).endContext x .completed true).startNext tm.nextOnCompletion →
      (tm.kind = .exclusive f → exec .awardEvaluation s = .next w) ∧
      (tm.kind = .additive f → ListLaw s → (∀ y ∈ below, s.claims y g = false) →
        exec .awardEvaluation s = .next (l.foldl (fun t a => t.performAward k a) w)))

/-- A hit claimed by a HURRY context collects its value once, whatever the count: the credit, the hits, the end
COMPLETED with the return of a PAUSED context of its group, the start of its next template on completion, and the walk
stops. With no group and no next template the context stands ENDED, its timer released, MODE_ENDED raised, and nothing
else of the stack moves (R47, R67, R89, R91). -/
def Obligations.HurryCollectPaysOnceAndEnds : Prop :=
  ∀ (s : State) (sw : Fin 128) (k : Nat) (rest : List Entry) (e : Edge) (g : Fin 16) (l : List Award)
    (above below : List (Fin 12)) (x : Fin 12) (c : Context) (tm : Template) (f : HurryFields) (n : Nat) (r : Player),
    s.swi.queue = ⟨sw, .scoring, k⟩ :: rest → s.lineState ≠ .held → s.gpc.game = .inPlay → s.gpc.tilted = false →
    s.evl.rules[sw] = .scoring e g l → s.mst.stack = above ++ x :: below → s.mst.stack.Nodup →
    (∀ y ∈ above, s.claims y g = false) → s.mst.slots[x] = some c → c.phase = .running →
    s.mst.templates[c.template] = some tm → tm.kind = .hurry f → tm.claims.getLsbD g.val = true →
    s.gpc.current = some (n + 1) → s.ptb.players[n]? = some r →
    (∀ points : Nat, points = min (c.value * c.multiplier * (if tm.applyPf then r.pfMult else 1)) 999999999999 →
      exec .awardEvaluation s = .next (((((s.afterTake rest).credit (n + 1) points (some x)).withSlot x (some { c with
        hits := min (c.hits + k) 255, total := min (c.total + points) 999999999999 })).endContext x .completed
          true).startNext tm.nextOnCompletion)) ∧
    (tm.exclusionGroup = 0 → tm.nextOnCompletion = none →
      ∃ (t : State) (c' : Context) (r' : Player), exec .awardEvaluation s = .next t ∧
      t.mst.slots[x] = some c' ∧ t.ptb.players[n]? = some r' ∧
      (∀ points, points = min (c.value * c.multiplier * (if tm.applyPf then r.pfMult else 1)) 999999999999 →
        r'.score = min (r.score + points) 999999999999 ∧ c'.total = min (c.total + points) 999999999999) ∧
      c'.phase = .ended .completed ∧ c'.value = c.value ∧ c'.hits = min (c.hits + k) 255 ∧ c'.timer = none ∧
      (∀ u : Fin 16, c.timer = some u → t.tmu.timers[u] = none ∧
        c'.stored = ((s.tmu.timers[u]).map Timer.remaining).getD 0) ∧
      t.mst.stack = above ++ below ∧ t.mst.ended = s.mst.ended ++ [x] ∧ t.hasNotice (.modeEnded x) = true ∧
      r'.bonus = r.bonus ∧ r'.counters = r.counters ∧ t.ptb.commonValues = s.ptb.commonValues ∧
      (∀ y : Fin 12, y ≠ x → t.mst.slots[y] = s.mst.slots[y]) ∧ t.bdt = s.bdt ∧ t.gpc = s.gpc)

/-! ### Credits, awards and counters -/

/-- A credit sets the player's score to the lesser of the sum and the limit, reports the limit when points were lost and
the flag was no, adds the points to the total of the context that pays, and touches no other player. It crosses
exactly the thresholds not yet crossed whose value lies above the old score and not above the new one; each is raised,
and each with action EXTRA_BALL gives the player an extra ball, up to 9 (R57, R58, R59, R60, R72). -/
def Obligations.CreditsSaturateAndCrossThresholds : Prop :=
  (∀ (s : State) (n points : Nat) (payer : Option (Fin 12)) (r : Player), s.ptb.players[n]? = some r →
     ∃ r' : Player, (s.credit (n + 1) points payer).ptb.players[n]? = some r' ∧
       r'.score = min (r.score + points) 999999999999 ∧
       r'.scoreLimitReported = (r.scoreLimitReported || decide (999999999999 < r.score + points)) ∧
       (999999999999 < r.score + points → r.scoreLimitReported = false →
         (s.credit (n + 1) points payer).hasNotice .scoreLimit = true) ∧
       (r.score + points ≤ 999999999999 ∨ r.scoreLimitReported = true →
         (s.credit (n + 1) points payer).hasNotice .scoreLimit = s.hasNotice .scoreLimit) ∧
       (∀ m, m ≠ n → (s.credit (n + 1) points payer).ptb.players[m]? = s.ptb.players[m]?) ∧
       (∀ x : Fin 12, (s.credit (n + 1) points payer).mst.slots[x] =
         (if payer = some x then
           (s.mst.slots[x]).map fun c => { c with total := min (c.total + points) 999999999999 }
         else s.mst.slots[x]))) ∧
  ∀ (s : State) (n points : Nat) (payer : Option (Fin 12)) (r : Player), s.ptb.players[n]? = some r →
    s.scu.thresholds.length ≤ 8 → r.extraBalls ≤ 9 →
    ∃ (r' : Player) (crossed : Fin 8 → Bool), (s.credit (n + 1) points payer).ptb.players[n]? = some r' ∧
      (∀ i : Fin 8, crossed i = true ↔ (r.crossed.getLsbD i.val = false ∧ ∃ th, s.scu.thresholds[i.val]? = some th ∧
        r.score < th.value ∧ th.value ≤ r'.score)) ∧
      (∀ i : Fin 8, r'.crossed.getLsbD i.val = (r.crossed.getLsbD i.val || crossed i)) ∧
      (∀ i : Fin 8, (s.credit (n + 1) points payer).hasNotice (.threshold i) =
        (s.hasNotice (.threshold i) || crossed i)) ∧
      r'.extraBalls = min 9 (r.extraBalls + ((List.finRange 8).filter fun i =>
        crossed i && ((s.scu.thresholds[i.val]?).map Threshold.extraBall).getD false).length)

/-- A BONUS record adds its worth times the count, held at 99,999,999; a BONUS_MULT record adds n times the
count, held at 99, so a gathered entry gives what its closures give one by one; an EXTRA_BALL record gives one
ball below 9, with EXTRA_BALL raised, and is ignored at 9 (R49, R50, R54, R64, R65). -/
def Obligations.BonusAndExtraBallRecords : Prop :=
  ∀ (s : State) (n k m : Nat) (r : Player), s.gpc.current = some (n + 1) → s.ptb.players[n]? = some r →
    (∀ v : PointValue, s.performAward k (.bonus v) =
      s.withPlayer n { r with bonus := min (r.bonus + v.mantissa * 10 ^ v.scale * k) 99999999 }) ∧
    s.performAward k (.bonusMult m) = s.withPlayer n { r with bonusMult := min (r.bonusMult + m * k) 99 } ∧
    (∀ j, (s.performAward k (.bonusMult m)).performAward j (.bonusMult m) = s.performAward (k + j) (.bonusMult m)) ∧
    (r.extraBalls < 9 → s.performAward k .extraBall =
      (s.withPlayer n { r with extraBalls := r.extraBalls + 1 }).raise .extraBall) ∧
    (9 ≤ r.extraBalls → s.performAward k .extraBall = s)

/-- A SCORE record is one credit of worth × count × (pf_mult or 1), clamped at the limit; a JACKPOT record credits
J, raises JACKPOT and steps J while multiball runs, and is skipped while it is OFF; a LIGHT_LOCK record lights a
lock only while multiball is OFF and both limits allow it; a START_MODE record starts its template for the current
player once, whatever the count, as START_MODE would, and raises MODE_STARTED for a context started, MODE_START_FAILED
for a start that fails (R49, R52, R53, R56, R86, R98, R128, R143). -/
def Obligations.ScoreJackpotAndLockRecords : Prop :=
  ∀ (s : State) (n k : Nat) (pf : Bool) (r : Player), s.gpc.current = some (n + 1) → s.ptb.players[n]? = some r →
    (∀ v : PointValue, s.performAward k (.score v pf) = s.credit (n + 1)
      (min (v.mantissa * 10 ^ v.scale * k * (if pf then r.pfMult else 1)) 999999999999) none) ∧
    (s.lmc.multiball = false → s.performAward k (.jackpot pf) = s) ∧
    (s.lmc.multiball = true → ∃ t,
      t = State.raise .jackpot
        (s.credit (n + 1) (min (s.lmc.jackpot * (if pf then r.pfMult else 1)) 999999999999) none) ∧
      ∃ j, j = min (s.lmc.jackpot + s.lmc.params.jackpotStep.mantissa * 10 ^ s.lmc.params.jackpotStep.scale)
          (s.lmc.params.jackpotMax.mantissa * 10 ^ s.lmc.params.jackpotMax.scale) ∧
        s.performAward k (.jackpot pf) = { t with lmc := { s.lmc with jackpot := j } }) ∧
    (s.lmc.multiball = false → r.locksLit < s.lmc.params.litMax → r.locksLit + r.locksMade < s.lmc.params.mbLocks →
      s.performAward k .lightLock = (s.withPlayer n { r with locksLit := r.locksLit + 1 }).raise .lockLit) ∧
    (s.lmc.multiball = true ∨ s.lmc.params.litMax ≤ r.locksLit ∨ s.lmc.params.mbLocks ≤ r.locksLit + r.locksMade →
      s.performAward k .lightLock = s) ∧
    (∀ (i : Fin 32) (t : State) (o : StartOutcome), s.startMode i = (t, o) → s.glk.waiting = false →
      (∀ why, o = .failed why → s.performAward k (.startMode i) = t.raise .modeStartFailed ∧
        exec (.startMode [small i.val]) s = .next (t.answer 0x20 why [])) ∧
      (∀ x : Fin 12, o = .started x ∨ o = .stood x → s.performAward k (.startMode i) = t ∧
        (o = .started x → t.hasNotice .modeStarted = true) ∧
        exec (.startMode [small i.val]) s = .next (t.answer 0x20 .ok [small x.val])))

/-- An advance of a REPEAT counter leaves the total's remainder and completes once per whole target; a staged target
takes effect at the first completion and governs the rest, a staged 0 stopping it at 0. An advance of a HOLD counter
counts up to its target, completes once on reaching it, and then takes a staged target, its value the lesser of the
two; at or above its target it settles there without a completion (R11, R12). -/
def Obligations.CounterAdvancesFindTheirCompletions : Prop :=
  (∀ (d : CounterDef) (v k : Nat), d.afterReach = .repeats → 0 < d.target →
     (d.staged = none → d.advance v k = ⟨(v + k) % d.target, d.target, none, (v + k) / d.target⟩) ∧
     (v + k < d.target → d.advance v k = ⟨v + k, d.target, d.staged, 0⟩) ∧
     (d.target ≤ v + k → d.staged = some 0 → d.advance v k = ⟨0, 0, none, 1⟩) ∧
     (∀ u, d.target ≤ v + k → d.staged = some u → 0 < u →
       d.advance v k = ⟨(v + k - d.target) % u, u, none, 1 + (v + k - d.target) / u⟩)) ∧
  ∀ (d : CounterDef) (v k : Nat), d.afterReach = .hold → 0 < d.target →
    (v + k < d.target → d.advance v k = ⟨v + k, d.target, d.staged, 0⟩) ∧
    (v < d.target → d.target ≤ v + k → d.staged = none → d.advance v k = ⟨d.target, d.target, none, 1⟩) ∧
    (∀ u, v < d.target → d.target ≤ v + k → d.staged = some u → d.advance v k = ⟨min d.target u, u, none, 1⟩) ∧
    (d.target ≤ v → d.advance v k = ⟨d.target, d.target, d.staged, 0⟩)

/-- An ADVANCE record on a disabled counter is ignored; on another it writes the value, the target and the staged
target of the addressed counter, sets every value of a counter that became disabled to 0, and then performs the
action once per completion for the current player: NONE does nothing, NOTIFY raises COUNTER_NOTIFY with its code,
LIGHT_LOCK lights a lock where the limits allow it, START_MODE makes an automatic start, EXTRA_BALL gives one up to 9,
BONUS_MULT raises bonus_mult by 1 up to 99 (R9, R11, R13, R14, R51). -/
def Obligations.AdvanceRecordsMoveTheCounter : Prop :=
  ∀ (s : State) (n k : Nat) (r : Player), s.gpc.current = some (n + 1) → s.ptb.players[n]? = some r →
    (∀ (a : CounterAction) (m : Nat), s.counterActions a 0 = s ∧
      s.counterActions a (m + 1) = (s.counterAction a).counterActions a m) ∧
    s.counterAction .none = s ∧
    (∀ c : Fin 4, s.counterAction (.notify c) = s.raise (.counterNotify c)) ∧
    (s.lmc.multiball = false → r.locksLit < s.lmc.params.litMax → r.locksLit + r.locksMade < s.lmc.params.mbLocks →
      s.counterAction .lightLock = (s.withPlayer n { r with locksLit := r.locksLit + 1 }).raise .lockLit) ∧
    (s.lmc.multiball = true ∨ s.lmc.params.litMax ≤ r.locksLit ∨ s.lmc.params.mbLocks ≤ r.locksLit + r.locksMade →
      s.counterAction .lightLock = s) ∧
    (∀ (i : Fin 32) (t : State) (o : StartOutcome), s.startMode i = (t, o) →
      s.counterAction (.startMode i) = (match o with
        | .failed _ => t.raise .modeStartFailed
        | .started _ | .stood _ => t)) ∧
    (r.extraBalls < 9 → s.counterAction .extraBall =
      (s.withPlayer n { r with extraBalls := r.extraBalls + 1 }).raise .extraBall) ∧
    (9 ≤ r.extraBalls → s.counterAction .extraBall = s) ∧
    s.counterAction .bonusMult = s.withPlayer n { r with bonusMult := min (r.bonusMult + 1) 99 } ∧
    (∀ (i : Fin 16) (a : Advanced),
      ((s.ptb.playerDefs[i]).target = 0 → s.performAward k (.advance (.player i)) = s) ∧
      ((s.ptb.playerDefs[i]).target ≠ 0 → a = (s.ptb.playerDefs[i]).advance r.counters[i] k →
        s.performAward k (.advance (.player i)) = State.counterActions { s with ptb := { s.ptb with
            playerDefs := s.ptb.playerDefs.set i.val
              { s.ptb.playerDefs[i] with target := a.target, staged := a.staged } i.isLt
            players := if a.target = 0
              then s.ptb.players.map fun q => { q with counters := q.counters.set i.val 0 i.isLt }
              else s.ptb.players.set n { r with counters := r.counters.set i.val a.value i.isLt } } }
          (s.ptb.playerDefs[i]).action a.completions)) ∧
    (∀ (i : Fin 32) (a : Advanced),
      ((s.ptb.commonDefs[i]).target = 0 → s.performAward k (.advance (.common i)) = s) ∧
      ((s.ptb.commonDefs[i]).target ≠ 0 → a = (s.ptb.commonDefs[i]).advance s.ptb.commonValues[i] k →
        s.performAward k (.advance (.common i)) = State.counterActions { s with ptb := { s.ptb with
            commonDefs := s.ptb.commonDefs.set i.val
              { s.ptb.commonDefs[i] with target := a.target, staged := a.staged } i.isLt
            commonValues := s.ptb.commonValues.set i.val (if a.target = 0 then 0 else a.value) i.isLt } }
          (s.ptb.commonDefs[i]).action a.completions))

/-- A decay step lowers a value above its floor by at least one unit unless the floor holds it, never below the
floor, to a whole number of units or the floor; its result is the one the five steps of R68 give (R68). -/
def Obligations.DecayStepsTowardTheFloor : Prop :=
  ∀ (v floor d q : Nat), floor < v →
    (∀ drop, drop = max (v * d / 256) (10 ^ q) →
      decayStep v floor d q = max floor ((v - drop) - (v - drop) % 10 ^ q)) ∧
    floor ≤ decayStep v floor d q ∧ decayStep v floor d q < v ∧
    (decayStep v floor d q = floor ∨ (10 ^ q ∣ decayStep v floor d q ∧ decayStep v floor d q + 10 ^ q ≤ v))

/-! ### Ball devices -/

/-- An eject request adds the lesser of n and the balls not yet asked for, none from an absent or FAULTED device;
from 0 it clears the retries, starts the timer at the eject timeout and raises EJECT_REQ (R116). -/
def Obligations.EjectRequestsAreClamped : Prop :=
  ∀ (s : State) (d : Fin 6) (n : Nat) (r : Device), s.bdt.devices[d] = r →
    (r.definition = none ∨ r.faulted = true ∨ n = 0 ∨ r.occupancy ≤ r.ejectPending → s.requestEject d n = (s, 0)) ∧
    (∀ x added, r.definition = some x → r.faulted = false → added = min n (r.occupancy - r.ejectPending) → 0 < added →
      (r.ejectPending = 0 → s.requestEject d n =
        ((s.withDevice d { r with ejectPending := added, retries := 0, ejectTimer := some x.timeout }).raise
          (.ejectReq d), added)) ∧
      (r.ejectPending ≠ 0 → s.requestEject d n =
        (s.withDevice d { r with ejectPending := r.ejectPending + added }, added)))

/-- The evaluation of a device entry counts the ball: a full device refuses it with a tracking fault and no device
handling; else the occupancy rises, and balls_in_play falls or, at 0, stays with a tracking fault. A ball entering a
SCOOP, or a LOCK that does not make it a lock, is kicked out by a READY device while a game is in progress and kept
otherwise; a ball kept in IN_PLAY by a FAULTED device that leaves no ball in play and no eject pending in a READY device
ends the ball (R44, R108, R109, R110, R116, R132, R171). -/
def Obligations.BallEntriesAreCountedAndKickedOut : Prop :=
  (∀ (s : State) (e : Entry) (rest : List Entry) (d : Fin 6) (g : Fin 16) (l : List Award) (r : Device),
     s.swi.queue = e :: rest → s.lineState ≠ .held → e.cls = .deviceEntry →
     s.evl.rules[e.switch] = .deviceEntry d g l → s.bdt.devices[d] = r →
     ∃ t, exec .awardEvaluation s = .next t ∧
       (r.capacity ≤ r.occupancy →
         t.bdt = { s.bdt with tracking := .fault } ∧ t.lmc.claims = s.lmc.claims ∧
           t.hasNotice .trackingFault = true) ∧
       (r.occupancy < r.capacity →
         (∀ c : Fin 6, (t.bdt.devices[c]).occupancy =
           (s.bdt.devices[c]).occupancy + (if c = d then 1 else 0)) ∧
         t.bdt.ballsInPlay = s.bdt.ballsInPlay - 1 ∧
         (0 < s.bdt.ballsInPlay → t.bdt.tracking = s.bdt.tracking) ∧
         (s.bdt.ballsInPlay = 0 → t.bdt.tracking = .fault ∧ t.hasNotice .trackingFault = true))) ∧
  ∀ (s : State) (e : Entry) (rest : List Entry) (d : Fin 6) (g : Fin 16) (l : List Award) (r : Device) (x : DeviceDef),
    s.swi.queue = e :: rest → s.lineState ≠ .held → e.cls = .deviceEntry →
    s.evl.rules[e.switch] = .deviceEntry d g l → s.bdt.devices[d] = r → r.definition = some x →
    r.occupancy < x.capacity → r.ejectPending ≤ r.occupancy →
    (x.kind = .scoop ∨ ∃ a b, x.kind = .lock a b ∧ (s.gpc.game ≠ .inPlay ∨ s.gpc.tilted = true ∨ r.faulted = true ∨
      s.lmc.multiball = true ∨ ∀ q : Player, s.player? s.currentPlayer = some q → q.locksLit = 0)) →
    ∃ t, exec .awardEvaluation s = .next t ∧
      (s.gpc.game = .idle ∨ s.gpc.game = .gameOver ∨ r.faulted = true →
        t.bdt.devices[d] = { r with occupancy := r.occupancy + 1 }) ∧
      (s.gpc.game ≠ .idle → s.gpc.game ≠ .gameOver → r.faulted = false →
        (r.ejectPending = 0 → t.hasNotice (.ejectReq d) = true ∧ t.bdt.devices[d] =
          { r with occupancy := r.occupancy + 1, ejectPending := 1, retries := 0, ejectTimer := some x.timeout }) ∧
        (r.ejectPending ≠ 0 → t.bdt.devices[d] =
          { r with occupancy := r.occupancy + 1, ejectPending := r.ejectPending + 1 })) ∧
      (∀ (n : Nat) (q : Player), s.gpc.game = .inPlay → r.faulted = true → s.gpc.current = some (n + 1) →
        s.ptb.players[n]? = some q → ModeLaw s → TimerLaw s →
        (s.bdt.ballsInPlay ≤ 1 → (∀ c : Fin 6, (s.bdt.devices[c]).faulted = false → (s.bdt.devices[c]).ejectPending = 0) →
          BallEnds s t n q) ∧
        (1 < s.bdt.ballsInPlay ∨
            (∃ c : Fin 6, (s.bdt.devices[c]).faulted = false ∧ (s.bdt.devices[c]).ejectPending ≠ 0) →
          t.gpc = s.gpc))

/-- A ball entering a READY LOCK in IN_PLAY, untilted, multiball OFF, with a lock lit makes a lock for the current
player: a claim at the tail, one lit lock made, LOCK_MADE raised; short of mb_locks a full keep_room device releases
one ball, and a lock that leaves no ball in play asks the trough for one; when that adds no ball and no eject is pending
in a READY device, the ball ends. A lock that reaches mb_locks starts multiball as START_MULTIBALL would, with no
keep_room eject and no serve (R127, R130, R131, R135, R171). -/
def Obligations.LitLocksAreMade : Prop :=
  ∀ (s : State) (e : Entry) (rest : List Entry) (d : Fin 6) (g : Fin 16) (l : List Award) (r trough : Device)
    (x : DeviceDef) (stealable keepRoom : Bool) (n : Nat) (q : Player),
    s.swi.queue = e :: rest → s.lineState ≠ .held → e.cls = .deviceEntry →
    s.evl.rules[e.switch] = .deviceEntry d g l → s.bdt.devices[d] = r → s.bdt.devices[(0 : Fin 6)] = trough → d ≠ 0 →
    r.definition = some x → x.kind = .lock stealable keepRoom → r.faulted = false → r.occupancy < x.capacity →
    r.ejectPending ≤ r.occupancy → s.gpc.game = .inPlay → s.gpc.tilted = false → s.lmc.multiball = false →
    s.gpc.current = some (n + 1) → s.ptb.players[n]? = some q → 0 < q.locksLit →
    (q.locksMade + 1 < s.lmc.params.mbLocks →
      ∃ (t : State) (q' : Player), exec .awardEvaluation s = .next t ∧ t.ptb.players[n]? = some q' ∧
        t.lmc.claims[d] = s.lmc.claims[d] ++ [n + 1] ∧ (∀ c : Fin 6, c ≠ d → t.lmc.claims[c] = s.lmc.claims[c]) ∧
        q'.locksMade = q.locksMade + 1 ∧ (l = [] → t.gpc.game = .inPlay → q'.locksLit = q.locksLit - 1) ∧
        t.hasNotice .lockMade = true ∧
        (keepRoom = true → r.occupancy + 1 = x.capacity →
          (t.bdt.devices[d]).ejectPending = r.ejectPending + 1 ∧ t.bdt.devices[(0 : Fin 6)] = trough ∧
            t.gpc.game = .inPlay) ∧
        (keepRoom = false ∨ r.occupancy + 1 ≠ x.capacity →
          t.bdt.devices[d] = { r with occupancy := r.occupancy + 1 } ∧
          (1 < s.bdt.ballsInPlay → t.bdt.devices[(0 : Fin 6)] = trough ∧ t.gpc.game = .inPlay) ∧
          (s.bdt.ballsInPlay ≤ 1 → trough.definition.isSome = true → trough.faulted = false →
            trough.ejectPending < trough.occupancy →
            (t.bdt.devices[(0 : Fin 6)]).ejectPending = trough.ejectPending + 1 ∧ t.gpc.game = .inPlay) ∧
          (s.bdt.ballsInPlay ≤ 1 → trough.definition = none ∨ trough.faulted = true ∨
              trough.occupancy ≤ trough.ejectPending →
            t.bdt.devices[(0 : Fin 6)] = trough ∧
            (ModeLaw s → TimerLaw s →
              (∀ c : Fin 6, (s.bdt.devices[c]).faulted = false → (s.bdt.devices[c]).ejectPending = 0) →
              BallEnds s t n { q with locksLit := q.locksLit - 1, locksMade := q.locksMade + 1 }) ∧
            ((∃ c : Fin 6, (s.bdt.devices[c]).faulted = false ∧ (s.bdt.devices[c]).ejectPending ≠ 0) →
              t.gpc = s.gpc)))) ∧
    (s.lmc.params.mbLocks ≤ q.locksMade + 1 → s.glk.waiting = false → (∀ y ∈ s.mst.stack, s.claims y g = false) →
      ∀ u v : State,
        u = (if 0 < s.bdt.ballsInPlay then
            { s.afterTake rest with bdt := { s.bdt with
              devices := s.bdt.devices.set d.val { r with occupancy := r.occupancy + 1 } d.isLt
              ballsInPlay := s.bdt.ballsInPlay - 1 } }
          else State.raise .trackingFault { s.afterTake rest with bdt := { s.bdt with
            devices := s.bdt.devices.set d.val { r with occupancy := r.occupancy + 1 } d.isLt
            tracking := .fault } }) →
        v = State.raise .lockMade
          { u.withPlayer n { q with locksLit := q.locksLit - 1, locksMade := q.locksMade + 1 } with
            lmc := { s.lmc with claims := s.lmc.claims.set d.val (s.lmc.claims[d] ++ [n + 1]) d.isLt } } →
        ∃ (t : State) (p : List Byte), exec (.startMultiball []) v = .next (t.answer 0x34 .ok p) ∧ t.glk = s.glk ∧
          t.lmc.multiball = true ∧ exec .awardEvaluation s = .next (l.foldl (fun t a => t.performAward 1 a) t))

/-- A drain in IN_PLAY under active ball save, untilted, with the trough READY asks for the ball back, raises
BALL_SAVED and keeps the game IN_PLAY; with multiball OFF the save is consumed. With multiball RUNNING the save
stands, its timer included, and the relaunch counts for the multiball check; the base awards of the rule follow (R48,
R111, R115, R140, R141). -/
def Obligations.SavedDrainsAreRelaunched : Prop :=
  ∀ (s : State) (e : Entry) (rest : List Entry) (g : Fin 16) (l : List Award) (r : Device) (x : DeviceDef),
    s.swi.queue = e :: rest → s.lineState ≠ .held → e.cls = .deviceEntry →
    s.evl.rules[e.switch] = .deviceEntry 0 g l → s.bdt.devices[(0 : Fin 6)] = r → r.definition = some x →
    x.kind = .trough → r.occupancy < x.capacity → r.ejectPending ≤ r.occupancy → r.faulted = false →
    s.gpc.game = .inPlay → s.gpc.tilted = false → s.ballSaveActive = true →
    ∃ t, exec .awardEvaluation s = .next t ∧ t.gpc.game = .inPlay ∧
      (t.bdt.devices[(0 : Fin 6)]).occupancy = r.occupancy + 1 ∧
      (t.bdt.devices[(0 : Fin 6)]).ejectPending = r.ejectPending + 1 ∧ t.hasNotice .ballSaved = true ∧
      (s.lmc.multiball = false → t.ballSaveActive = false) ∧
      (r.ejectPending = 0 → t.hasNotice (.ejectReq 0) = true ∧ t.bdt.devices[(0 : Fin 6)] =
        { r with occupancy := r.occupancy + 1, ejectPending := 1, retries := 0, ejectTimer := some x.timeout }) ∧
      (r.ejectPending ≠ 0 → t.bdt.devices[(0 : Fin 6)] =
        { r with occupancy := r.occupancy + 1, ejectPending := r.ejectPending + 1 }) ∧
      (∀ c : Fin 6, c ≠ 0 → t.bdt.devices[c] = s.bdt.devices[c]) ∧ t.bdt.ballsInPlay = s.bdt.ballsInPlay - 1 ∧
      ∀ m : Nat, s.lmc.multiball = true →
        m = s.bdt.ballsInPlay - 1 + ((List.finRange 6).map fun c =>
          if (s.bdt.devices[c]).faulted then 0 else (s.bdt.devices[c]).ejectPending).sum + 1 →
        (1 < m → t.lmc.multiball = true) ∧ (m ≤ 1 → t.lmc.multiball = false ∧ t.hasNotice .multiballEnd = true) ∧
        ((∀ y ∈ s.mst.stack, s.claims y g = false) → ∃ w : State, t = l.foldl (fun t a => t.performAward 1 a) w ∧
          w.ptb = s.ptb ∧ w.gpc = s.gpc ∧ (1 < m → w.lmc = s.lmc ∧ w.mst = s.mst ∧ w.tmu = s.tmu) ∧
          (m ≤ 1 → ModeLaw s → TimerLaw s → MultiballEnds s w))

/-- The last ball's drain, not saved, ends the ball: BALL_OVER; the untilted player is credited bonus × bonus_mult,
and bonus, bonus_mult and pf_mult return to 0, 1 and 1; no context of the player runs or waits in PAUSED; lit locks
are kept or cleared by lit_carry; BALL_END is raised; the rule's awards are not paid. A drain of multiball, not saved,
that leaves one ball in play or owed by a READY device ends multiball and the ball goes on; one that leaves more
leaves multiball RUNNING; the base awards of the rule follow on an untilted ball (R44, R48, R66, R94, R96, R111, R140,
R141, R144, R171). -/
def Obligations.LastDrainEndsTheBall : Prop :=
  (∀ (s : State) (e : Entry) (rest : List Entry) (g : Fin 16) (l : List Award) (r : Device) (x : DeviceDef)
     (n : Nat) (q : Player),
     s.swi.queue = e :: rest → s.lineState ≠ .held → e.cls = .deviceEntry →
     s.evl.rules[e.switch] = .deviceEntry 0 g l → s.bdt.devices[(0 : Fin 6)] = r → r.definition = some x →
     x.kind = .trough → r.occupancy < x.capacity → s.bdt.ballsInPlay ≤ 1 → s.gpc.game = .inPlay →
     (s.gpc.tilted = true ∨ r.faulted = true ∨ s.ballSaveActive = false) →
     (∀ d : Fin 6, (s.bdt.devices[d]).faulted = false → (s.bdt.devices[d]).ejectPending = 0) →
     s.gpc.current = some (n + 1) → s.ptb.players[n]? = some q → ModeLaw s → TimerLaw s →
     ∃ (t : State) (q' : Player), exec .awardEvaluation s = .next t ∧ t.gpc = { s.gpc with game := .ballOver } ∧
       t.ptb.players[n]? = some q' ∧
       q'.score = (if s.gpc.tilted then q.score else
         min (q.score + min (q.bonus * q.bonusMult) 999999999999) 999999999999) ∧
       q'.bonus = 0 ∧ q'.bonusMult = 1 ∧ q'.pfMult = 1 ∧ q'.counters = q.counters ∧ q'.locksMade = q.locksMade ∧
       q'.locksLit = (if s.lmc.params.litKeeps then q.locksLit else 0) ∧
       t.ptb.commonValues = s.ptb.commonValues ∧
       (∀ m, m ≠ n → t.ptb.players[m]? = s.ptb.players[m]?) ∧
       (∀ y : Fin 12, t.isLive y = false) ∧ t.mst.stack = [] ∧ t.mst.pauseOrder = [] ∧
       (∀ (y : Fin 12) (c : Context) (tm : Template), s.mst.slots[y] = some c → s.isLive y = true →
         s.mst.templates[c.template] = some tm →
         (∃ c', t.mst.slots[y] = some c' ∧ c'.timer = none ∧ c'.value = c.value ∧ c'.hits = c.hits ∧
           c'.total = c.total ∧ c'.stored = s.remainingOf c ∧
           c'.phase = (if tm.mbOnly then .ended .mbEnded else if s.gpc.tilted then .ended .tilted
             else if tm.carries then .parked else .ended .ballEnded)) ∧
         (tm.carries = true → tm.mbOnly = false → s.gpc.tilted = false → y ∉ t.mst.ended)) ∧
       t.lmc.multiball = false ∧ t.lmc.claims = s.lmc.claims ∧
       (s.lmc.multiball = true → t.hasNotice .multiballEnd = true) ∧
       t.ballSaveActive = false ∧ t.boundTimer? .pfMult = none ∧ t.hasNotice .ballEnd = true ∧
       (t.bdt.devices[(0 : Fin 6)]).occupancy = r.occupancy + 1) ∧
  ∀ (s u : State) (e : Entry) (rest : List Entry) (g : Fin 16) (l : List Award) (r : Device) (x : DeviceDef) (m : Nat),
    s.swi.queue = e :: rest → s.lineState ≠ .held → e.cls = .deviceEntry →
    s.evl.rules[e.switch] = .deviceEntry 0 g l → s.bdt.devices[(0 : Fin 6)] = r → r.definition = some x →
    x.kind = .trough → r.occupancy < x.capacity → s.gpc.game = .inPlay → s.lmc.multiball = true →
    (s.gpc.tilted = true ∨ r.faulted = true ∨ s.ballSaveActive = false) →
    m = s.bdt.ballsInPlay - 1 + ((List.finRange 6).map fun c =>
      if (s.bdt.devices[c]).faulted then 0 else (s.bdt.devices[c]).ejectPending).sum →
    u = (if 0 < s.bdt.ballsInPlay then
        { s.afterTake rest with bdt := { s.bdt with
          devices := s.bdt.devices.set 0 { r with occupancy := r.occupancy + 1 }
          ballsInPlay := s.bdt.ballsInPlay - 1 } }
      else State.raise .trackingFault { s.afterTake rest with bdt := { s.bdt with
        devices := s.bdt.devices.set 0 { r with occupancy := r.occupancy + 1 }, tracking := .fault } }) →
    0 < m → ∃ t, exec .awardEvaluation s = .next t ∧ t.gpc = s.gpc ∧ t.bdt = u.bdt ∧
      (1 < m → t.lmc.multiball = true) ∧ (m = 1 → t.lmc.multiball = false ∧ t.hasNotice .multiballEnd = true) ∧
      (s.gpc.tilted = true ∨ (∀ y ∈ s.mst.stack, s.claims y g = false) → ∃ w : State,
        t = (if s.gpc.tilted then w else l.foldl (fun t a => t.performAward 1 a) w) ∧ (1 < m → w = u) ∧
        (m = 1 → ModeLaw s → TimerLaw s → MultiballEnds s w ∧ w.lmc.claims = s.lmc.claims ∧ w.swi = u.swi))

/-- A ball leaving a device is counted, costs the device its oldest claim when fewer balls than claims remain
(the owner losing a lock under STEALABLE), confirms a pending eject or cancels a replacement launch, and from
the trough in STARTING starts the ball with its ball save, the lowest FREE timer as a ONE_SHOT one of ball_save_ticks,
none where none is FREE; an exit from an empty device is a tracking fault (R112, R113, R114, R133, R170). That a ball
save given while one is held restarts the held timer is the model's choice, log 13. -/
def Obligations.BallExitsAreCounted : Prop :=
  ∀ (s : State) (e : Entry) (rest : List Entry) (d : Fin 6) (r : Device),
    s.swi.queue = e :: rest → s.lineState ≠ .held → e.cls = .deviceExit → s.evl.rules[e.switch] = .deviceExit d →
    s.bdt.devices[d] = r → ∃ t, exec .awardEvaluation s = .next t ∧
      (r.occupancy = 0 → t.bdt = { s.bdt with tracking := .fault } ∧ t.lmc = s.lmc ∧
        t.hasNotice .trackingFault = true) ∧
      (0 < r.occupancy →
        t.bdt.ballsInPlay = (if s.bdt.ballsInPlay < 12 then s.bdt.ballsInPlay + 1 else s.bdt.ballsInPlay) ∧
        (s.bdt.ballsInPlay < 12 → t.bdt.tracking = s.bdt.tracking) ∧
        (12 ≤ s.bdt.ballsInPlay → t.bdt.tracking = .fault ∧ t.hasNotice .trackingFault = true) ∧
        (0 < r.ejectPending → t.bdt.devices[d] = { r with
          occupancy := r.occupancy - 1, ejectPending := r.ejectPending - 1, retries := 0,
          ejectTimer := if r.ejectPending = 1 then none else some r.timeout }) ∧
        (1 < r.ejectPending → t.hasNotice (.ejectReq d) = true) ∧
        (r.ejectPending = 0 → r.faulted = false ∨ r.replaced = 0 →
          t.bdt.devices[d] = { r with occupancy := r.occupancy - 1 }) ∧
        (r.ejectPending = 0 → r.faulted = true → 0 < r.replaced → d ≠ 0 →
          t.bdt.devices[d] = { r with occupancy := r.occupancy - 1, replaced := r.replaced - 1 } ∧
          (t.bdt.devices[(0 : Fin 6)]).ejectPending = (s.bdt.devices[(0 : Fin 6)]).ejectPending - 1 ∧
          ((s.bdt.devices[(0 : Fin 6)]).ejectPending = 1 → (t.bdt.devices[(0 : Fin 6)]).ejectTimer = none)) ∧
        (∀ c : Fin 6, c ≠ d → c ≠ 0 ∨ 0 < r.ejectPending ∨ r.faulted = false ∨ r.replaced = 0 →
          t.bdt.devices[c] = s.bdt.devices[c]) ∧
        ((s.lmc.claims[d]).length < r.occupancy → t.lmc = s.lmc) ∧
        (∀ owner more, s.lmc.claims[d] = owner :: more → r.occupancy ≤ more.length + 1 →
          t.lmc.claims[d] = more ∧ (∀ c : Fin 6, c ≠ d → t.lmc.claims[c] = s.lmc.claims[c]) ∧
          (∀ x b, r.definition = some x → x.kind = .lock true b → t.hasNotice .lockLost = true ∧
            ∀ m q, owner = m + 1 → s.ptb.players[m]? = some q →
              t.ptb.players[m]? = some { q with locksMade := q.locksMade - 1 }) ∧
          (∀ x b, r.definition = some x → x.kind = .lock false b → t.ptb = s.ptb))) ∧
      t.gpc = { s.gpc with game := if d = 0 ∧ s.gpc.game = .starting then .inPlay else s.gpc.game } ∧
      (d = 0 → s.gpc.game = .starting → 0 < s.gpc.params.ballSaveTicks → s.gpc.tilted = false →
        (∃ u : Fin 16, s.tmu.timers[u] = none) → t.ballSaveActive = true) ∧
      (∀ k : Nat, d = 0 → s.gpc.game = .starting → 0 < k → k = s.gpc.params.ballSaveTicks → s.gpc.tilted = false →
        ((∀ (v : Fin 16) (f : Timer), s.tmu.timers[v] = some f → f.binding ≠ .ballSave) →
          (∀ u : Fin 16, s.tmu.timers[u] = none → (∀ v, v < u → s.tmu.timers[v] ≠ none) →
            t.tmu = (s.withTimer u (some ⟨.running, .oneShot, k, none, k, true, .ballSave⟩)).tmu) ∧
          ((∀ v : Fin 16, s.tmu.timers[v] ≠ none) → t.tmu = s.tmu)) ∧
        (∀ (u : Fin 16) (q : Timer), s.tmu.timers[u] = some q → q.binding = .ballSave →
          (∀ (v : Fin 16) (f : Timer), v ≠ u → s.tmu.timers[v] = some f → f.binding ≠ .ballSave) →
          t.tmu = (s.withTimer u (some { q with
            period := k, staged := none, remaining := k, state := .running })).tmu)) ∧
      (d ≠ 0 ∨ s.gpc.game ≠ .starting ∨ s.gpc.params.ballSaveTicks = 0 ∨ s.gpc.tilted = true → t.tmu = s.tmu) ∧
      t.mst = s.mst ∧ t.evl = s.evl

/-- At BDT's tick every running eject timer is lowered by 1, but at its last count, where the tick produces the expiry,
which waits to be taken (log 4), in every game and line state, and nothing else changes; an expiry asks again with the
timer restarted the first two times and faults the device the third, handing what it owed to the trough and, in IN_PLAY
with no ball in play and no eject pending in a READY device, ending the ball; with no expiry produced, or its timer
stopped or restarted since, there is none to take (R106, R117, R118, R119, R171; log 4). -/
def Obligations.EjectTimersTickAndExpire : Prop :=
  ∀ s : State,
    (∃ t, exec .bdtTick s = .next t ∧ { t with bdt := s.bdt } = s ∧
      t.bdt.ballsInPlay = s.bdt.ballsInPlay ∧ t.bdt.tracking = s.bdt.tracking ∧
      ∀ d : Fin 6, t.bdt.devices[d] =
        { s.bdt.devices[d] with
          ejectTimer := (s.bdt.devices[d]).ejectTimer.map fun n => if 1 < n then n - 1 else n } ∧
        (t.bdt.expiring[d] = true ↔ ∃ n, (s.bdt.devices[d]).ejectTimer = some n ∧ n ≤ 1)) ∧
    ∀ (d : Fin 6) (r : Device), s.bdt.devices[d] = r →
      (s.bdt.expiring[d] = false ∨ r.ejectTimer = none ∨ (∃ n, r.ejectTimer = some n ∧ 1 < n) →
        exec (.ejectExpiry d) s = .next s) ∧
      ∀ left : Nat, s.bdt.expiring[d] = true → r.ejectTimer = some left → left ≤ 1 →
      (r.retries < 2 → exec (.ejectExpiry d) s = .next
        ((s.withDevice d { r with retries := r.retries + 1, ejectTimer := some r.timeout }).raise (.ejectReq d))) ∧
      (2 ≤ r.retries → ∃ t, exec (.ejectExpiry d) s = .next t ∧
        t.hasNotice (.ejectFailed d) = true ∧ t.bdt.ballsInPlay = s.bdt.ballsInPlay ∧
        (d = 0 → t.bdt.devices[d] = { r with faulted := true, retries := 3, ejectTimer := none, ejectPending := 0 }) ∧
        (d ≠ 0 → ∀ trough : Device, s.bdt.devices[(0 : Fin 6)] = trough →
          t.bdt.devices[d] = { r with
            faulted := true, retries := 3, ejectTimer := none, ejectPending := 0,
            replaced := trough.adds r.ejectPending } ∧
          (t.bdt.devices[(0 : Fin 6)]).ejectPending = trough.ejectPending + trough.adds r.ejectPending) ∧
        (∀ c : Fin 6, c ≠ d → c ≠ 0 → t.bdt.devices[c] = s.bdt.devices[c]) ∧
        (s.gpc.game ≠ .inPlay → t.gpc = s.gpc ∧ t.mst = s.mst ∧ t.ptb = s.ptb) ∧
        (∀ (n : Nat) (q : Player), s.gpc.game = .inPlay → s.gpc.current = some (n + 1) → s.ptb.players[n]? = some q →
          ModeLaw s → TimerLaw s → s.bdt.ballsInPlay = 0 →
          (∀ c : Fin 6, c ≠ d → (s.bdt.devices[c]).faulted = false → (s.bdt.devices[c]).ejectPending = 0) →
          d = 0 ∨ (s.bdt.devices[(0 : Fin 6)]).adds r.ejectPending = 0 → BallEnds s t n q) ∧
        (s.bdt.ballsInPlay ≠ 0 ∨
            (∃ c : Fin 6, c ≠ d ∧ (s.bdt.devices[c]).faulted = false ∧ (s.bdt.devices[c]).ejectPending ≠ 0) ∨
            (d ≠ 0 ∧ (s.bdt.devices[(0 : Fin 6)]).adds r.ejectPending ≠ 0) →
          t.gpc = s.gpc ∧ t.mst = s.mst ∧ t.ptb = s.ptb ∧ t.tmu = s.tmu ∧ t.lmc = s.lmc))

/-- CLEAR_DEVICE_FAULT makes a FAULTED device READY with retries 0 and replaced 0; a number above 5 or an absent
device is OUT_OF_RANGE, a READY device WRONG_STATE. RECOUNT sets the occupancies and balls_in_play it carries, trims
the oldest claims and the pending ejects to them, and makes the tracking state OK; one that does not fit the devices
or does not sum to installed is OUT_OF_RANGE and changes nothing; in IN_PLAY it ends multiball when the balls in play
and the pending ejects of READY devices come to 1 or less, and the ball when there are none (R96, R107, R120, R121,
R134, R140, R141, R171). That a device whose eject_pending the counts do not lower to 0 keeps its retries and its
timer, one at 0 pending too, is the model's choice, log 14. -/
def Obligations.RecountAndClearedFaults : Prop :=
  (∀ (s : State) (b : Byte), s.glk.waiting = false →
     (6 ≤ b.toNat → exec (.clearDeviceFault [b]) s = .next (s.answer 0x32 .outOfRange [])) ∧
     ∀ (d : Fin 6) (r : Device), d.val = b.toNat → s.bdt.devices[d] = r →
       (r.definition = none → exec (.clearDeviceFault [b]) s = .next (s.answer 0x32 .outOfRange [])) ∧
       (r.definition ≠ none → r.faulted = false →
         exec (.clearDeviceFault [b]) s = .next (s.answer 0x32 .wrongState [])) ∧
       (r.definition ≠ none → r.faulted = true → exec (.clearDeviceFault [b]) s =
         .next ((s.withDevice d { r with faulted := false, retries := 0, replaced := 0 }).answer 0x32 .ok []))) ∧
  ∀ (s : State) (p : List Byte), s.glk.waiting = false → p.length = 7 →
    ((∃ d : Fin 6, (s.bdt.devices[d]).capacity < byteAt p d.val) ∨ 12 < byteAt p 6 ∨
      byteAt p 0 + byteAt p 1 + byteAt p 2 + byteAt p 3 + byteAt p 4 + byteAt p 5 + byteAt p 6 ≠
        s.gpc.params.installed →
      exec (.recount p) s = .next (s.answer 0x31 .outOfRange [])) ∧
    ((∀ d : Fin 6, byteAt p d.val ≤ (s.bdt.devices[d]).capacity) → byteAt p 6 ≤ 12 →
      byteAt p 0 + byteAt p 1 + byteAt p 2 + byteAt p 3 + byteAt p 4 + byteAt p 5 + byteAt p 6 =
        s.gpc.params.installed →
      ∃ t, exec (.recount p) s = .next t ∧ t.bdt.ballsInPlay = byteAt p 6 ∧ t.bdt.tracking = .ok ∧
        t.glk.response = ⟨0x31, .ok, []⟩ ∧
        (∀ (d : Fin 6) (r : Device), s.bdt.devices[d] = r →
          (r.ejectPending ≤ byteAt p d.val → t.bdt.devices[d] = { r with occupancy := byteAt p d.val }) ∧
          (byteAt p d.val < r.ejectPending → 0 < byteAt p d.val → t.bdt.devices[d] =
            { r with occupancy := byteAt p d.val, ejectPending := byteAt p d.val }) ∧
          (byteAt p d.val < r.ejectPending → byteAt p d.val = 0 → t.bdt.devices[d] =
            { r with occupancy := 0, ejectPending := 0, retries := 0, ejectTimer := none }) ∧
          ((s.lmc.claims[d]).length ≤ byteAt p d.val → t.lmc.claims[d] = s.lmc.claims[d]) ∧
          (∀ gone kept, s.lmc.claims[d] = gone ++ kept → kept.length = byteAt p d.val → t.lmc.claims[d] = kept)) ∧
        (s.gpc.game ≠ .inPlay → t.gpc = s.gpc ∧ t.ptb = s.ptb ∧ t.mst = s.mst ∧ t.ntu = s.ntu) ∧
        (∀ (n : Nat) (q : Player), s.gpc.game = .inPlay → s.gpc.current = some (n + 1) → s.ptb.players[n]? = some q →
          ModeLaw s → TimerLaw s → byteAt p 6 = 0 →
          (∀ c : Fin 6, (s.bdt.devices[c]).faulted = false → min (s.bdt.devices[c]).ejectPending (byteAt p c.val) = 0) →
          BallEnds s t n q) ∧
        (s.gpc.game = .inPlay → byteAt p 6 ≠ 0 ∨
            (∃ c : Fin 6, (s.bdt.devices[c]).faulted = false ∧ min (s.bdt.devices[c]).ejectPending (byteAt p c.val) ≠ 0) →
          t.gpc = s.gpc ∧ t.ptb = s.ptb ∧
          (∀ m : Nat, m = byteAt p 6 + ((List.finRange 6).map fun c =>
              if (s.bdt.devices[c]).faulted then 0 else min (s.bdt.devices[c]).ejectPending (byteAt p c.val)).sum →
            (s.lmc.multiball = true → m ≤ 1 → t.lmc.multiball = false ∧ t.hasNotice .multiballEnd = true ∧
              (ModeLaw s → TimerLaw s → MultiballEnds s t)) ∧
            (s.lmc.multiball = false ∨ 1 < m →
              t.lmc.multiball = s.lmc.multiball ∧ t.mst = s.mst ∧ t.tmu = s.tmu ∧ t.ntu = s.ntu))))

/-- DEFINE_DEVICE in IDLE replaces the definition, leaves the device empty and idle with no claims, makes OK
UNCOUNTED, and resets to IGNORED exactly the rules that no longer agree with the device table; capacity 0 makes
any device absent, and a definition that fails a check is OUT_OF_RANGE (R38, R103, R104, R105). -/
def Obligations.DefineDeviceReplacesTheDevice : Prop :=
  ∀ (s : State) (p : List Byte), s.glk.waiting = false → p.length = 9 → s.gpc.game = .idle →
    (6 ≤ byteAt p 0 → exec (.defineDevice p) s = .next (s.answer 0x63 .outOfRange [])) ∧
    ∀ d : Fin 6, d.val = byteAt p 0 →
      (∀ x : Option DeviceDef,
        (byteAt p 1 = 0 ∧ x = none) ∨
        (∃ (kind : DeviceKind) (entry exit : Fin 128), x = some ⟨kind, byteAt p 1, entry, exit, numberAt p 5 2⟩ ∧
          1 ≤ byteAt p 1 ∧ byteAt p 1 ≤ (if d = 0 then 12 else 6) ∧
          entry.val = byteAt p 3 ∧ exit.val = byteAt p 4 ∧ entry ≠ exit ∧
          (∀ (c : Fin 6) (y : DeviceDef), c ≠ d → (s.bdt.devices[c]).definition = some y →
            y.entrySwitch ≠ entry ∧ y.exitSwitch ≠ entry ∧ y.entrySwitch ≠ exit ∧ y.exitSwitch ≠ exit) ∧
          10 ≤ numberAt p 5 2 ∧ numberAt p 5 2 ≤ 500 ∧
          ((d = 0 ∧ byteAt p 2 = 1 ∧ kind = .trough) ∨ (d ≠ 0 ∧ byteAt p 2 = 3 ∧ kind = .scoop) ∨
            (d ≠ 0 ∧ byteAt p 2 = 2 ∧ ∃ a b : Bool, byteAt p 7 = a.toNat ∧ byteAt p 8 = b.toNat ∧ kind = .lock a b))) →
        ∃ t, exec (.defineDevice p) s = .next t ∧ t.glk.response = ⟨0x63, .ok, []⟩ ∧
          t.bdt.devices[d] = ⟨x, 0, 0, 0, none, false, 0⟩ ∧ t.lmc.claims[d] = [] ∧
          (∀ c : Fin 6, c ≠ d → t.bdt.devices[c] = s.bdt.devices[c] ∧ t.lmc.claims[c] = s.lmc.claims[c]) ∧
          t.bdt.ballsInPlay = s.bdt.ballsInPlay ∧
          t.bdt.tracking = (if s.bdt.tracking = .ok then .uncounted else s.bdt.tracking) ∧
          (∀ sw : Fin 128,
            (t.ruleAgrees sw (s.evl.rules[sw]) = true → t.evl.rules[sw] = s.evl.rules[sw]) ∧
            (t.ruleAgrees sw (s.evl.rules[sw]) = false → t.evl.rules[sw] = .ignored)) ∧
          t.ptb = s.ptb ∧ t.mst = s.mst ∧ t.tmu = s.tmu ∧ t.gpc = s.gpc ∧ t.ntu = s.ntu ∧ t.swi = s.swi) ∧
      (1 ≤ byteAt p 1 →
        (if d = 0 then 12 else 6) < byteAt p 1 ∨ (d = 0 ∧ byteAt p 2 ≠ 1) ∨
        (d ≠ 0 ∧ byteAt p 2 ≠ 2 ∧ byteAt p 2 ≠ 3) ∨ 128 ≤ byteAt p 3 ∨ 128 ≤ byteAt p 4 ∨ byteAt p 3 = byteAt p 4 ∨
        (∃ (c : Fin 6) (y : DeviceDef), c ≠ d ∧ (s.bdt.devices[c]).definition = some y ∧
          (y.entrySwitch.val = byteAt p 3 ∨ y.exitSwitch.val = byteAt p 3 ∨ y.entrySwitch.val = byteAt p 4 ∨
            y.exitSwitch.val = byteAt p 4)) ∨
        numberAt p 5 2 < 10 ∨ 500 < numberAt p 5 2 ∨
        (byteAt p 2 = 2 ∧ (2 ≤ byteAt p 7 ∨ 2 ≤ byteAt p 8)) →
        exec (.defineDevice p) s = .next (s.answer 0x63 .outOfRange []))

/-! ### Locks and multiball -/

/-- LIGHT_LOCK lights a lock for the current player under the conditions of R128 and answers the counts, or answers
CLAMPED with nothing lit; it is WRONG_STATE in IDLE and GAME_OVER. ADD_BALL asks the trough for a ball during
multiball; it is WRONG_STATE while multiball is OFF and NO_BALL when the trough is FAULTED or has none to give
(R128, R129, R139). -/
def Obligations.LockLightingAndAddBall : Prop :=
  ∀ s : State, s.glk.waiting = false →
    (s.gpc.game = .idle ∨ s.gpc.game = .gameOver →
      exec (.lightLock []) s = .next (s.answer 0x33 .wrongState [])) ∧
    (∀ (n : Nat) (r : Player), s.gpc.game ≠ .idle → s.gpc.game ≠ .gameOver → s.gpc.current = some (n + 1) →
      s.ptb.players[n]? = some r →
      (s.lmc.multiball = false → r.locksLit < s.lmc.params.litMax → r.locksLit + r.locksMade < s.lmc.params.mbLocks →
        exec (.lightLock []) s =
          .next (((s.withPlayer n { r with locksLit := r.locksLit + 1 }).raise .lockLit).answer 0x33 .ok
            [small (r.locksLit + 1), small r.locksMade])) ∧
      (s.lmc.multiball = true ∨ s.lmc.params.litMax ≤ r.locksLit ∨ s.lmc.params.mbLocks ≤ r.locksLit + r.locksMade →
        exec (.lightLock []) s = .next (s.answer 0x33 .clamped [small r.locksLit, small r.locksMade]))) ∧
    (s.lmc.multiball = false → exec (.addBall []) s = .next (s.answer 0x35 .wrongState [])) ∧
    (∀ r : Device, s.lmc.multiball = true → s.bdt.devices[(0 : Fin 6)] = r →
      (r.faulted = true ∨ r.occupancy ≤ r.ejectPending → exec (.addBall []) s = .next (s.answer 0x35 .noBall [])) ∧
      (r.faulted = false → r.ejectPending < r.occupancy → r.definition ≠ none →
        exec (.addBall []) s = .next ((s.requestEject 0 1).1.answer 0x35 .ok []) ∧ (s.requestEject 0 1).2 = 1))

/-- START_MULTIBALL in IN_PLAY on an untilted ball with multiball OFF starts multiball for the current player and
answers the balls obtained and the W wanted; otherwise it is WRONG_STATE. The W balls are asked, in this order, of the
player's own claims, of the stock of READY LOCKs that no claim and no pending eject covers, of the other players'
claims, oldest first, each by device number and within what the device can release, and of the trough. Each claim
taken is removed, and so are the player's own that stay; another player loses a made lock for each claim taken from
a STEALABLE LOCK, with LOCK_LOST raised, and none under SHARED. The player's locks are spent; J is the base; with a
save configured the BALL_SAVE timer is restarted, or the lowest FREE timer taken; MULTIBALL_START is raised (R116,
R135 to R138). -/
def Obligations.StartMultiballSourcesBalls : Prop :=
  ∀ s : State, s.glk.waiting = false →
    (s.gpc.game ≠ .inPlay ∨ s.gpc.tilted = true ∨ s.lmc.multiball = true →
      exec (.startMultiball []) s = .next (s.answer 0x34 .wrongState [])) ∧
    (∀ (n w own stock others last : Nat) (r : Player) (dev : Fin 6 → Device) (room fromOwn fromStock fromOthers
        total : Fin 6 → Nat) (theirs : Fin 6 → List Nat) (steals : Fin 6 → Bool),
      s.gpc.game = .inPlay → s.gpc.tilted = false → s.lmc.multiball = false →
      s.gpc.current = some (n + 1) → s.ptb.players[n]? = some r →
      w = s.lmc.params.mbBalls - s.bdt.ballsInPlay - ((List.finRange 6).map fun d => (dev d).ejectPending).sum →
      (∀ d : Fin 6, dev d = s.bdt.devices[d] ∧ theirs d = (s.lmc.claims[d]).filter (fun m => decide (m ≠ n + 1)) ∧
        (steals d = true ↔ ∃ x b, (dev d).definition = some x ∧ x.kind = .lock true b) ∧
        room d = (if d ≠ 0 ∧ (dev d).definition.isSome = true ∧ (dev d).faulted = false
          then (dev d).occupancy - (dev d).ejectPending else 0) ∧
        fromOwn d = givenInOrder w (fun c => min ((s.lmc.claims[c]).count (n + 1)) (room c)) d ∧
        fromStock d = givenInOrder (w - own)
          (fun c => if (dev c).isLock then room c - (s.lmc.claims[c]).length else 0) d ∧
        fromOthers d = givenInOrder (w - own - stock)
          (fun c => min (theirs c).length (room c - fromOwn c - fromStock c)) d ∧
        total d = (if d = 0 then last else fromOwn d + fromStock d + fromOthers d)) →
      own = ((List.finRange 6).map fromOwn).sum → stock = ((List.finRange 6).map fromStock).sum →
      others = ((List.finRange 6).map fromOthers).sum →
      last = (if (dev 0).definition.isSome = true ∧ (dev 0).faulted = false
        then min (w - own - stock - others) ((dev 0).occupancy - (dev 0).ejectPending) else 0) →
      ∃ t : State, exec (.startMultiball []) s =
          .next (t.answer 0x34 .ok [small (own + stock + others + last), small w]) ∧
        (∀ d : Fin 6, t.bdt.devices[d] = (if total d = 0 then dev d
            else if (dev d).ejectPending = 0
              then { dev d with ejectPending := total d, retries := 0, ejectTimer := some (dev d).timeout }
            else { dev d with ejectPending := (dev d).ejectPending + total d }) ∧
          (total d ≠ 0 → (dev d).ejectPending = 0 → t.hasNotice (.ejectReq d) = true) ∧
          t.lmc.claims[d] = (theirs d).drop (fromOthers d)) ∧
        { t.bdt with devices := s.bdt.devices } = s.bdt ∧ { t.ptb with players := s.ptb.players } = s.ptb ∧
        t.ptb.players[n]? = some { r with locksMade := 0, locksLit := 0 } ∧
        (∀ m q, m ≠ n → s.ptb.players[m]? = some q → t.ptb.players[m]? = some { q with
          locksMade := q.locksMade - ((List.finRange 6).map fun d =>
            if steals d then ((theirs d).take (fromOthers d)).count (m + 1) else 0).sum }) ∧
        t.hasNotice .lockLost = (s.hasNotice .lockLost || (List.finRange 6).any fun d =>
          steals d && decide (fromOthers d ≠ 0)) ∧
        t.lmc.multiball = true ∧ t.lmc.params = s.lmc.params ∧
        t.lmc.jackpot = s.lmc.params.jackpotBase.mantissa * 10 ^ s.lmc.params.jackpotBase.scale ∧
        (s.lmc.params.mbSaveTicks = 0 → t.tmu = s.tmu) ∧
        (∀ k : Nat, 0 < k → k = s.lmc.params.mbSaveTicks →
          (∀ (u : Fin 16) (q : Timer), s.tmu.timers[u] = some q → q.binding = .ballSave →
            (∀ (v : Fin 16) (f : Timer), v ≠ u → s.tmu.timers[v] = some f → f.binding ≠ .ballSave) →
            t.tmu = (s.withTimer u (some { q with
              period := k, staged := none, remaining := k, state := .running })).tmu) ∧
          ((∀ (v : Fin 16) (f : Timer), s.tmu.timers[v] = some f → f.binding ≠ .ballSave) →
            (∀ u : Fin 16, s.tmu.timers[u] = none → (∀ v, v < u → s.tmu.timers[v] ≠ none) →
              t.tmu = (s.withTimer u (some ⟨.running, .oneShot, k, none, k, true, .ballSave⟩)).tmu) ∧
            ((∀ v : Fin 16, s.tmu.timers[v] ≠ none) → t.tmu = s.tmu))) ∧
        t.hasNotice .multiballStart = true ∧ t.gpc = s.gpc ∧ t.mst = s.mst ∧ t.swi = s.swi)

/-! ### Timers and contexts -/

/-- At TMU's tick the count of every RUNNING timer that is not held still is lowered by 1, but at its last count, where
the tick produces the expiry, which waits to be taken (log 3), and nothing else changes. An expiry takes the count to
0: that of a USER timer raises USER_TIMER and leaves it IDLE at 0, or reloads a PERIODIC one, by the staged period when
there is one; a BALL_SAVE or PF_MULT timer becomes FREE and pf_mult 1 with the latter. A timer to which ticks were added
since the tick is lowered by 1 and goes on; a timer whose expiry no tick has produced has none to take (R6, R115, R146
to R150, R152; the waiting by log 3). -/
def Obligations.TimersTickAndExpire : Prop :=
  ∀ s : State,
    (∃ t, exec .tmuTick s = .next t ∧ { t with tmu := s.tmu } = s ∧ ∀ u : Fin 16,
      (s.tmu.timers[u] = none → t.tmu.timers[u] = none ∧ t.tmu.expiring[u] = s.tmu.expiring[u]) ∧
      ∀ r : Timer, s.tmu.timers[u] = some r →
        (r.state = .running →
          r.pauses = false ∨ (s.lineState ≠ .held ∧ s.gpc.game = .inPlay ∧ s.bdt.ballsInPlay ≠ 0) →
          (1 < r.remaining → t.tmu.timers[u] = some { r with remaining := r.remaining - 1 } ∧
            t.tmu.expiring[u] = s.tmu.expiring[u]) ∧
          (r.remaining ≤ 1 → t.tmu.timers[u] = some r ∧ t.tmu.expiring[u] = true)) ∧
        (r.state ≠ .running ∨
            (r.pauses = true ∧ (s.lineState = .held ∨ s.gpc.game ≠ .inPlay ∨ s.bdt.ballsInPlay = 0)) →
          t.tmu.timers[u] = some r ∧ t.tmu.expiring[u] = s.tmu.expiring[u])) ∧
    ∀ u : Fin 16,
      (s.tmu.expiring[u] = false ∨ (∀ r : Timer, s.tmu.timers[u] = some r → r.state ≠ .running) →
        exec (.timerExpiry u) s = .next s) ∧
      ∀ r : Timer, s.tmu.timers[u] = some r → r.state = .running → s.tmu.expiring[u] = true →
        (1 < r.remaining →
          exec (.timerExpiry u) s = .next (s.withTimer u (some { r with remaining := r.remaining - 1 }))) ∧
        (r.remaining ≤ 1 →
          (r.binding = .user → r.kind ≠ .periodic → exec (.timerExpiry u) s =
            .next ((s.withTimer u (some { r with state := .idle, remaining := 0 })).raise (.userTimer u))) ∧
          (r.binding = .user → r.kind = .periodic → exec (.timerExpiry u) s =
            .next ((s.withTimer u (some { r with
              period := r.staged.getD r.period, staged := none, remaining := r.staged.getD r.period })).raise
                (.userTimer u))) ∧
          (r.binding = .ballSave → exec (.timerExpiry u) s = .next (s.withTimer u none)) ∧
          (∀ (n : Nat) (q : Player), r.binding = .pfMult → s.gpc.current = some (n + 1) → s.ptb.players[n]? = some q →
            exec (.timerExpiry u) s = .next ((s.withTimer u none).withPlayer n { q with pfMult := 1 })))

/-- ALLOC_TIMER gives the lowest FREE timer as an IDLE USER timer with its count at the period, and NO_TIMER when none
is FREE; START_TIMER starts an IDLE timer and restarts a RUNNING RETRIGGER one from the staged period or the period;
STOP_TIMER leaves the count as it stands; FREE_TIMER frees; STAGE_PERIOD stages, 0 being OUT_OF_RANGE, and leaves an
expiry that waits as it stands; a bound or FREE timer is WRONG_STATE, a number above 15 OUT_OF_RANGE (R152, R155 to
R159, R203). That a pause byte of ALLOC_TIMER above 1 is OUT_OF_RANGE is the model's choice, log 15; that a start, a
stop and a release take a waiting expiry away, log 3 with R156 to R158. -/
def Obligations.UserTimersAreRun : Prop :=
  (∀ (s : State) (k lo hi pause : Byte), s.glk.waiting = false →
    (2 < k.toNat ∨ lo.toNat + 256 * hi.toNat = 0 ∨ 1 < pause.toNat →
      exec (.allocTimer [k, lo, hi, pause]) s = .next (s.answer 0x40 .outOfRange [])) ∧
    (∀ kind : TimerKind, kind.code = k → lo.toNat + 256 * hi.toNat ≠ 0 → pause.toNat ≤ 1 →
      ((∀ u : Fin 16, s.tmu.timers[u] ≠ none) →
        exec (.allocTimer [k, lo, hi, pause]) s = .next (s.answer 0x40 .noTimer [])) ∧
      (∀ u : Fin 16, s.tmu.timers[u] = none → (∀ v, v < u → s.tmu.timers[v] ≠ none) →
        exec (.allocTimer [k, lo, hi, pause]) s = .next ((s.withTimer u (some ⟨.idle, kind,
          lo.toNat + 256 * hi.toNat, none, lo.toNat + 256 * hi.toNat, decide (pause.toNat = 1), .user⟩)).answer 0x40 .ok
            [small u.val])))) ∧
  ∀ (s : State) (b lo hi : Byte), s.glk.waiting = false →
    (16 ≤ b.toNat →
      exec (.startTimer [b]) s = .next (s.answer 0x41 .outOfRange []) ∧
      exec (.stopTimer [b]) s = .next (s.answer 0x42 .outOfRange []) ∧
      exec (.freeTimer [b]) s = .next (s.answer 0x43 .outOfRange []) ∧
      exec (.stagePeriod [b, lo, hi]) s = .next (s.answer 0x44 .outOfRange [])) ∧
    ∀ u : Fin 16, u.val = b.toNat →
      ((∀ r : Timer, s.tmu.timers[u] = some r → r.binding ≠ .user) →
        exec (.startTimer [b]) s = .next (s.answer 0x41 .wrongState []) ∧
        exec (.stopTimer [b]) s = .next (s.answer 0x42 .wrongState []) ∧
        exec (.freeTimer [b]) s = .next (s.answer 0x43 .wrongState []) ∧
        exec (.stagePeriod [b, lo, hi]) s = .next (s.answer 0x44 .wrongState [])) ∧
      ∀ r : Timer, s.tmu.timers[u] = some r → r.binding = .user →
        (r.state = .idle ∨ r.kind = .retrigger → exec (.startTimer [b]) s = .next ((s.withTimer u (some { r with
          state := .running, period := r.staged.getD r.period, staged := none,
          remaining := r.staged.getD r.period })).answer 0x41 .ok (numberBytes 2 (r.staged.getD r.period)))) ∧
        (r.state ≠ .idle → r.kind ≠ .retrigger →
          exec (.startTimer [b]) s = .next (s.answer 0x41 .wrongState [])) ∧
        exec (.stopTimer [b]) s =
          .next ((s.withTimer u (some { r with state := .idle })).answer 0x42 .ok (numberBytes 2 r.remaining)) ∧
        exec (.freeTimer [b]) s = .next ((s.withTimer u none).answer 0x43 .ok []) ∧
        (lo.toNat + 256 * hi.toNat = 0 →
          exec (.stagePeriod [b, lo, hi]) s = .next (s.answer 0x44 .outOfRange [])) ∧
        (lo.toNat + 256 * hi.toNat ≠ 0 → exec (.stagePeriod [b, lo, hi]) s =
          .next (State.answer { s with tmu := { s.tmu with
            timers := s.tmu.timers.set u.val (some { r with staged := some (lo.toNat + 256 * hi.toNat) }) u.isLt } }
            0x44 .ok []))

/-- The end of a standing context releases its timer, leaves its list, records the reason and the remaining ticks,
joins the tail of the ended list and raises MODE_ENDED; where a return is made, from RUNNING and a group other than
0, the PAUSED context of its owner and group with the highest priority, the first in the pause order among equals,
enters RUNNING with its timer thawed (R77, R80, R91). -/
def Obligations.ContextsEnd : Prop :=
  ∀ (s t : State) (x : Fin 12) (c : Context) (reason : EndReason) (returns : Bool),
    ListLaw s → s.mst.slots[x] = some c → (∀ why, c.phase ≠ .ended why) → t = s.endContext x reason returns →
      t.mst.slots[x] = some { c with phase := .ended reason, timer := none, stored := s.remainingOf c } ∧
      t.mst.ended = s.mst.ended ++ [x] ∧ x ∉ t.mst.stack ∧ x ∉ t.mst.pauseOrder ∧
      t.hasNotice (.modeEnded x) = true ∧ (∀ u : Fin 16, c.timer = some u → t.tmu.timers[u] = none) ∧
      t.ptb = s.ptb ∧ t.bdt = s.bdt ∧ t.lmc = s.lmc ∧ t.gpc = s.gpc ∧ t.mst.templates = s.mst.templates ∧
      (returns = false ∨ c.phase ≠ .running ∨ s.slotGroup x = 0 ∨
          (∀ (y : Fin 12) (d : Context), s.mst.slots[y] = some d → d.phase = .paused → d.owner = c.owner →
            s.slotGroup y ≠ s.slotGroup x) →
        t.mst.stack = s.mst.stack.erase x ∧ t.mst.pauseOrder = s.mst.pauseOrder.erase x ∧
        (∀ y : Fin 12, y ≠ x → t.mst.slots[y] = s.mst.slots[y]) ∧
        ∀ u : Fin 16, c.timer ≠ some u → t.tmu.timers[u] = s.tmu.timers[u]) ∧
      (∀ (y : Fin 12) (d : Context), returns = true → c.phase = .running → s.slotGroup x ≠ 0 →
        s.mst.slots[y] = some d → d.phase = .paused → d.owner = c.owner → s.slotGroup y = s.slotGroup x →
        (∀ (z : Fin 12) (f : Context), z ≠ y → s.mst.slots[z] = some f → f.phase = .paused → f.owner = c.owner →
          s.slotGroup z = s.slotGroup x → s.slotPriority z < s.slotPriority y ∨
            (s.slotPriority z = s.slotPriority y ∧ ∃ a b, s.mst.pauseOrder = a ++ y :: b ∧ z ∈ b)) →
        t.mst.slots[y] = some { d with phase := .running } ∧ y ∈ t.mst.stack ∧
        t.mst.pauseOrder = s.mst.pauseOrder.erase y ∧
        (∀ z : Fin 12, z ≠ x → z ≠ y → t.mst.slots[z] = s.mst.slots[z]) ∧
        ∀ (u : Fin 16) (r : Timer), d.timer = some u → c.timer ≠ some u → s.tmu.timers[u] = some r →
          r.state = .frozen → t.tmu.timers[u] = some { r with state := .running })

/-- STOP_MODE ends a standing context of any player ABORTED, with the return of R91, and refuses a FREE or ENDED slot.
The expiry of a context's timer ends it TIMED_OUT, its timer FREE first, and starts its next template; that of a HURRY
context above its floor takes one decay step and reloads the period, and at the floor ends it, its remaining count 0; an
automatic start that fails raises MODE_START_FAILED (R69, R77, R86, R92, R93, R99, R149). -/
def Obligations.ContextsStopAndTimeOut : Prop :=
  ∀ s : State,
    (∀ b : Byte, s.glk.waiting = false →
      (12 ≤ b.toNat → exec (.stopMode [b]) s = .next (s.answer 0x21 .outOfRange [])) ∧
      ∀ x : Fin 12, x.val = b.toNat →
        (s.mst.slots[x] = none ∨ (∃ c why, s.mst.slots[x] = some c ∧ c.phase = .ended why) →
          exec (.stopMode [b]) s = .next (s.answer 0x21 .wrongState [])) ∧
        (∀ c : Context, s.mst.slots[x] = some c → (∀ why, c.phase ≠ .ended why) →
          exec (.stopMode [b]) s = .next ((s.endContext x .aborted true).answer 0x21 .ok []))) ∧
    (∀ (u : Fin 16) (x : Fin 12) (r : Timer) (c : Context) (tm : Template), s.tmu.timers[u] = some r →
      r.state = .running → s.tmu.expiring[u] = true → r.remaining ≤ 1 → s.mst.slots[x] = some c → s.mst.templates[c.template] = some tm →
      (r.binding = .context x → exec (.timerExpiry u) s =
        .next (((s.withTimer u none).endContext x .timedOut true).startNext tm.nextOnTimeout)) ∧
      (∀ f : HurryFields, r.binding = .hurry x → tm.kind = .hurry f →
        (f.floor.mantissa * 10 ^ f.floor.scale < c.value → exec (.timerExpiry u) s =
          .next ((s.withSlot x (some { c with
              value := decayStep c.value (f.floor.mantissa * 10 ^ f.floor.scale) f.decay f.unitExponent })).withTimer
            u (some { r with
              period := r.staged.getD r.period, staged := none, remaining := r.staged.getD r.period }))) ∧
        (c.value ≤ f.floor.mantissa * 10 ^ f.floor.scale → exec (.timerExpiry u) s =
          .next (((s.withTimer u (some { r with remaining := 0 })).endContext x .timedOut true).startNext
            tm.nextOnTimeout)))) ∧
    s.startNext none = s ∧
    ∀ (i : Fin 32) (t : State) (o : StartOutcome), s.startMode i = (t, o) →
      s.startNext (some i) = (match o with
        | .failed _ => t.raise .modeStartFailed
        | .started _ | .stood _ => t)

/-- START_MODE is refused with nothing changed by the first condition that holds: number above 31 OUT_OF_RANGE;
undefined UNDEFINED; tilted ball, game neither STARTING nor IN_PLAY, or mb_only with multiball OFF WRONG_STATE. A
standing context of the player and template is refreshed or left by on_restart; a PARKED one resumes with its stored
count, RUNNING or PAUSED by its exclusion group, or ends NO_TIMER (R81 to R84, R86, R98). -/
def Obligations.StartModeMeetsAStandingContext : Prop :=
  ∀ (s : State) (b : Byte), s.glk.waiting = false →
    (32 ≤ b.toNat → exec (.startMode [b]) s = .next (s.answer 0x20 .outOfRange [])) ∧
    ∀ i : Fin 32, i.val = b.toNat →
      (s.mst.templates[i] = none → exec (.startMode [b]) s = .next (s.answer 0x20 .undefined [])) ∧
      ∀ tm : Template, s.mst.templates[i] = some tm →
        (s.gpc.tilted = true ∨ (s.gpc.game ≠ .starting ∧ s.gpc.game ≠ .inPlay) ∨
            (tm.mbOnly = true ∧ s.lmc.multiball = false) →
          exec (.startMode [b]) s = .next (s.answer 0x20 .wrongState [])) ∧
        (s.gpc.tilted = false → s.gpc.game = .starting ∨ s.gpc.game = .inPlay →
          tm.mbOnly = false ∨ s.lmc.multiball = true → ModeLaw s →
          ∀ (n : Nat) (x : Fin 12) (c : Context), s.gpc.current = some (n + 1) → s.mst.slots[x] = some c →
            c.template = i → c.owner = n + 1 →
            (c.phase = .running ∨ c.phase = .paused →
              (tm.refreshes = false ∨ c.timer = none →
                exec (.startMode [b]) s = .next (s.answer 0x20 .ok [small x.val])) ∧
              (∀ (u : Fin 16) (r : Timer), tm.refreshes = true → c.timer = some u → s.tmu.timers[u] = some r →
                exec (.startMode [b]) s = .next ((s.withTimer u (some { r with
                  period := r.staged.getD r.period, staged := none,
                  remaining := r.staged.getD r.period })).answer 0x20 .ok [small x.val]))) ∧
            (c.phase = .parked →
              (tm.period? ≠ none → (∀ u : Fin 16, s.tmu.timers[u] ≠ none) →
                exec (.startMode [b]) s = .next ((s.endContext x .noTimer false).answer 0x20 .noTimer [])) ∧
              (tm.period? = none ∨ (∃ u : Fin 16, s.tmu.timers[u] = none) → c.timer = none →
                ∃ (t : State) (c' : Context), exec (.startMode [b]) s = .next t ∧
                  t.glk.response = ⟨0x20, .ok, [small x.val]⟩ ∧ t.hasNotice .modeStarted = true ∧
                  t.mst.slots[x] = some c' ∧ c' = { c with phase := c'.phase, timer := c'.timer } ∧
                  (∀ y : Fin 12, s.isRunning y = true → (s.slot? y).map Context.owner = some (n + 1) →
                    tm.exclusionGroup ≠ 0 → s.slotGroup y = tm.exclusionGroup →
                    (tm.priority ≤ s.slotPriority y → c'.phase = .paused ∧ t.phase? y = some .running ∧
                      t.mst.pauseOrder = s.mst.pauseOrder ++ [x]) ∧
                    (s.slotPriority y < tm.priority → c'.phase = .running ∧ t.phase? y = some .paused ∧
                      t.mst.pauseOrder = s.mst.pauseOrder ++ [y])) ∧
                  ((∀ y : Fin 12, s.isRunning y = true → (s.slot? y).map Context.owner = some (n + 1) →
                      tm.exclusionGroup = 0 ∨ s.slotGroup y ≠ tm.exclusionGroup) →
                    c'.phase = .running ∧ t.mst.pauseOrder = s.mst.pauseOrder) ∧
                  (tm.period? = none → c'.timer = none) ∧
                  (∀ u : Fin 16, tm.period? ≠ none → s.tmu.timers[u] = none → (∀ v, v < u → s.tmu.timers[v] ≠ none) →
                    c'.timer = some u ∧ ∃ k : Timer, t.tmu.timers[u] = some k ∧ some k.period = tm.period? ∧
                      k.remaining = c.stored ∧ k.binding = tm.binding x ∧
                      k.state = (if c'.phase = .running then .running else .frozen)) ∧
                  t.ptb = s.ptb ∧ t.bdt = s.bdt ∧ t.lmc = s.lmc ∧ t.gpc = s.gpc)))

/-- START_MODE with no standing context takes the lowest FREE slot, else the oldest ended one (else NO_SLOT), the
lowest FREE timer where the template needs one (else NO_TIMER), and is BLOCKED by a RUNNING context of its group at or
above its priority; a failed start changes nothing. A started context is set up from its template and inserted before
the first stack entry at or below its priority; a lower one of its group is PAUSED, its timer FROZEN; MODE_STARTED is
raised and the slot answered (R79, R81, R82, R85, R86, R98). -/
def Obligations.StartModeSetsUpAContext : Prop :=
  ∀ (s : State) (b : Byte) (i : Fin 32) (tm : Template) (n : Nat), s.glk.waiting = false → i.val = b.toNat →
    s.mst.templates[i] = some tm → s.gpc.tilted = false → s.gpc.game = .starting ∨ s.gpc.game = .inPlay →
    tm.mbOnly = false ∨ s.lmc.multiball = true → ModeLaw s → TimerLaw s → s.gpc.current = some (n + 1) →
    (∀ y : Fin 12, s.standingKey? y ≠ some (n + 1, i)) →
    ((∀ y : Fin 12, s.isStanding y = true) → exec (.startMode [b]) s = .next (s.answer 0x20 .noSlot [])) ∧
    ∀ x : Fin 12,
      ((s.mst.slots[x] = none ∧ ∀ y, y < x → s.mst.slots[y] ≠ none) ∨
        ((∀ y : Fin 12, s.mst.slots[y] ≠ none) ∧ s.mst.ended.head? = some x)) →
      (tm.period? ≠ none → (∀ u : Fin 16, s.tmu.timers[u] ≠ none) →
        exec (.startMode [b]) s = .next (s.answer 0x20 .noTimer [])) ∧
      (tm.period? = none ∨ (∃ u : Fin 16, s.tmu.timers[u] = none) →
        (∀ y : Fin 12, s.runningKey? y = some (n + 1, tm.exclusionGroup) → tm.priority ≤ s.slotPriority y →
          exec (.startMode [b]) s = .next (s.answer 0x20 .blocked [])) ∧
        ((∀ y : Fin 12, s.runningKey? y = some (n + 1, tm.exclusionGroup) → s.slotPriority y < tm.priority) →
          ∃ (t : State) (c : Context) (above below : List (Fin 12)), exec (.startMode [b]) s = .next t ∧
            t.glk.response = ⟨0x20, .ok, [small x.val]⟩ ∧ t.hasNotice .modeStarted = true ∧
            t.mst.slots[x] = some c ∧ c.phase = .running ∧ c.template = i ∧ c.owner = n + 1 ∧ c.hits = 0 ∧
            c.value = tm.value.mantissa * 10 ^ tm.value.scale ∧ c.multiplier = tm.multiplier ∧ c.total = 0 ∧
            t.mst.ended = s.mst.ended.erase x ∧ t.mst.stack = above ++ x :: below ∧
            (∀ y ∈ above, tm.priority < s.slotPriority y) ∧ (∀ y ∈ below, s.slotPriority y ≤ tm.priority) ∧
            (tm.period? = none → c.timer = none ∧ ∀ u : Fin 16, s.tmu.timers[u] = none → t.tmu.timers[u] = none) ∧
            (∀ (u : Fin 16) (k : Nat), tm.period? = some k → s.tmu.timers[u] = none →
              (∀ v, v < u → s.tmu.timers[v] ≠ none) → c.timer = some u ∧
              t.tmu.timers[u] = some ⟨.running, tm.timerKind, k, none, k, true, tm.binding x⟩) ∧
            (∀ (y : Fin 12) (d : Context), s.runningKey? y = some (n + 1, tm.exclusionGroup) →
              s.mst.slots[y] = some d → t.mst.slots[y] = some { d with phase := .paused } ∧
              t.mst.pauseOrder = s.mst.pauseOrder ++ [y] ∧ above ++ below = s.mst.stack.erase y ∧
              ∀ (u : Fin 16) (r : Timer), d.timer = some u → s.tmu.timers[u] = some r →
                t.tmu.timers[u] = some { r with state := .frozen }) ∧
            ((∀ y : Fin 12, s.runningKey? y ≠ some (n + 1, tm.exclusionGroup)) →
              above ++ below = s.mst.stack ∧ t.mst.pauseOrder = s.mst.pauseOrder) ∧
            (∀ y : Fin 12, y ≠ x → s.runningKey? y ≠ some (n + 1, tm.exclusionGroup) →
              t.mst.slots[y] = s.mst.slots[y]) ∧
            t.ptb = s.ptb ∧ t.bdt = s.bdt ∧ t.lmc = s.lmc ∧ t.gpc = s.gpc))

/-- RETIRE_MODE frees an ENDED slot, which leaves the ended list, and is NOT_ENDED for any other (R102). ADJUST_MODE on
a standing context applies the parts its select set names: ticks added up to 65,535, a value (for HURRY held between
the floor and the start value), a multiplier held to 1..10, a decay period staged in the timer; it is CLAMPED when a
part was held and answers the remaining ticks, value and multiplier; the checks are made in the order of R100 (R100,
R154). That an expiry of the timer that waits to be taken stands is the model's choice, log 3. -/
def Obligations.ModesAreRetiredAndAdjusted : Prop :=
  (∀ (s : State) (b : Byte), s.glk.waiting = false →
    (12 ≤ b.toNat → exec (.retireMode [b]) s = .next (s.answer 0x23 .outOfRange [])) ∧
    ∀ x : Fin 12, x.val = b.toNat →
      (s.mst.slots[x] = none ∨ s.isStanding x = true →
        exec (.retireMode [b]) s = .next (s.answer 0x23 .notEnded [])) ∧
      (∀ (c : Context) (why : EndReason), s.mst.slots[x] = some c → c.phase = .ended why →
        exec (.retireMode [b]) s = .next (State.answer { s with mst := { s.mst with
          slots := s.mst.slots.set x.val none x.isLt, ended := s.mst.ended.erase x } } 0x23 .ok []))) ∧
  ∀ (s : State) (p : List Byte) (sel : Nat), s.glk.waiting = false → p.length = 10 → sel = byteAt p 1 →
    (12 ≤ byteAt p 0 ∨ 16 ≤ sel ∨ (sel.testBit 1 = true ∧ (9999 < numberAt p 4 2 ∨ 7 < byteAt p 6)) →
      exec (.adjustMode p) s = .next (s.answer 0x24 .outOfRange [])) ∧
    (sel < 16 → sel.testBit 1 = false ∨ (numberAt p 4 2 ≤ 9999 ∧ byteAt p 6 ≤ 7) →
      ∀ x : Fin 12, x.val = byteAt p 0 →
        (s.mst.slots[x] = none ∨ (∃ c why, s.mst.slots[x] = some c ∧ c.phase = .ended why) →
          exec (.adjustMode p) s = .next (s.answer 0x24 .wrongState [])) ∧
        ∀ (c : Context) (tm : Template), s.mst.slots[x] = some c → (∀ why, c.phase ≠ .ended why) →
          s.mst.templates[c.template] = some tm →
          ((sel.testBit 0 = true ∧ tm.period? = none) ∨
              (sel.testBit 3 = true ∧ (tm.isHurry = false ∨ numberAt p 8 2 = 0)) →
            exec (.adjustMode p) s = .next (s.answer 0x24 .outOfRange [])) ∧
          (sel.testBit 0 = false ∨ tm.period? ≠ none →
            sel.testBit 3 = false ∨ (tm.isHurry = true ∧ numberAt p 8 2 ≠ 0) →
            (sel.testBit 3 = true → c.phase = .parked →
              exec (.adjustMode p) s = .next (s.answer 0x24 .wrongState [])) ∧
            (sel.testBit 3 = false ∨ c.phase ≠ .parked →
              ∀ (worth value mult left : Nat), worth = numberAt p 4 2 * 10 ^ byteAt p 6 →
              (∀ f, sel.testBit 1 = true → tm.kind = .hurry f → value = max (f.floor.mantissa * 10 ^ f.floor.scale)
                (min worth (tm.value.mantissa * 10 ^ tm.value.scale))) →
              (sel.testBit 1 = true → tm.isHurry = false → value = worth) →
              (sel.testBit 1 = false → value = c.value) →
              mult = (if sel.testBit 2 then max 1 (min (byteAt p 7) 10) else c.multiplier) →
              (c.phase = .parked → left = c.stored) →
              (c.phase ≠ .parked → c.timer = none → left = 0 ∧ tm.period? = none) →
              (∀ u, c.phase ≠ .parked → c.timer = some u →
                ∃ r : Timer, s.tmu.timers[u] = some r ∧ left = r.remaining) →
              ∃ (t : State) (st : Status) (now : Nat),
                now = (if sel.testBit 0 then min (left + numberAt p 2 2) 65535 else left) ∧
                exec (.adjustMode p) s =
                  .next (t.answer 0x24 st (numberBytes 2 now ++ numberBytes 5 value ++ [small mult])) ∧
                st = (if (sel.testBit 0 = true ∧ 65535 < left + numberAt p 2 2) ∨
                    (sel.testBit 1 = true ∧ value ≠ worth) ∨ (sel.testBit 2 = true ∧ mult ≠ byteAt p 7)
                  then .clamped else .ok) ∧
                (∃ c' : Context, t.mst.slots[x] = some c' ∧ { c' with stored := c.stored } =
                  { c with value := value, multiplier := mult } ∧
                  c'.stored = (if c.phase = .parked then now else c.stored)) ∧
                (∀ y : Fin 12, y ≠ x → t.mst.slots[y] = s.mst.slots[y]) ∧
                (∀ (u : Fin 16) (r : Timer), c.phase ≠ .parked → c.timer = some u → s.tmu.timers[u] = some r →
                  t.tmu.timers[u] = some { r with
                    remaining := now, staged := if sel.testBit 3 then some (numberAt p 8 2) else r.staged }) ∧
                (∀ u : Fin 16, c.phase = .parked ∨ c.timer ≠ some u → t.tmu.timers[u] = s.tmu.timers[u]) ∧
                t.tmu.expiring = s.tmu.expiring ∧ t.mst.stack = s.mst.stack ∧ t.ptb = s.ptb ∧ t.bdt = s.bdt ∧ t.gpc = s.gpc ∧ t.ntu = s.ntu)))

/-! ### The course of a game -/

/-- A level held less than 20 µs is no change, and a change back to the line state held has no effect. Otherwise the
pins are recorded; TILTED in STARTING or IN_PLAY sets the tilted flag and releases the BALL_SAVE timer; SLAM in a
game in progress ends the game and empties the claim lists; in every other state nothing else happens
(R164, R165, R177, R178). -/
def Obligations.LineEventsAct : Prop :=
  ∀ (s u : State) (line : GameLine) (high : Bool) (ns : Nat),
    (ns < 20000 → exec (.lineEvent line high ns) s = .next s) ∧
    (20000 ≤ ns →
      (line = .playen → u = { s with gpc := { s.gpc with playenPin := high } }) →
      (line = .tilt → u = { s with gpc := { s.gpc with tiltPin := high } }) →
      (u.lineState = s.lineState → exec (.lineEvent line high ns) s = .next s) ∧
      (u.lineState ≠ s.lineState →
        (u.lineState = .normal ∨ u.lineState = .held ∨ s.gpc.game = .idle ∨ s.gpc.game = .gameOver ∨
            (u.lineState = .tilted ∧ (s.gpc.game = .ballOver ∨ s.gpc.tilted = true)) →
          exec (.lineEvent line high ns) s = .next u) ∧
        (u.lineState = .tilted → s.gpc.game = .starting ∨ s.gpc.game = .inPlay → s.gpc.tilted = false →
          ∃ t, exec (.lineEvent line high ns) s = .next t ∧
            { t with tmu := s.tmu } = { u with gpc := { u.gpc with tilted := true } } ∧
            ∀ (v : Fin 16),
              (∀ r : Timer, s.tmu.timers[v] = some r → r.binding = .ballSave → t.tmu.timers[v] = none) ∧
              ((∀ r : Timer, s.tmu.timers[v] = some r → r.binding ≠ .ballSave) →
                t.tmu.timers[v] = s.tmu.timers[v])) ∧
        (u.lineState = .slam → s.gpc.game ≠ .idle → s.gpc.game ≠ .gameOver → ∃ t,
          exec (.lineEvent line high ns) s = .next { t with lmc := { t.lmc with claims := .replicate 6 [] } } ∧
          t = u.endGame)))

/-- START_GAME is refused, in this order, outside IDLE and GAME_OVER or with the line SLAM (WRONG_STATE), with the
tracking state not OK or the trough FAULTED (FAULTED), with the trough absent or every ball it holds already asked for
(NO_BALL). Accepted it makes player 1's record, clears the common values, targets, slots, bound timers, claims,
multiball and J, sets the rotation to player 1 and ball 1, the tilted flag to whether the line is TILTED, the game to
STARTING, and asks the trough for one ball. ADD_PLAYER
during ball 1 of a game in progress appends a fresh record and answers the new count, up to max_players (LIMIT);
elsewhere it is WRONG_STATE (R1, R18, R97, R116, R134, R145, R162, R167, R168, R169). -/
def Obligations.StartGameAndAddPlayer : Prop :=
  (∀ (s : State) (r : Device), s.glk.waiting = false → s.bdt.devices[(0 : Fin 6)] = r →
     ((s.gpc.game ≠ .idle ∧ s.gpc.game ≠ .gameOver) ∨ s.lineState = .slam →
       exec (.startGame []) s = .next (s.answer 0x10 .wrongState [])) ∧
     (s.gpc.game = .idle ∨ s.gpc.game = .gameOver → s.lineState ≠ .slam →
       (s.bdt.tracking ≠ .ok ∨ r.faulted = true → exec (.startGame []) s = .next (s.answer 0x10 .faulted [])) ∧
       (s.bdt.tracking = .ok → r.faulted = false → r.definition = none ∨ r.occupancy ≤ r.ejectPending →
         exec (.startGame []) s = .next (s.answer 0x10 .noBall [])) ∧
       (∀ x : DeviceDef, s.bdt.tracking = .ok → r.faulted = false → r.definition = some x →
         r.ejectPending < r.occupancy → ∃ t, exec (.startGame []) s = .next t ∧
         t.glk.response = ⟨0x10, .ok, []⟩ ∧
         (∃ q : Player, t.ptb.players = [q] ∧ q.score = 0 ∧ q.scoreLimitReported = false ∧ q.bonus = 0 ∧
           q.bonusMult = 1 ∧ q.pfMult = 1 ∧ q.extraBalls = 0 ∧ q.locksLit = 0 ∧ q.locksMade = 0 ∧ q.crossed = 0 ∧
           ∀ i : Fin 16, q.counters[i] = 0) ∧
         (∀ i : Fin 32, t.ptb.commonValues[i] = 0) ∧
         (∀ i : Fin 16, t.ptb.playerDefs[i] =
           { s.ptb.playerDefs[i] with target := (s.ptb.playerDefs[i]).definedTarget, staged := none }) ∧
         (∀ i : Fin 32, t.ptb.commonDefs[i] =
           { s.ptb.commonDefs[i] with target := (s.ptb.commonDefs[i]).definedTarget, staged := none }) ∧
         (∀ y : Fin 12, t.mst.slots[y] = none) ∧ t.mst.stack = [] ∧ t.mst.pauseOrder = [] ∧ t.mst.ended = [] ∧
         t.mst.templates = s.mst.templates ∧
         (∀ u : Fin 16, t.tmu.timers[u] = none ∨
           (t.tmu.timers[u] = s.tmu.timers[u] ∧ ∃ k, s.tmu.timers[u] = some k ∧ k.binding = .user)) ∧
         (∀ (u : Fin 16) (k : Timer), s.tmu.timers[u] = some k → k.binding = .user → t.tmu.timers[u] = some k) ∧
         (∀ d : Fin 6, t.lmc.claims[d] = []) ∧ t.lmc.params = s.lmc.params ∧ t.lmc.multiball = false ∧
         t.lmc.jackpot = 0 ∧
         t.gpc = { s.gpc with
           game := .starting, current := some 1, ballNumber := 1, tilted := decide (s.lineState = .tilted) } ∧
         (r.ejectPending = 0 → t.hasNotice (.ejectReq 0) = true ∧ t.bdt.devices[(0 : Fin 6)] =
           { r with ejectPending := 1, retries := 0, ejectTimer := some x.timeout }) ∧
         (r.ejectPending ≠ 0 → t.ntu = s.ntu ∧ t.bdt.devices[(0 : Fin 6)] =
           { r with ejectPending := r.ejectPending + 1 }) ∧
         (∀ d : Fin 6, d ≠ 0 → t.bdt.devices[d] = s.bdt.devices[d]) ∧
         t.bdt.ballsInPlay = s.bdt.ballsInPlay ∧ t.bdt.tracking = .ok ∧ t.swi = s.swi ∧ t.evl = s.evl ∧
         t.scu = s.scu))) ∧
  ∀ s : State, s.glk.waiting = false →
    (s.gpc.game = .idle ∨ s.gpc.game = .gameOver ∨ s.gpc.ballNumber ≠ 1 →
      exec (.addPlayer []) s = .next (s.answer 0x11 .wrongState [])) ∧
    (s.gpc.game ≠ .idle → s.gpc.game ≠ .gameOver → s.gpc.ballNumber = 1 →
      (s.gpc.params.maxPlayers ≤ s.ptb.players.length →
        exec (.addPlayer []) s = .next (s.answer 0x11 .limit [])) ∧
      (s.ptb.players.length < s.gpc.params.maxPlayers → ∃ q : Player,
        q = ⟨0, false, 0, 1, 1, 0, 0, 0, .replicate 16 0, 0⟩ ∧
        exec (.addPlayer []) s = .next (State.answer { s with
          ptb := { s.ptb with players := s.ptb.players ++ [q] } } 0x11 .ok [small (s.ptb.players.length + 1)])))

/-- NEXT_BALL in BALL_OVER spends an extra ball on a replay, else passes the turn to the next player or to player 1
on the next ball. Past balls_per_game the game ends: the rotation is kept, the PARKED contexts end GAME_ENDED,
GAME_OVER is raised. Otherwise the incoming player's PARKED contexts resume, out of timers NO_TIMER, the game is
STARTING, and the trough is asked for one ball. Elsewhere it is WRONG_STATE (R94, R95, R174, R175, R176, R177). -/
def Obligations.NextBallChoosesThePlayer : Prop :=
  ∀ s : State, s.glk.waiting = false →
    (s.gpc.game ≠ .ballOver → exec (.nextBall []) s = .next (s.answer 0x12 .wrongState [])) ∧
    ∀ (n p b : Nat) (q : Player) (trough : Device), s.gpc.game = .ballOver → s.gpc.current = some (n + 1) →
      s.ptb.players[n]? = some q → ModeLaw s → TimerLaw s → s.bdt.devices[(0 : Fin 6)] = trough →
      (0 < q.extraBalls → p = n + 1 ∧ b = s.gpc.ballNumber) →
      (q.extraBalls = 0 → n + 1 < s.ptb.players.length → p = n + 2 ∧ b = s.gpc.ballNumber) →
      (q.extraBalls = 0 → s.ptb.players.length ≤ n + 1 → p = 1 ∧ b = s.gpc.ballNumber + 1) →
      ∃ (t : State) (q' : Player), exec (.nextBall []) s = .next t ∧
        t.ptb = { s.ptb with players := s.ptb.players.set n { q with extraBalls := q.extraBalls - 1 } } ∧
        t.lmc = s.lmc ∧ t.bdt.ballsInPlay = s.bdt.ballsInPlay ∧ t.bdt.tracking = s.bdt.tracking ∧ t.swi = s.swi ∧
        (s.gpc.params.ballsPerGame < b →
          t.glk.response = ⟨0x12, .ok, [small (n + 1), small s.gpc.ballNumber, 4, small (q.extraBalls - 1)]⟩ ∧
          t.gpc = { s.gpc with game := .gameOver } ∧ t.bdt = s.bdt ∧ t.tmu = s.tmu ∧ t.hasNotice .gameOver = true ∧
          (∀ (x : Fin 12) (c : Context), s.mst.slots[x] = some c → c.phase = .parked →
            t.mst.slots[x] = some { c with phase := .ended .gameEnded } ∧ t.hasNotice (.modeEnded x) = true) ∧
          (∀ x : Fin 12, s.phase? x ≠ some .parked → t.mst.slots[x] = s.mst.slots[x])) ∧
        (b ≤ s.gpc.params.ballsPerGame →
          t.ptb.players[p - 1]? = some q' ∧ t.glk.response = ⟨0x12, .ok, [small p, small b, 1, small q'.extraBalls]⟩ ∧
          t.gpc = { s.gpc with
            game := .starting, current := some p, ballNumber := b, tilted := decide (s.lineState = .tilted) } ∧
          (t.bdt.devices[(0 : Fin 6)]).ejectPending = trough.ejectPending + trough.adds 1 ∧
          (∀ d : Fin 6, d ≠ 0 → t.bdt.devices[d] = s.bdt.devices[d]) ∧
          (∀ (x : Fin 12) (c : Context), s.mst.slots[x] = some c → c.phase ≠ .parked ∨ c.owner ≠ p →
            t.mst.slots[x] = some c) ∧
          (∀ (x : Fin 12) (c : Context) (tm : Template), s.mst.slots[x] = some c → c.phase = .parked → c.owner = p →
            s.mst.templates[c.template] = some tm → ∃ c' : Context, t.mst.slots[x] = some c' ∧
              c' = { c with phase := c'.phase, timer := c'.timer } ∧
              (c'.phase = .running ∨ c'.phase = .paused ∨ c'.phase = .ended .noTimer) ∧
              (tm.period? = none → c'.phase ≠ .ended .noTimer) ∧
              (c'.phase = .ended .noTimer → c'.timer = none ∧ ∀ u : Fin 16, t.tmu.timers[u] ≠ none) ∧
              (c'.phase = .paused → tm.exclusionGroup ≠ 0 ∧ ∃ z, z ≠ x ∧ t.phase? z = some .running ∧
                t.slotGroup z = tm.exclusionGroup ∧ tm.priority ≤ t.slotPriority z) ∧
              (c'.phase = .running ∨ c'.phase = .paused → tm.period? ≠ none →
                ∃ (u : Fin 16) (k : Timer), c'.timer = some u ∧ s.tmu.timers[u] = none ∧ t.tmu.timers[u] = some k ∧
                  k.remaining = c.stored ∧ some k.period = tm.period? ∧ k.binding = tm.binding x ∧
                  k.state = (if c'.phase = .running then .running else .frozen))))

/-- END_GAME in a game in progress ends it: GAME_OVER, every standing context ENDED with GAME_ENDED in slot order,
multiball OFF, every timer that is not USER released, GAME_OVER raised, the records and claims kept. CLEAR_GAME in
GAME_OVER makes the game record that of IDLE, frees the slots and empties the claims. Each is WRONG_STATE elsewhere
(R97, R141, R162, R179, R180). -/
def Obligations.GamesEndAndClear : Prop :=
  ∀ s : State, s.glk.waiting = false →
    (s.gpc.game = .idle ∨ s.gpc.game = .gameOver →
      exec (.endGame []) s = .next (s.answer 0x13 .wrongState [])) ∧
    (s.gpc.game ≠ .idle → s.gpc.game ≠ .gameOver →
      ∃ t, exec (.endGame []) s = .next (t.answer 0x13 .ok []) ∧ t = s.endGame ∧
        t.gpc = { s.gpc with game := .gameOver } ∧ t.ptb = s.ptb ∧ t.bdt = s.bdt ∧ t.swi = s.swi ∧
        t.lmc = { s.lmc with multiball := false } ∧ t.hasNotice .gameOver = true ∧
        (s.lmc.multiball = true → t.hasNotice .multiballEnd = true) ∧
        (ModeLaw s → TimerLaw s →
          t.mst.stack = [] ∧ t.mst.pauseOrder = [] ∧
          t.mst.ended = s.mst.ended ++ (List.finRange 12).filter s.isStanding ∧
          (∀ x : Fin 12, s.isStanding x = false → t.mst.slots[x] = s.mst.slots[x]) ∧
          (∀ (x : Fin 12) (c : Context), s.mst.slots[x] = some c → s.isStanding x = true →
            t.hasNotice (.modeEnded x) = true ∧ t.mst.slots[x] =
              some { c with phase := .ended .gameEnded, timer := none, stored := s.remainingOf c }) ∧
          (∀ (u : Fin 16) (r : Timer), s.tmu.timers[u] = some r →
            t.tmu.timers[u] = if r.binding = .user then some r else none))) ∧
    (s.gpc.game ≠ .gameOver → exec (.clearGame []) s = .next (s.answer 0x14 .wrongState [])) ∧
    (s.gpc.game = .gameOver → ∃ t, exec (.clearGame []) s = .next t ∧
      t.gpc = { s.gpc with game := .idle, current := none, ballNumber := 0, tilted := false } ∧
      t.ptb.players = [] ∧ (∀ i : Fin 32, t.ptb.commonValues[i] = 0) ∧ t.ptb.playerDefs = s.ptb.playerDefs ∧
      t.ptb.commonDefs = s.ptb.commonDefs ∧ (∀ x : Fin 12, t.mst.slots[x] = none) ∧ t.mst.stack = [] ∧
      t.mst.pauseOrder = [] ∧ t.mst.ended = [] ∧ t.mst.templates = s.mst.templates ∧
      (∀ d : Fin 6, t.lmc.claims[d] = []) ∧ t.lmc.params = s.lmc.params ∧ t.bdt = s.bdt ∧ t.tmu = s.tmu ∧
      t.ntu = s.ntu ∧ t.glk.response = ⟨0x14, .ok, []⟩)

/-! ### Writes and definitions -/

/-- WRITE_PLAYER sets the selected fields, each clamped, and is CLAMPED when any was. SET_PLAYFIELD_MULT in STARTING and
IN_PLAY sets the current player's pf_mult, clamped to 1..8; 0 ticks free the PF_MULT timer; other ticks restart it, or
take the lowest FREE timer, or answer NO_TIMER with the multiplier set. ADJUST_SCORE credits a score with a point
value's worth, for no context, or subtracts it down to 0, and answers the score. The game state is checked before the
player, the player before the operands (R1, R3, R4, R5, R6, R63). -/
def Obligations.PlayerRecordsAreWritten : Prop :=
  (∀ (s : State) (p : List Byte), s.glk.waiting = false → p.length = 8 →
     (s.gpc.game = .idle ∨ s.gpc.game = .gameOver →
       exec (.writePlayer p) s = .next (s.answer 0x03 .wrongState [])) ∧
     (s.gpc.game ≠ .idle → s.gpc.game ≠ .gameOver →
       (byteAt p 0 = 0 ∨ 6 < byteAt p 0 → exec (.writePlayer p) s = .next (s.answer 0x03 .outOfRange [])) ∧
       (1 ≤ byteAt p 0 → byteAt p 0 ≤ 6 → s.ptb.players.length < byteAt p 0 →
         exec (.writePlayer p) s = .next (s.answer 0x03 .wrongState [])) ∧
       (∀ (n : Nat) (q : Player), byteAt p 0 = n + 1 → n < 6 → s.ptb.players[n]? = some q →
         (8 ≤ byteAt p 1 → exec (.writePlayer p) s = .next (s.answer 0x03 .outOfRange [])) ∧
         (byteAt p 1 < 8 → ∃ (q' : Player) (st : Status),
           exec (.writePlayer p) s = .next ((s.withPlayer n q').answer 0x03 st []) ∧
           { q' with bonus := q.bonus, bonusMult := q.bonusMult, extraBalls := q.extraBalls } = q ∧
           q'.bonus = (if (byteAt p 1).testBit 0 then min (numberAt p 2 4) 99999999 else q.bonus) ∧
           q'.bonusMult = (if (byteAt p 1).testBit 1 then max 1 (min (byteAt p 6) 99) else q.bonusMult) ∧
           q'.extraBalls = (if (byteAt p 1).testBit 2 then min (byteAt p 7) 9 else q.extraBalls) ∧
           (st = .ok ∨ st = .clamped) ∧
           (st = .clamped ↔ ((byteAt p 1).testBit 0 = true ∧ q'.bonus ≠ numberAt p 2 4) ∨
             ((byteAt p 1).testBit 1 = true ∧ q'.bonusMult ≠ byteAt p 6) ∨
             ((byteAt p 1).testBit 2 = true ∧ q'.extraBalls ≠ byteAt p 7)))))) ∧
  (∀ (s v : State) (p : List Byte) (n m ticks : Nat) (q : Player) (st : Status), s.glk.waiting = false →
     p.length = 3 → byteAt p 0 = m → numberAt p 1 2 = ticks →
     (s.gpc.game ≠ .starting → s.gpc.game ≠ .inPlay →
       exec (.setPlayfieldMult p) s = .next (s.answer 0x15 .wrongState [])) ∧
     (s.gpc.game = .starting ∨ s.gpc.game = .inPlay → s.gpc.current = some (n + 1) → s.ptb.players[n]? = some q →
       v = s.withPlayer n { q with pfMult := max 1 (min m 8) } →
       st = (if 1 ≤ m ∧ m ≤ 8 then .ok else .clamped) →
       (ticks = 0 → ∃ t : State, exec (.setPlayfieldMult p) s = .next (t.answer 0x15 st []) ∧ { t with tmu := s.tmu } = v ∧
         ∀ u : Fin 16,
           (∀ r : Timer, s.tmu.timers[u] = some r → r.binding = .pfMult → t.tmu.timers[u] = none) ∧
           ((∀ r : Timer, s.tmu.timers[u] = some r → r.binding ≠ .pfMult) → t.tmu.timers[u] = s.tmu.timers[u])) ∧
       (0 < ticks →
         (∀ (u : Fin 16) (r : Timer), s.tmu.timers[u] = some r → r.binding = .pfMult →
           (∀ (w : Fin 16) (k : Timer), w ≠ u → s.tmu.timers[w] = some k → k.binding ≠ .pfMult) →
           exec (.setPlayfieldMult p) s = .next ((v.withTimer u (some { r with
             period := ticks, staged := none, remaining := ticks, state := .running })).answer 0x15 st [])) ∧
         ((∀ (w : Fin 16) (k : Timer), s.tmu.timers[w] = some k → k.binding ≠ .pfMult) →
           (∀ u : Fin 16, s.tmu.timers[u] = none → (∀ w, w < u → s.tmu.timers[w] ≠ none) →
             exec (.setPlayfieldMult p) s = .next ((v.withTimer u
               (some ⟨.running, .oneShot, ticks, none, ticks, true, .pfMult⟩)).answer 0x15 st [])) ∧
           ((∀ w : Fin 16, s.tmu.timers[w] ≠ none) →
             exec (.setPlayfieldMult p) s = .next (v.answer 0x15 .noTimer [])))))) ∧
  ∀ (s : State) (p : List Byte) (w : Nat), s.glk.waiting = false → p.length = 5 →
    w = numberAt p 2 2 * 10 ^ byteAt p 4 →
    (s.gpc.game = .idle ∨ s.gpc.game = .gameOver →
      exec (.adjustScore p) s = .next (s.answer 0x04 .wrongState [])) ∧
    (s.gpc.game ≠ .idle → s.gpc.game ≠ .gameOver →
      (byteAt p 0 = 0 ∨ 6 < byteAt p 0 → exec (.adjustScore p) s = .next (s.answer 0x04 .outOfRange [])) ∧
      (1 ≤ byteAt p 0 → byteAt p 0 ≤ 6 → s.ptb.players.length < byteAt p 0 →
        exec (.adjustScore p) s = .next (s.answer 0x04 .wrongState [])) ∧
      (∀ (n : Nat) (q : Player), byteAt p 0 = n + 1 → n < 6 → s.ptb.players[n]? = some q →
        (1 < byteAt p 1 ∨ 9999 < numberAt p 2 2 ∨ 7 < byteAt p 4 →
          exec (.adjustScore p) s = .next (s.answer 0x04 .outOfRange [])) ∧
        (byteAt p 1 = 0 → numberAt p 2 2 ≤ 9999 → byteAt p 4 ≤ 7 → exec (.adjustScore p) s =
          .next ((s.credit (n + 1) w none).answer 0x04 .ok (numberBytes 5 (min (q.score + w) 999999999999)))) ∧
        (byteAt p 1 = 1 → numberAt p 2 2 ≤ 9999 → byteAt p 4 ≤ 7 → exec (.adjustScore p) s =
          .next ((s.withPlayer n { q with
            score := q.score - w
            scoreLimitReported := q.scoreLimitReported && decide (999999999999 ≤ q.score - w) }).answer 0x04 .ok
              (numberBytes 5 (q.score - w))))))

/-- WRITE_COUNTER writes a value clamped below a REPEAT target or at a HOLD target; STAGE_TARGET stages a target, in
force at once where the target is 0; both need a game in progress, and the player operand is checked for class PLAYER
only. DEFINE_COUNTER in IDLE replaces a definition, its target in force at once, and refuses what names no class,
index, after_reach, action, code or template (R10, R15, R16). -/
def Obligations.CountersAreWrittenAndDefined : Prop :=
  ∀ (s : State) (p : List Byte) (d : CounterDef), s.glk.waiting = false →
    (s.gpc.game = .idle ∨ s.gpc.game = .gameOver →
      (p.length = 5 → exec (.writeCounter p) s = .next (s.answer 0x06 .wrongState [])) ∧
      (p.length = 4 → exec (.stageTarget p) s = .next (s.answer 0x07 .wrongState []))) ∧
    (s.gpc.game ≠ .idle → s.gpc.game ≠ .gameOver →
      (1 < byteAt p 0 ∨ (byteAt p 0 = 0 ∧ 16 ≤ byteAt p 1) ∨ (byteAt p 0 = 1 ∧ 32 ≤ byteAt p 1) →
        (p.length = 5 → exec (.writeCounter p) s = .next (s.answer 0x06 .outOfRange [])) ∧
        (p.length = 4 → exec (.stageTarget p) s = .next (s.answer 0x07 .outOfRange []))) ∧
      (byteAt p 0 = 0 → byteAt p 1 < 16 → p.length = 5 →
        (byteAt p 2 = 0 ∨ 6 < byteAt p 2 → exec (.writeCounter p) s = .next (s.answer 0x06 .outOfRange [])) ∧
        (1 ≤ byteAt p 2 → byteAt p 2 ≤ 6 → s.ptb.players.length < byteAt p 2 →
          exec (.writeCounter p) s = .next (s.answer 0x06 .wrongState []))) ∧
      (∀ bound : Nat, bound = (if d.target = 0 then 0 else if d.afterReach = .repeats then d.target - 1 else d.target) →
        p.length = 5 →
        (∀ (i : Fin 16) (n : Nat) (q : Player), byteAt p 0 = 0 → byteAt p 1 = i.val → d = s.ptb.playerDefs[i] →
          byteAt p 2 = n + 1 → n < 6 → s.ptb.players[n]? = some q → exec (.writeCounter p) s =
            .next ((s.withPlayer n { q with
              counters := q.counters.set i.val (min (numberAt p 3 2) bound) i.isLt }).answer 0x06
                (if bound < numberAt p 3 2 then .clamped else .ok) [])) ∧
        (∀ i : Fin 32, byteAt p 0 = 1 → byteAt p 1 = i.val → d = s.ptb.commonDefs[i] → exec (.writeCounter p) s =
          .next (State.answer { s with ptb := { s.ptb with
            commonValues := s.ptb.commonValues.set i.val (min (numberAt p 3 2) bound) i.isLt } } 0x06
              (if bound < numberAt p 3 2 then .clamped else .ok) []))) ∧
      (∀ e : CounterDef, p.length = 4 → e = (if d.target = 0 then { d with target := numberAt p 2 2, staged := none }
          else { d with staged := some (numberAt p 2 2) }) →
        (∀ i : Fin 16, byteAt p 0 = 0 → byteAt p 1 = i.val → d = s.ptb.playerDefs[i] → exec (.stageTarget p) s =
          .next (State.answer { s with ptb := { s.ptb with
            playerDefs := s.ptb.playerDefs.set i.val e i.isLt } } 0x07 .ok [])) ∧
        (∀ i : Fin 32, byteAt p 0 = 1 → byteAt p 1 = i.val → d = s.ptb.commonDefs[i] → exec (.stageTarget p) s =
          .next (State.answer { s with ptb := { s.ptb with
            commonDefs := s.ptb.commonDefs.set i.val e i.isLt } } 0x07 .ok [])))) ∧
    (s.gpc.game = .idle → p.length = 7 →
      (1 < byteAt p 0 ∨ (byteAt p 0 = 0 ∧ 16 ≤ byteAt p 1) ∨ (byteAt p 0 = 1 ∧ 32 ≤ byteAt p 1) ∨ 1 < byteAt p 4 ∨
          5 < byteAt p 5 ∨ (byteAt p 5 = 1 ∧ 3 < byteAt p 6) ∨ (byteAt p 5 = 3 ∧ 31 < byteAt p 6) →
        exec (.defineCounter p) s = .next (s.answer 0x61 .outOfRange [])) ∧
      (∀ (after : AfterReach) (action : CounterAction),
        d = ⟨numberAt p 2 2, numberAt p 2 2, none, after, action⟩ → after.code.toNat = byteAt p 4 →
        ((byteAt p 5 = 0 ∧ action = .none) ∨ (byteAt p 5 = 2 ∧ action = .lightLock) ∨
          (byteAt p 5 = 4 ∧ action = .extraBall) ∨ (byteAt p 5 = 5 ∧ action = .bonusMult) ∨
          (byteAt p 5 = 1 ∧ ∃ c : Fin 4, c.val = byteAt p 6 ∧ action = .notify c) ∨
          (byteAt p 5 = 3 ∧ ∃ i : Fin 32, i.val = byteAt p 6 ∧ action = .startMode i)) →
        (∀ i : Fin 16, byteAt p 0 = 0 → byteAt p 1 = i.val → exec (.defineCounter p) s =
          .next (State.answer { s with ptb := { s.ptb with
            playerDefs := s.ptb.playerDefs.set i.val d i.isLt } } 0x61 .ok [])) ∧
        (∀ i : Fin 32, byteAt p 0 = 1 → byteAt p 1 = i.val → exec (.defineCounter p) s =
          .next (State.answer { s with ptb := { s.ptb with
            commonDefs := s.ptb.commonDefs.set i.val d i.isLt } } 0x61 .ok []))))

/-- DEFINE_RULE in IDLE with a rule entry in its ranges that agrees with the device table replaces the whole entry of
the switch, and READ_RULE then answers the very fields written; one that disagrees is OUT_OF_RANGE, and so are a
switch above 127, a class above 3, an edge, group or device outside its range, more than 4 records, any record for
DEVICE_EXIT, and a record of an unknown kind or with an operand outside its range; IGNORED is taken whatever its other
fields. READ_RULE answers the entry as it stands in every game state. A rule agrees with the device table when it is
DEVICE_ENTRY or DEVICE_EXIT and its device is present and names the switch as its entry or exit switch, SCORING and no
present device names the switch, or IGNORED (R33 to R39, R205, R206). -/
def Obligations.RulesReadBackAsDefined : Prop :=
  ∀ s : State, s.glk.waiting = false →
    (∀ sw : Fin 128, s.ruleAgrees sw .ignored = true ∧
      (∀ e g l, s.ruleAgrees sw (.scoring e g l) = true ↔ ∀ (d : Fin 6) (x : DeviceDef),
        (s.bdt.devices[d]).definition = some x → x.entrySwitch ≠ sw ∧ x.exitSwitch ≠ sw) ∧
      (∀ (d : Fin 6) (g : Fin 16) (l : List Award), s.ruleAgrees sw (.deviceEntry d g l) = true ↔
        ∃ x, (s.bdt.devices[d]).definition = some x ∧ x.entrySwitch = sw) ∧
      (∀ d : Fin 6, s.ruleAgrees sw (.deviceExit d) = true ↔
        ∃ x, (s.bdt.devices[d]).definition = some x ∧ x.exitSwitch = sw)) ∧
    (∀ sw : Fin 128, exec (.readRule [small sw.val]) s = .next (s.answer 0x0A .ok (match s.evl.rules[sw] with
      | .ignored => [0, 0xFF, 0xFF, 0xFF, 0]
      | .scoring e g l => [1, 0xFF, e.code, small g.val, small l.length] ++ l.flatMap Award.bytes
      | .deviceEntry d g l => [2, small d.val, 0xFF, small g.val, small l.length] ++ l.flatMap Award.bytes
      | .deviceExit d => [3, small d.val, 0xFF, 0xFF, 0]))) ∧
    (s.gpc.game = .idle → ∀ (sw : Fin 128) (r : Rule), r.InRange →
      (s.ruleAgrees sw r = true → ∃ t, exec (.defineRule (small sw.val :: r.bytes)) s = .next t ∧
        t = State.answer { s with evl := ⟨s.evl.rules.set sw.val r sw.isLt⟩ } 0x60 .ok [] ∧
        exec (.readRule [small sw.val]) t = .next (t.answer 0x0A .ok r.bytes)) ∧
      (s.ruleAgrees sw r = false →
        exec (.defineRule (small sw.val :: r.bytes)) s = .next (s.answer 0x60 .outOfRange []))) ∧
    (s.gpc.game = .idle → ∀ p : List Byte, p.length = 6 + 5 * byteAt p 5 → byteAt p 5 ≤ 11 →
      (128 ≤ byteAt p 0 ∨ 4 ≤ byteAt p 1 ∨ (byteAt p 1 ≠ 0 ∧ 4 < byteAt p 5) →
        exec (.defineRule p) s = .next (s.answer 0x60 .outOfRange [])) ∧
      ((byteAt p 1 = 1 ∧ 1 < byteAt p 3) ∨ ((byteAt p 1 = 1 ∨ byteAt p 1 = 2) ∧ 15 < byteAt p 4) ∨
          ((byteAt p 1 = 2 ∨ byteAt p 1 = 3) ∧ 5 < byteAt p 2) ∨ (byteAt p 1 = 3 ∧ 0 < byteAt p 5) →
        exec (.defineRule p) s = .next (s.answer 0x60 .outOfRange [])) ∧
      (∀ i j : Nat, byteAt p 1 ≠ 0 → i < byteAt p 5 → j = 6 + 5 * i →
        7 < byteAt p j ∨
          ((byteAt p j = 0 ∨ byteAt p j = 1) ∧ (9999 < numberAt p (j + 1) 2 ∨ 7 < byteAt p (j + 3))) ∨
          (byteAt p j = 0 ∧ 1 < byteAt p (j + 4)) ∨
          (byteAt p j = 2 ∧ (byteAt p (j + 1) = 0 ∨ 9 < byteAt p (j + 1))) ∨
          (byteAt p j = 3 ∧ (1 < byteAt p (j + 1) ∨ (byteAt p (j + 1) = 0 ∧ 15 < byteAt p (j + 2)) ∨
            31 < byteAt p (j + 2))) ∨
          (byteAt p j = 4 ∧ 1 < byteAt p (j + 1)) ∨ (byteAt p j = 6 ∧ 31 < byteAt p (j + 1)) →
        exec (.defineRule p) s = .next (s.answer 0x60 .outOfRange [])) ∧
      (∀ sw : Fin 128, sw.val = byteAt p 0 → byteAt p 1 = 0 → exec (.defineRule p) s =
        .next (State.answer { s with evl := ⟨s.evl.rules.set sw.val .ignored sw.isLt⟩ } 0x60 .ok []))) ∧
    (∀ b : Byte, 128 ≤ b.toNat → exec (.readRule [b]) s = .next (s.answer 0x0A .outOfRange []))

/-- DEFINE_TEMPLATE in IDLE makes a template undefined, or replaces it by the fields of its payload when each that its
kind uses is in its range, a HURRY floor worth no more than its start value; otherwise it is OUT_OF_RANGE and the
table is unchanged (R74, R75, R76, R203, R205). That a retrigger byte above 1 is refused for an untimed template too,
and that the fields a kind does not use are not checked, is the model's choice, log 15. -/
def Obligations.DefineTemplateReplacesTheTemplate : Prop :=
  ∀ (s : State) (p : List Byte), s.glk.waiting = false → s.gpc.game = .idle → p.length = 31 →
    (32 ≤ byteAt p 0 ∨ 1 < byteAt p 1 → exec (.defineTemplate p) s = .next (s.answer 0x62 .outOfRange [])) ∧
    (byteAt p 1 = 1 →
      15 < byteAt p 2 ∨ 2 < byteAt p 3 ∨ 9999 < numberAt p 6 2 ∨ 7 < byteAt p 8 ∨ byteAt p 9 = 0 ∨ 10 < byteAt p 9 ∨
        1 < byteAt p 10 ∨ (32 ≤ byteAt p 18 ∧ byteAt p 18 ≠ 255) ∨ (32 ≤ byteAt p 19 ∧ byteAt p 19 ≠ 255) ∨
        7 < byteAt p 20 ∨ 1 < byteAt p 21 ∨ 1 < byteAt p 22 ∨ 1 < byteAt p 23 ∨
        (byteAt p 3 ≤ 1 ∧ (1 < byteAt p 13 ∨ 9999 < numberAt p 15 2 ∨ 7 < byteAt p 17)) ∨
        (byteAt p 3 = 2 ∧ (9999 < numberAt p 24 2 ∨ 7 < byteAt p 26 ∨ byteAt p 27 = 0 ∨ 7 < byteAt p 28 ∨
          numberAt p 29 2 = 0 ∨ numberAt p 6 2 * 10 ^ byteAt p 8 < numberAt p 24 2 * 10 ^ byteAt p 26)) →
      exec (.defineTemplate p) s = .next (s.answer 0x62 .outOfRange [])) ∧
    ∀ (i : Fin 32) (x : Option Template), i.val = byteAt p 0 →
      ((byteAt p 1 = 0 ∧ x = none) ∨
        (byteAt p 1 = 1 ∧ ∃ tm : Template, x = some tm ∧ tm.priority = byteAt p 2 ∧ tm.priority ≤ 15 ∧
          (∀ g : Fin 16, tm.claims.getLsbD g.val = (numberAt p 4 2).testBit g.val) ∧
          tm.value = ⟨numberAt p 6 2, byteAt p 8⟩ ∧ tm.value.inRange = true ∧
          tm.multiplier = byteAt p 9 ∧ 1 ≤ tm.multiplier ∧ tm.multiplier ≤ 10 ∧ tm.applyPf.toNat = byteAt p 10 ∧
          (match tm.nextOnCompletion with
            | none => byteAt p 18 = 255
            | some j => byteAt p 18 = j.val) ∧
          (match tm.nextOnTimeout with
            | none => byteAt p 19 = 255
            | some j => byteAt p 19 = j.val) ∧
          tm.exclusionGroup.val = byteAt p 20 ∧ tm.carries.toNat = byteAt p 21 ∧ tm.mbOnly.toNat = byteAt p 22 ∧
          (!tm.refreshes).toNat = byteAt p 23 ∧
          (∀ f : ShotFields, f.duration = numberAt p 11 2 → f.retrigger.toNat = byteAt p 13 →
            f.targetHits = byteAt p 14 → f.completionValue = ⟨numberAt p 15 2, byteAt p 17⟩ →
            f.completionValue.inRange = true →
            (byteAt p 3 = 0 → tm.kind = .exclusive f) ∧ (byteAt p 3 = 1 → tm.kind = .additive f)) ∧
          (byteAt p 3 ≤ 1 → byteAt p 13 ≤ 1 ∧ numberAt p 15 2 ≤ 9999 ∧ byteAt p 17 ≤ 7) ∧
          (1 < byteAt p 3 → byteAt p 3 = 2 ∧ ∃ f : HurryFields, tm.kind = .hurry f ∧
            f = ⟨⟨numberAt p 24 2, byteAt p 26⟩, byteAt p 27, byteAt p 28, numberAt p 29 2⟩ ∧
            f.floor.inRange = true ∧ 1 ≤ f.decay ∧ f.unitExponent ≤ 7 ∧ 1 ≤ f.decayPeriod ∧
            f.floor.mantissa * 10 ^ f.floor.scale ≤ tm.value.mantissa * 10 ^ tm.value.scale))) →
      exec (.defineTemplate p) s = .next (State.answer { s with mst := { s.mst with
        templates := s.mst.templates.set i.val x i.isLt } } 0x62 .ok [])

/-- SET_LOCK_PARAMS and SET_GAME_PARAMS in IDLE replace all their parameters when every one is in its range, and
DEFINE_THRESHOLDS the list with strictly ascending values within the score limit; READ_PARAMS then answers the very
payload written; an installed count other than the one held makes OK UNCOUNTED; what is out of range, not ascending or
of an unknown action is OUT_OF_RANGE. READ_PARAMS answers the parameters as they stand in every game state, and
OUT_OF_RANGE to another selector (R70, R71, R107, R125, R126, R166, R190, R200, R205, R206). That SET_LOCK_PARAMS
leaves J as it stands, also above a lowered jackpot max, is the model's choice, log 10. -/
def Obligations.ParametersAndThresholdsReadBack : Prop :=
  (∀ s : State, s.glk.waiting = false →
     exec (.readParams [0]) s = .next (s.answer 0x67 .ok ([small s.gpc.params.ballsPerGame,
       small s.gpc.params.maxPlayers, small s.gpc.params.installed] ++ numberBytes 2 s.gpc.params.ballSaveTicks)) ∧
     exec (.readParams [1]) s = .next (s.answer 0x67 .ok ([small s.lmc.params.mbLocks, small s.lmc.params.mbBalls,
       small s.lmc.params.litMax, if s.lmc.params.litKeeps then 0 else 1] ++ numberBytes 2 s.lmc.params.mbSaveTicks ++
       numberBytes 2 s.lmc.params.jackpotBase.mantissa ++ [small s.lmc.params.jackpotBase.scale] ++
       numberBytes 2 s.lmc.params.jackpotStep.mantissa ++ [small s.lmc.params.jackpotStep.scale] ++
       numberBytes 2 s.lmc.params.jackpotMax.mantissa ++ [small s.lmc.params.jackpotMax.scale])) ∧
     exec (.readParams [2]) s = .next (s.answer 0x67 .ok (small s.scu.thresholds.length ::
       s.scu.thresholds.flatMap fun th => numberBytes 5 th.value ++ [if th.extraBall then 1 else 0])) ∧
     ∀ b : Byte, 3 ≤ b.toNat → exec (.readParams [b]) s = .next (s.answer 0x67 .outOfRange [])) ∧
  (∀ (s : State) (p : List Byte), s.glk.waiting = false → s.gpc.game = .idle →
     (p.length = 5 →
       (1 ≤ byteAt p 0 → byteAt p 0 ≤ 10 → 1 ≤ byteAt p 1 → byteAt p 1 ≤ 6 → 1 ≤ byteAt p 2 → byteAt p 2 ≤ 12 →
         ∃ t, exec (.setGameParams p) s = .next t ∧
           t = State.answer { s with
             gpc := { s.gpc with params := ⟨byteAt p 0, byteAt p 1, byteAt p 2, numberAt p 3 2⟩ },
             bdt := { s.bdt with tracking := if byteAt p 2 ≠ s.gpc.params.installed ∧ s.bdt.tracking = .ok
               then .uncounted else s.bdt.tracking } } 0x65 .ok [] ∧
           exec (.readParams [0]) t = .next (t.answer 0x67 .ok p)) ∧
       (byteAt p 0 = 0 ∨ 10 < byteAt p 0 ∨ byteAt p 1 = 0 ∨ 6 < byteAt p 1 ∨ byteAt p 2 = 0 ∨ 12 < byteAt p 2 →
         exec (.setGameParams p) s = .next (s.answer 0x65 .outOfRange []))) ∧
     (p.length = 15 → ∀ base step top : PointValue,
       base = ⟨numberAt p 6 2, byteAt p 8⟩ → step = ⟨numberAt p 9 2, byteAt p 11⟩ → top = ⟨numberAt p 12 2, byteAt p 14⟩ →
       (1 ≤ byteAt p 0 → byteAt p 0 ≤ 6 → 2 ≤ byteAt p 1 → byteAt p 1 ≤ 6 → byteAt p 1 ≤ s.gpc.params.installed →
         1 ≤ byteAt p 2 → byteAt p 2 ≤ 6 → byteAt p 3 ≤ 1 → base.inRange = true → step.inRange = true →
         top.inRange = true → base.mantissa * 10 ^ base.scale ≤ top.mantissa * 10 ^ top.scale →
         ∃ t, exec (.setLockParams p) s = .next t ∧
           t = State.answer { s with lmc := { s.lmc with params :=
             ⟨byteAt p 0, byteAt p 1, byteAt p 2, decide (byteAt p 3 = 0), numberAt p 4 2, base, step, top⟩ } }
             0x66 .ok [] ∧
           exec (.readParams [1]) t = .next (t.answer 0x67 .ok p)) ∧
       (byteAt p 0 = 0 ∨ 6 < byteAt p 0 ∨ byteAt p 1 < 2 ∨ 6 < byteAt p 1 ∨ s.gpc.params.installed < byteAt p 1 ∨
         byteAt p 2 = 0 ∨ 6 < byteAt p 2 ∨ 1 < byteAt p 3 ∨ base.inRange = false ∨ step.inRange = false ∨
         top.inRange = false ∨ top.mantissa * 10 ^ top.scale < base.mantissa * 10 ^ base.scale →
         exec (.setLockParams p) s = .next (s.answer 0x66 .outOfRange [])))) ∧
  ∀ (s : State) (l : List Threshold), s.glk.waiting = false → s.gpc.game = .idle →
    (∀ th ∈ l, th.value ≤ 1099511627775) →
    (l.length ≤ 8 → (∀ th ∈ l, th.value ≤ 999999999999) → l.Pairwise (fun a b => a.value < b.value) →
      ∃ t, exec (.defineThresholds (thresholdBytes l)) s = .next t ∧
        t = State.answer { s with scu := ⟨l⟩ } 0x64 .ok [] ∧
        exec (.readParams [2]) t = .next (t.answer 0x67 .ok (thresholdBytes l))) ∧
    (l.length ≤ 10 → 8 < l.length ∨ (∃ th ∈ l, 999999999999 < th.value) ∨
        ¬ l.Pairwise (fun a b => a.value < b.value) →
      exec (.defineThresholds (thresholdBytes l)) s = .next (s.answer 0x64 .outOfRange [])) ∧
    (∀ (p : List Byte) (i : Nat), p.length = 1 + 6 * byteAt p 0 → p.length ≤ 62 → i < byteAt p 0 →
      1 < byteAt p (6 * i + 6) → exec (.defineThresholds p) s = .next (s.answer 0x64 .outOfRange []))
end

