-- ==== Sys2Proof/Laws/State.lean ====
section
/-! SUPPORT. For every named update of State, each field after it: no later proof unfolds a record update. -/

namespace Sys2Proof.Machine

variable (s : State)

/-! ### raise -/

@[simp] theorem State.raise_swi (x : Source) : (s.raise x).swi = s.swi := rfl
@[simp] theorem State.raise_evl (x : Source) : (s.raise x).evl = s.evl := rfl
@[simp] theorem State.raise_ptb (x : Source) : (s.raise x).ptb = s.ptb := rfl
@[simp] theorem State.raise_scu (x : Source) : (s.raise x).scu = s.scu := rfl
@[simp] theorem State.raise_mst (x : Source) : (s.raise x).mst = s.mst := rfl
@[simp] theorem State.raise_bdt (x : Source) : (s.raise x).bdt = s.bdt := rfl
@[simp] theorem State.raise_lmc (x : Source) : (s.raise x).lmc = s.lmc := rfl
@[simp] theorem State.raise_tmu (x : Source) : (s.raise x).tmu = s.tmu := rfl
@[simp] theorem State.raise_gpc (x : Source) : (s.raise x).gpc = s.gpc := rfl
@[simp] theorem State.raise_glk (x : Source) : (s.raise x).glk = s.glk := rfl
@[simp] theorem State.raise_ntu (x : Source) : (s.raise x).ntu = s.ntu.raise x := rfl
@[simp] theorem State.raise_freeUse (x : Source) : (s.raise x).freeUse = s.freeUse := rfl
@[simp] theorem State.raise_pending (x : Source) : (s.raise x).pending = s.pending := rfl

/-! ### answer -/

@[simp] theorem State.answer_swi (e : Byte) (st : Status) (p : List Byte) : (s.answer e st p).swi = s.swi := rfl
@[simp] theorem State.answer_evl (e : Byte) (st : Status) (p : List Byte) : (s.answer e st p).evl = s.evl := rfl
@[simp] theorem State.answer_ptb (e : Byte) (st : Status) (p : List Byte) : (s.answer e st p).ptb = s.ptb := rfl
@[simp] theorem State.answer_scu (e : Byte) (st : Status) (p : List Byte) : (s.answer e st p).scu = s.scu := rfl
@[simp] theorem State.answer_mst (e : Byte) (st : Status) (p : List Byte) : (s.answer e st p).mst = s.mst := rfl
@[simp] theorem State.answer_bdt (e : Byte) (st : Status) (p : List Byte) : (s.answer e st p).bdt = s.bdt := rfl
@[simp] theorem State.answer_lmc (e : Byte) (st : Status) (p : List Byte) : (s.answer e st p).lmc = s.lmc := rfl
@[simp] theorem State.answer_tmu (e : Byte) (st : Status) (p : List Byte) : (s.answer e st p).tmu = s.tmu := rfl
@[simp] theorem State.answer_gpc (e : Byte) (st : Status) (p : List Byte) : (s.answer e st p).gpc = s.gpc := rfl
@[simp] theorem State.answer_glk (e : Byte) (st : Status) (p : List Byte) :
    (s.answer e st p).glk = ⟨⟨e, st, p⟩, s.glk.waiting⟩ := rfl
@[simp] theorem State.answer_ntu (e : Byte) (st : Status) (p : List Byte) : (s.answer e st p).ntu = s.ntu := rfl
@[simp] theorem State.answer_freeUse (e : Byte) (st : Status) (p : List Byte) :
    (s.answer e st p).freeUse = s.freeUse := rfl
@[simp] theorem State.answer_pending (e : Byte) (st : Status) (p : List Byte) :
    (s.answer e st p).pending = s.pending := rfl

/-! ### setTimer -/

@[simp] theorem State.setTimer_swi (t : Fin 16) (r : Option Timer) : (s.setTimer t r).swi = s.swi := rfl
@[simp] theorem State.setTimer_evl (t : Fin 16) (r : Option Timer) : (s.setTimer t r).evl = s.evl := rfl
@[simp] theorem State.setTimer_ptb (t : Fin 16) (r : Option Timer) : (s.setTimer t r).ptb = s.ptb := rfl
@[simp] theorem State.setTimer_scu (t : Fin 16) (r : Option Timer) : (s.setTimer t r).scu = s.scu := rfl
@[simp] theorem State.setTimer_mst (t : Fin 16) (r : Option Timer) : (s.setTimer t r).mst = s.mst := rfl
@[simp] theorem State.setTimer_bdt (t : Fin 16) (r : Option Timer) : (s.setTimer t r).bdt = s.bdt := rfl
@[simp] theorem State.setTimer_lmc (t : Fin 16) (r : Option Timer) : (s.setTimer t r).lmc = s.lmc := rfl
@[simp] theorem State.setTimer_tmu (t : Fin 16) (r : Option Timer) :
    (s.setTimer t r).tmu = ⟨s.tmu.timers.set t.val r t.isLt, s.tmu.expiring.set t.val false t.isLt⟩ := rfl
@[simp] theorem State.setTimer_gpc (t : Fin 16) (r : Option Timer) : (s.setTimer t r).gpc = s.gpc := rfl
@[simp] theorem State.setTimer_glk (t : Fin 16) (r : Option Timer) : (s.setTimer t r).glk = s.glk := rfl
@[simp] theorem State.setTimer_ntu (t : Fin 16) (r : Option Timer) : (s.setTimer t r).ntu = s.ntu := rfl
@[simp] theorem State.setTimer_freeUse (t : Fin 16) (r : Option Timer) : (s.setTimer t r).freeUse = s.freeUse := rfl
@[simp] theorem State.setTimer_pending (t : Fin 16) (r : Option Timer) : (s.setTimer t r).pending = s.pending := rfl

/-! ### modifyTimer -/

@[simp] theorem State.modifyTimer_swi (t : Fin 16) (f : Timer → Timer) : (s.modifyTimer t f).swi = s.swi := rfl
@[simp] theorem State.modifyTimer_evl (t : Fin 16) (f : Timer → Timer) : (s.modifyTimer t f).evl = s.evl := rfl
@[simp] theorem State.modifyTimer_ptb (t : Fin 16) (f : Timer → Timer) : (s.modifyTimer t f).ptb = s.ptb := rfl
@[simp] theorem State.modifyTimer_scu (t : Fin 16) (f : Timer → Timer) : (s.modifyTimer t f).scu = s.scu := rfl
@[simp] theorem State.modifyTimer_mst (t : Fin 16) (f : Timer → Timer) : (s.modifyTimer t f).mst = s.mst := rfl
@[simp] theorem State.modifyTimer_bdt (t : Fin 16) (f : Timer → Timer) : (s.modifyTimer t f).bdt = s.bdt := rfl
@[simp] theorem State.modifyTimer_lmc (t : Fin 16) (f : Timer → Timer) : (s.modifyTimer t f).lmc = s.lmc := rfl
@[simp] theorem State.modifyTimer_tmu (t : Fin 16) (f : Timer → Timer) :
    (s.modifyTimer t f).tmu =
      ⟨s.tmu.timers.set t.val (s.tmu.timers[t].map f) t.isLt, s.tmu.expiring.set t.val false t.isLt⟩ := rfl
@[simp] theorem State.modifyTimer_gpc (t : Fin 16) (f : Timer → Timer) : (s.modifyTimer t f).gpc = s.gpc := rfl
@[simp] theorem State.modifyTimer_glk (t : Fin 16) (f : Timer → Timer) : (s.modifyTimer t f).glk = s.glk := rfl
@[simp] theorem State.modifyTimer_ntu (t : Fin 16) (f : Timer → Timer) : (s.modifyTimer t f).ntu = s.ntu := rfl
@[simp] theorem State.modifyTimer_freeUse (t : Fin 16) (f : Timer → Timer) :
    (s.modifyTimer t f).freeUse = s.freeUse := rfl
@[simp] theorem State.modifyTimer_pending (t : Fin 16) (f : Timer → Timer) :
    (s.modifyTimer t f).pending = s.pending := rfl

/-! ### amendTimer -/

@[simp] theorem State.amendTimer_swi (t : Fin 16) (f : Timer → Timer) : (s.amendTimer t f).swi = s.swi := rfl
@[simp] theorem State.amendTimer_evl (t : Fin 16) (f : Timer → Timer) : (s.amendTimer t f).evl = s.evl := rfl
@[simp] theorem State.amendTimer_ptb (t : Fin 16) (f : Timer → Timer) : (s.amendTimer t f).ptb = s.ptb := rfl
@[simp] theorem State.amendTimer_scu (t : Fin 16) (f : Timer → Timer) : (s.amendTimer t f).scu = s.scu := rfl
@[simp] theorem State.amendTimer_mst (t : Fin 16) (f : Timer → Timer) : (s.amendTimer t f).mst = s.mst := rfl
@[simp] theorem State.amendTimer_bdt (t : Fin 16) (f : Timer → Timer) : (s.amendTimer t f).bdt = s.bdt := rfl
@[simp] theorem State.amendTimer_lmc (t : Fin 16) (f : Timer → Timer) : (s.amendTimer t f).lmc = s.lmc := rfl
@[simp] theorem State.amendTimer_timers (t : Fin 16) (f : Timer → Timer) :
    (s.amendTimer t f).tmu.timers = s.tmu.timers.set t.val (s.tmu.timers[t].map f) t.isLt := rfl
@[simp] theorem State.amendTimer_expiring (t : Fin 16) (f : Timer → Timer) :
    (s.amendTimer t f).tmu.expiring = s.tmu.expiring := rfl
@[simp] theorem State.amendTimer_gpc (t : Fin 16) (f : Timer → Timer) :
    (s.amendTimer t f).gpc = s.gpc := rfl
@[simp] theorem State.amendTimer_glk (t : Fin 16) (f : Timer → Timer) :
    (s.amendTimer t f).glk = s.glk := rfl
@[simp] theorem State.amendTimer_ntu (t : Fin 16) (f : Timer → Timer) :
    (s.amendTimer t f).ntu = s.ntu := rfl
@[simp] theorem State.amendTimer_freeUse (t : Fin 16) (f : Timer → Timer) :
    (s.amendTimer t f).freeUse = s.freeUse := rfl
@[simp] theorem State.amendTimer_pending (t : Fin 16) (f : Timer → Timer) :
    (s.amendTimer t f).pending = s.pending := rfl

/-! ### amendHeld -/

@[simp] theorem State.amendHeld_swi (t : Option (Fin 16)) (f : Timer → Timer) :
    (s.amendHeld t f).swi = s.swi := by cases t <;> rfl
@[simp] theorem State.amendHeld_evl (t : Option (Fin 16)) (f : Timer → Timer) :
    (s.amendHeld t f).evl = s.evl := by cases t <;> rfl
@[simp] theorem State.amendHeld_ptb (t : Option (Fin 16)) (f : Timer → Timer) :
    (s.amendHeld t f).ptb = s.ptb := by cases t <;> rfl
@[simp] theorem State.amendHeld_scu (t : Option (Fin 16)) (f : Timer → Timer) :
    (s.amendHeld t f).scu = s.scu := by cases t <;> rfl
@[simp] theorem State.amendHeld_mst (t : Option (Fin 16)) (f : Timer → Timer) :
    (s.amendHeld t f).mst = s.mst := by cases t <;> rfl
@[simp] theorem State.amendHeld_bdt (t : Option (Fin 16)) (f : Timer → Timer) :
    (s.amendHeld t f).bdt = s.bdt := by cases t <;> rfl
@[simp] theorem State.amendHeld_lmc (t : Option (Fin 16)) (f : Timer → Timer) :
    (s.amendHeld t f).lmc = s.lmc := by cases t <;> rfl
@[simp] theorem State.amendHeld_gpc (t : Option (Fin 16)) (f : Timer → Timer) :
    (s.amendHeld t f).gpc = s.gpc := by cases t <;> rfl
@[simp] theorem State.amendHeld_glk (t : Option (Fin 16)) (f : Timer → Timer) :
    (s.amendHeld t f).glk = s.glk := by cases t <;> rfl
@[simp] theorem State.amendHeld_ntu (t : Option (Fin 16)) (f : Timer → Timer) :
    (s.amendHeld t f).ntu = s.ntu := by cases t <;> rfl
@[simp] theorem State.amendHeld_freeUse (t : Option (Fin 16)) (f : Timer → Timer) :
    (s.amendHeld t f).freeUse = s.freeUse := by cases t <;> rfl
@[simp] theorem State.amendHeld_pending (t : Option (Fin 16)) (f : Timer → Timer) :
    (s.amendHeld t f).pending = s.pending := by cases t <;> rfl

/-! ### releaseTimer -/

@[simp] theorem State.releaseTimer_swi (t : Fin 16) : (s.releaseTimer t).swi = s.swi := rfl
@[simp] theorem State.releaseTimer_evl (t : Fin 16) : (s.releaseTimer t).evl = s.evl := rfl
@[simp] theorem State.releaseTimer_ptb (t : Fin 16) : (s.releaseTimer t).ptb = s.ptb := rfl
@[simp] theorem State.releaseTimer_scu (t : Fin 16) : (s.releaseTimer t).scu = s.scu := rfl
@[simp] theorem State.releaseTimer_mst (t : Fin 16) : (s.releaseTimer t).mst = s.mst := rfl
@[simp] theorem State.releaseTimer_bdt (t : Fin 16) : (s.releaseTimer t).bdt = s.bdt := rfl
@[simp] theorem State.releaseTimer_lmc (t : Fin 16) : (s.releaseTimer t).lmc = s.lmc := rfl
@[simp] theorem State.releaseTimer_tmu (t : Fin 16) :
    (s.releaseTimer t).tmu = ⟨s.tmu.timers.set t.val none t.isLt, s.tmu.expiring.set t.val false t.isLt⟩ := rfl
@[simp] theorem State.releaseTimer_gpc (t : Fin 16) : (s.releaseTimer t).gpc = s.gpc := rfl
@[simp] theorem State.releaseTimer_glk (t : Fin 16) : (s.releaseTimer t).glk = s.glk := rfl
@[simp] theorem State.releaseTimer_ntu (t : Fin 16) : (s.releaseTimer t).ntu = s.ntu := rfl
@[simp] theorem State.releaseTimer_freeUse (t : Fin 16) : (s.releaseTimer t).freeUse = s.freeUse := rfl
@[simp] theorem State.releaseTimer_pending (t : Fin 16) : (s.releaseTimer t).pending = s.pending := rfl

/-! ### releaseHeld -/

@[simp] theorem State.releaseHeld_swi (t : Option (Fin 16)) : (s.releaseHeld t).swi = s.swi := by cases t <;> rfl
@[simp] theorem State.releaseHeld_evl (t : Option (Fin 16)) : (s.releaseHeld t).evl = s.evl := by cases t <;> rfl
@[simp] theorem State.releaseHeld_ptb (t : Option (Fin 16)) : (s.releaseHeld t).ptb = s.ptb := by cases t <;> rfl
@[simp] theorem State.releaseHeld_scu (t : Option (Fin 16)) : (s.releaseHeld t).scu = s.scu := by cases t <;> rfl
@[simp] theorem State.releaseHeld_mst (t : Option (Fin 16)) : (s.releaseHeld t).mst = s.mst := by cases t <;> rfl
@[simp] theorem State.releaseHeld_bdt (t : Option (Fin 16)) : (s.releaseHeld t).bdt = s.bdt := by cases t <;> rfl
@[simp] theorem State.releaseHeld_lmc (t : Option (Fin 16)) : (s.releaseHeld t).lmc = s.lmc := by cases t <;> rfl
@[simp] theorem State.releaseHeld_gpc (t : Option (Fin 16)) : (s.releaseHeld t).gpc = s.gpc := by cases t <;> rfl
@[simp] theorem State.releaseHeld_glk (t : Option (Fin 16)) : (s.releaseHeld t).glk = s.glk := by cases t <;> rfl
@[simp] theorem State.releaseHeld_ntu (t : Option (Fin 16)) : (s.releaseHeld t).ntu = s.ntu := by cases t <;> rfl
@[simp] theorem State.releaseHeld_freeUse (t : Option (Fin 16)) :
    (s.releaseHeld t).freeUse = s.freeUse := by cases t <;> rfl
@[simp] theorem State.releaseHeld_pending (t : Option (Fin 16)) :
    (s.releaseHeld t).pending = s.pending := by cases t <;> rfl

/-! ### modifyHeld -/

@[simp] theorem State.modifyHeld_swi (t : Option (Fin 16)) (f : Timer → Timer) :
    (s.modifyHeld t f).swi = s.swi := by cases t <;> rfl
@[simp] theorem State.modifyHeld_evl (t : Option (Fin 16)) (f : Timer → Timer) :
    (s.modifyHeld t f).evl = s.evl := by cases t <;> rfl
@[simp] theorem State.modifyHeld_ptb (t : Option (Fin 16)) (f : Timer → Timer) :
    (s.modifyHeld t f).ptb = s.ptb := by cases t <;> rfl
@[simp] theorem State.modifyHeld_scu (t : Option (Fin 16)) (f : Timer → Timer) :
    (s.modifyHeld t f).scu = s.scu := by cases t <;> rfl
@[simp] theorem State.modifyHeld_mst (t : Option (Fin 16)) (f : Timer → Timer) :
    (s.modifyHeld t f).mst = s.mst := by cases t <;> rfl
@[simp] theorem State.modifyHeld_bdt (t : Option (Fin 16)) (f : Timer → Timer) :
    (s.modifyHeld t f).bdt = s.bdt := by cases t <;> rfl
@[simp] theorem State.modifyHeld_lmc (t : Option (Fin 16)) (f : Timer → Timer) :
    (s.modifyHeld t f).lmc = s.lmc := by cases t <;> rfl
@[simp] theorem State.modifyHeld_gpc (t : Option (Fin 16)) (f : Timer → Timer) :
    (s.modifyHeld t f).gpc = s.gpc := by cases t <;> rfl
@[simp] theorem State.modifyHeld_glk (t : Option (Fin 16)) (f : Timer → Timer) :
    (s.modifyHeld t f).glk = s.glk := by cases t <;> rfl
@[simp] theorem State.modifyHeld_ntu (t : Option (Fin 16)) (f : Timer → Timer) :
    (s.modifyHeld t f).ntu = s.ntu := by cases t <;> rfl
@[simp] theorem State.modifyHeld_freeUse (t : Option (Fin 16)) (f : Timer → Timer) :
    (s.modifyHeld t f).freeUse = s.freeUse := by cases t <;> rfl
@[simp] theorem State.modifyHeld_pending (t : Option (Fin 16)) (f : Timer → Timer) :
    (s.modifyHeld t f).pending = s.pending := by cases t <;> rfl

/-! ### releaseBinding -/

@[simp] theorem State.releaseBinding_swi (b : Binding) :
    (s.releaseBinding b).swi = s.swi := by simp only [State.releaseBinding]
@[simp] theorem State.releaseBinding_evl (b : Binding) :
    (s.releaseBinding b).evl = s.evl := by simp only [State.releaseBinding]
@[simp] theorem State.releaseBinding_ptb (b : Binding) :
    (s.releaseBinding b).ptb = s.ptb := by simp only [State.releaseBinding]
@[simp] theorem State.releaseBinding_scu (b : Binding) :
    (s.releaseBinding b).scu = s.scu := by simp only [State.releaseBinding]
@[simp] theorem State.releaseBinding_mst (b : Binding) :
    (s.releaseBinding b).mst = s.mst := by simp only [State.releaseBinding]
@[simp] theorem State.releaseBinding_bdt (b : Binding) :
    (s.releaseBinding b).bdt = s.bdt := by simp only [State.releaseBinding]
@[simp] theorem State.releaseBinding_lmc (b : Binding) :
    (s.releaseBinding b).lmc = s.lmc := by simp only [State.releaseBinding]
@[simp] theorem State.releaseBinding_gpc (b : Binding) :
    (s.releaseBinding b).gpc = s.gpc := by simp only [State.releaseBinding]
@[simp] theorem State.releaseBinding_glk (b : Binding) :
    (s.releaseBinding b).glk = s.glk := by simp only [State.releaseBinding]
@[simp] theorem State.releaseBinding_ntu (b : Binding) :
    (s.releaseBinding b).ntu = s.ntu := by simp only [State.releaseBinding]
@[simp] theorem State.releaseBinding_freeUse (b : Binding) :
    (s.releaseBinding b).freeUse = s.freeUse := by simp only [State.releaseBinding]
@[simp] theorem State.releaseBinding_pending (b : Binding) :
    (s.releaseBinding b).pending = s.pending := by simp only [State.releaseBinding]

/-! ### releaseBound -/

@[simp] theorem State.releaseBound_swi : s.releaseBound.swi = s.swi := by simp only [State.releaseBound]
@[simp] theorem State.releaseBound_evl : s.releaseBound.evl = s.evl := by simp only [State.releaseBound]
@[simp] theorem State.releaseBound_ptb : s.releaseBound.ptb = s.ptb := by simp only [State.releaseBound]
@[simp] theorem State.releaseBound_scu : s.releaseBound.scu = s.scu := by simp only [State.releaseBound]
@[simp] theorem State.releaseBound_mst : s.releaseBound.mst = s.mst := by simp only [State.releaseBound]
@[simp] theorem State.releaseBound_bdt : s.releaseBound.bdt = s.bdt := by simp only [State.releaseBound]
@[simp] theorem State.releaseBound_lmc : s.releaseBound.lmc = s.lmc := by simp only [State.releaseBound]
@[simp] theorem State.releaseBound_gpc : s.releaseBound.gpc = s.gpc := by simp only [State.releaseBound]
@[simp] theorem State.releaseBound_glk : s.releaseBound.glk = s.glk := by simp only [State.releaseBound]
@[simp] theorem State.releaseBound_ntu : s.releaseBound.ntu = s.ntu := by simp only [State.releaseBound]
@[simp] theorem State.releaseBound_freeUse : s.releaseBound.freeUse = s.freeUse := by simp only [State.releaseBound]
@[simp] theorem State.releaseBound_pending : s.releaseBound.pending = s.pending := by simp only [State.releaseBound]

/-! ### tmuTick -/

@[simp] theorem State.tmuTick_swi : s.tmuTick.swi = s.swi := by simp only [State.tmuTick]
@[simp] theorem State.tmuTick_evl : s.tmuTick.evl = s.evl := by simp only [State.tmuTick]
@[simp] theorem State.tmuTick_ptb : s.tmuTick.ptb = s.ptb := by simp only [State.tmuTick]
@[simp] theorem State.tmuTick_scu : s.tmuTick.scu = s.scu := by simp only [State.tmuTick]
@[simp] theorem State.tmuTick_mst : s.tmuTick.mst = s.mst := by simp only [State.tmuTick]
@[simp] theorem State.tmuTick_bdt : s.tmuTick.bdt = s.bdt := by simp only [State.tmuTick]
@[simp] theorem State.tmuTick_lmc : s.tmuTick.lmc = s.lmc := by simp only [State.tmuTick]
@[simp] theorem State.tmuTick_gpc : s.tmuTick.gpc = s.gpc := by simp only [State.tmuTick]
@[simp] theorem State.tmuTick_glk : s.tmuTick.glk = s.glk := by simp only [State.tmuTick]
@[simp] theorem State.tmuTick_ntu : s.tmuTick.ntu = s.ntu := by simp only [State.tmuTick]
@[simp] theorem State.tmuTick_freeUse : s.tmuTick.freeUse = s.freeUse := by simp only [State.tmuTick]
@[simp] theorem State.tmuTick_pending : s.tmuTick.pending = s.pending := by simp only [State.tmuTick]

/-! ### modifyPlayer -/

@[simp] theorem State.modifyPlayer_swi (p : Nat) (f : Player → Player) :
    (s.modifyPlayer p f).swi = s.swi := by cases p <;> rfl
@[simp] theorem State.modifyPlayer_evl (p : Nat) (f : Player → Player) :
    (s.modifyPlayer p f).evl = s.evl := by cases p <;> rfl
@[simp] theorem State.modifyPlayer_scu (p : Nat) (f : Player → Player) :
    (s.modifyPlayer p f).scu = s.scu := by cases p <;> rfl
@[simp] theorem State.modifyPlayer_mst (p : Nat) (f : Player → Player) :
    (s.modifyPlayer p f).mst = s.mst := by cases p <;> rfl
@[simp] theorem State.modifyPlayer_bdt (p : Nat) (f : Player → Player) :
    (s.modifyPlayer p f).bdt = s.bdt := by cases p <;> rfl
@[simp] theorem State.modifyPlayer_lmc (p : Nat) (f : Player → Player) :
    (s.modifyPlayer p f).lmc = s.lmc := by cases p <;> rfl
@[simp] theorem State.modifyPlayer_tmu (p : Nat) (f : Player → Player) :
    (s.modifyPlayer p f).tmu = s.tmu := by cases p <;> rfl
@[simp] theorem State.modifyPlayer_gpc (p : Nat) (f : Player → Player) :
    (s.modifyPlayer p f).gpc = s.gpc := by cases p <;> rfl
@[simp] theorem State.modifyPlayer_glk (p : Nat) (f : Player → Player) :
    (s.modifyPlayer p f).glk = s.glk := by cases p <;> rfl
@[simp] theorem State.modifyPlayer_ntu (p : Nat) (f : Player → Player) :
    (s.modifyPlayer p f).ntu = s.ntu := by cases p <;> rfl
@[simp] theorem State.modifyPlayer_freeUse (p : Nat) (f : Player → Player) :
    (s.modifyPlayer p f).freeUse = s.freeUse := by cases p <;> rfl
@[simp] theorem State.modifyPlayer_pending (p : Nat) (f : Player → Player) :
    (s.modifyPlayer p f).pending = s.pending := by cases p <;> rfl

/-! ### setSlot -/

@[simp] theorem State.setSlot_swi (x : Fin 12) (c : Option Context) : (s.setSlot x c).swi = s.swi := rfl
@[simp] theorem State.setSlot_evl (x : Fin 12) (c : Option Context) : (s.setSlot x c).evl = s.evl := rfl
@[simp] theorem State.setSlot_ptb (x : Fin 12) (c : Option Context) : (s.setSlot x c).ptb = s.ptb := rfl
@[simp] theorem State.setSlot_scu (x : Fin 12) (c : Option Context) : (s.setSlot x c).scu = s.scu := rfl
@[simp] theorem State.setSlot_mst (x : Fin 12) (c : Option Context) :
    (s.setSlot x c).mst = { s.mst with slots := s.mst.slots.set x.val c x.isLt } := rfl
@[simp] theorem State.setSlot_bdt (x : Fin 12) (c : Option Context) : (s.setSlot x c).bdt = s.bdt := rfl
@[simp] theorem State.setSlot_lmc (x : Fin 12) (c : Option Context) : (s.setSlot x c).lmc = s.lmc := rfl
@[simp] theorem State.setSlot_tmu (x : Fin 12) (c : Option Context) : (s.setSlot x c).tmu = s.tmu := rfl
@[simp] theorem State.setSlot_gpc (x : Fin 12) (c : Option Context) : (s.setSlot x c).gpc = s.gpc := rfl
@[simp] theorem State.setSlot_glk (x : Fin 12) (c : Option Context) : (s.setSlot x c).glk = s.glk := rfl
@[simp] theorem State.setSlot_ntu (x : Fin 12) (c : Option Context) : (s.setSlot x c).ntu = s.ntu := rfl
@[simp] theorem State.setSlot_freeUse (x : Fin 12) (c : Option Context) : (s.setSlot x c).freeUse = s.freeUse := rfl
@[simp] theorem State.setSlot_pending (x : Fin 12) (c : Option Context) : (s.setSlot x c).pending = s.pending := rfl

/-! ### modifySlot -/

@[simp] theorem State.modifySlot_swi (x : Fin 12) (f : Context → Context) : (s.modifySlot x f).swi = s.swi := rfl
@[simp] theorem State.modifySlot_evl (x : Fin 12) (f : Context → Context) : (s.modifySlot x f).evl = s.evl := rfl
@[simp] theorem State.modifySlot_ptb (x : Fin 12) (f : Context → Context) : (s.modifySlot x f).ptb = s.ptb := rfl
@[simp] theorem State.modifySlot_scu (x : Fin 12) (f : Context → Context) : (s.modifySlot x f).scu = s.scu := rfl
@[simp] theorem State.modifySlot_mst (x : Fin 12) (f : Context → Context) :
    (s.modifySlot x f).mst = { s.mst with slots := s.mst.slots.set x.val ((s.slot? x).map f) x.isLt } := rfl
@[simp] theorem State.modifySlot_bdt (x : Fin 12) (f : Context → Context) : (s.modifySlot x f).bdt = s.bdt := rfl
@[simp] theorem State.modifySlot_lmc (x : Fin 12) (f : Context → Context) : (s.modifySlot x f).lmc = s.lmc := rfl
@[simp] theorem State.modifySlot_tmu (x : Fin 12) (f : Context → Context) : (s.modifySlot x f).tmu = s.tmu := rfl
@[simp] theorem State.modifySlot_gpc (x : Fin 12) (f : Context → Context) : (s.modifySlot x f).gpc = s.gpc := rfl
@[simp] theorem State.modifySlot_glk (x : Fin 12) (f : Context → Context) : (s.modifySlot x f).glk = s.glk := rfl
@[simp] theorem State.modifySlot_ntu (x : Fin 12) (f : Context → Context) : (s.modifySlot x f).ntu = s.ntu := rfl
@[simp] theorem State.modifySlot_freeUse (x : Fin 12) (f : Context → Context) :
    (s.modifySlot x f).freeUse = s.freeUse := rfl
@[simp] theorem State.modifySlot_pending (x : Fin 12) (f : Context → Context) :
    (s.modifySlot x f).pending = s.pending := rfl

/-! ### leaveLists -/

@[simp] theorem State.leaveLists_swi (x : Fin 12) : (s.leaveLists x).swi = s.swi := rfl
@[simp] theorem State.leaveLists_evl (x : Fin 12) : (s.leaveLists x).evl = s.evl := rfl
@[simp] theorem State.leaveLists_ptb (x : Fin 12) : (s.leaveLists x).ptb = s.ptb := rfl
@[simp] theorem State.leaveLists_scu (x : Fin 12) : (s.leaveLists x).scu = s.scu := rfl
@[simp] theorem State.leaveLists_mst (x : Fin 12) :
    (s.leaveLists x).mst = { s.mst with stack := s.mst.stack.erase x, pauseOrder := s.mst.pauseOrder.erase x } := rfl
@[simp] theorem State.leaveLists_bdt (x : Fin 12) : (s.leaveLists x).bdt = s.bdt := rfl
@[simp] theorem State.leaveLists_lmc (x : Fin 12) : (s.leaveLists x).lmc = s.lmc := rfl
@[simp] theorem State.leaveLists_tmu (x : Fin 12) : (s.leaveLists x).tmu = s.tmu := rfl
@[simp] theorem State.leaveLists_gpc (x : Fin 12) : (s.leaveLists x).gpc = s.gpc := rfl
@[simp] theorem State.leaveLists_glk (x : Fin 12) : (s.leaveLists x).glk = s.glk := rfl
@[simp] theorem State.leaveLists_ntu (x : Fin 12) : (s.leaveLists x).ntu = s.ntu := rfl
@[simp] theorem State.leaveLists_freeUse (x : Fin 12) : (s.leaveLists x).freeUse = s.freeUse := rfl
@[simp] theorem State.leaveLists_pending (x : Fin 12) : (s.leaveLists x).pending = s.pending := rfl

/-! ### clearSlots -/

@[simp] theorem State.clearSlots_swi : s.clearSlots.swi = s.swi := rfl
@[simp] theorem State.clearSlots_evl : s.clearSlots.evl = s.evl := rfl
@[simp] theorem State.clearSlots_ptb : s.clearSlots.ptb = s.ptb := rfl
@[simp] theorem State.clearSlots_scu : s.clearSlots.scu = s.scu := rfl
@[simp] theorem State.clearSlots_mst : s.clearSlots.mst = ⟨s.mst.templates, .replicate 12 none, [], [], []⟩ := rfl
@[simp] theorem State.clearSlots_bdt : s.clearSlots.bdt = s.bdt := rfl
@[simp] theorem State.clearSlots_lmc : s.clearSlots.lmc = s.lmc := rfl
@[simp] theorem State.clearSlots_tmu : s.clearSlots.tmu = s.tmu := rfl
@[simp] theorem State.clearSlots_gpc : s.clearSlots.gpc = s.gpc := rfl
@[simp] theorem State.clearSlots_glk : s.clearSlots.glk = s.glk := rfl
@[simp] theorem State.clearSlots_ntu : s.clearSlots.ntu = s.ntu := rfl
@[simp] theorem State.clearSlots_freeUse : s.clearSlots.freeUse = s.freeUse := rfl
@[simp] theorem State.clearSlots_pending : s.clearSlots.pending = s.pending := rfl

/-! ### modifyDevice -/

@[simp] theorem State.modifyDevice_swi (d : Fin 6) (f : Device → Device) : (s.modifyDevice d f).swi = s.swi := rfl
@[simp] theorem State.modifyDevice_evl (d : Fin 6) (f : Device → Device) : (s.modifyDevice d f).evl = s.evl := rfl
@[simp] theorem State.modifyDevice_ptb (d : Fin 6) (f : Device → Device) : (s.modifyDevice d f).ptb = s.ptb := rfl
@[simp] theorem State.modifyDevice_scu (d : Fin 6) (f : Device → Device) : (s.modifyDevice d f).scu = s.scu := rfl
@[simp] theorem State.modifyDevice_mst (d : Fin 6) (f : Device → Device) : (s.modifyDevice d f).mst = s.mst := rfl
@[simp] theorem State.modifyDevice_bdt (d : Fin 6) (f : Device → Device) :
    (s.modifyDevice d f).bdt = { s.bdt with devices := s.bdt.devices.set d.val (f (s.device d)) d.isLt } := rfl
@[simp] theorem State.modifyDevice_lmc (d : Fin 6) (f : Device → Device) : (s.modifyDevice d f).lmc = s.lmc := rfl
@[simp] theorem State.modifyDevice_tmu (d : Fin 6) (f : Device → Device) : (s.modifyDevice d f).tmu = s.tmu := rfl
@[simp] theorem State.modifyDevice_gpc (d : Fin 6) (f : Device → Device) : (s.modifyDevice d f).gpc = s.gpc := rfl
@[simp] theorem State.modifyDevice_glk (d : Fin 6) (f : Device → Device) : (s.modifyDevice d f).glk = s.glk := rfl
@[simp] theorem State.modifyDevice_ntu (d : Fin 6) (f : Device → Device) : (s.modifyDevice d f).ntu = s.ntu := rfl
@[simp] theorem State.modifyDevice_freeUse (d : Fin 6) (f : Device → Device) :
    (s.modifyDevice d f).freeUse = s.freeUse := rfl
@[simp] theorem State.modifyDevice_pending (d : Fin 6) (f : Device → Device) :
    (s.modifyDevice d f).pending = s.pending := rfl

/-! ### trackingFault -/

@[simp] theorem State.trackingFault_swi : s.trackingFault.swi = s.swi := rfl
@[simp] theorem State.trackingFault_evl : s.trackingFault.evl = s.evl := rfl
@[simp] theorem State.trackingFault_ptb : s.trackingFault.ptb = s.ptb := rfl
@[simp] theorem State.trackingFault_scu : s.trackingFault.scu = s.scu := rfl
@[simp] theorem State.trackingFault_mst : s.trackingFault.mst = s.mst := rfl
@[simp] theorem State.trackingFault_bdt : s.trackingFault.bdt = { s.bdt with tracking := .fault } := rfl
@[simp] theorem State.trackingFault_lmc : s.trackingFault.lmc = s.lmc := rfl
@[simp] theorem State.trackingFault_tmu : s.trackingFault.tmu = s.tmu := rfl
@[simp] theorem State.trackingFault_gpc : s.trackingFault.gpc = s.gpc := rfl
@[simp] theorem State.trackingFault_glk : s.trackingFault.glk = s.glk := rfl
@[simp] theorem State.trackingFault_ntu : s.trackingFault.ntu = s.ntu.raise .trackingFault := rfl
@[simp] theorem State.trackingFault_freeUse : s.trackingFault.freeUse = s.freeUse := rfl
@[simp] theorem State.trackingFault_pending : s.trackingFault.pending = s.pending := rfl

/-! ### bdtTick -/

@[simp] theorem State.bdtTick_swi : s.bdtTick.swi = s.swi := by simp only [State.bdtTick]
@[simp] theorem State.bdtTick_evl : s.bdtTick.evl = s.evl := by simp only [State.bdtTick]
@[simp] theorem State.bdtTick_ptb : s.bdtTick.ptb = s.ptb := by simp only [State.bdtTick]
@[simp] theorem State.bdtTick_scu : s.bdtTick.scu = s.scu := by simp only [State.bdtTick]
@[simp] theorem State.bdtTick_mst : s.bdtTick.mst = s.mst := by simp only [State.bdtTick]
@[simp] theorem State.bdtTick_lmc : s.bdtTick.lmc = s.lmc := by simp only [State.bdtTick]
@[simp] theorem State.bdtTick_tmu : s.bdtTick.tmu = s.tmu := by simp only [State.bdtTick]
@[simp] theorem State.bdtTick_gpc : s.bdtTick.gpc = s.gpc := by simp only [State.bdtTick]
@[simp] theorem State.bdtTick_glk : s.bdtTick.glk = s.glk := by simp only [State.bdtTick]
@[simp] theorem State.bdtTick_ntu : s.bdtTick.ntu = s.ntu := by simp only [State.bdtTick]
@[simp] theorem State.bdtTick_freeUse : s.bdtTick.freeUse = s.freeUse := by simp only [State.bdtTick]
@[simp] theorem State.bdtTick_pending : s.bdtTick.pending = s.pending := by simp only [State.bdtTick]

/-! ### setClaims -/

@[simp] theorem State.setClaims_swi (d : Fin 6) (l : List Nat) : (s.setClaims d l).swi = s.swi := rfl
@[simp] theorem State.setClaims_evl (d : Fin 6) (l : List Nat) : (s.setClaims d l).evl = s.evl := rfl
@[simp] theorem State.setClaims_ptb (d : Fin 6) (l : List Nat) : (s.setClaims d l).ptb = s.ptb := rfl
@[simp] theorem State.setClaims_scu (d : Fin 6) (l : List Nat) : (s.setClaims d l).scu = s.scu := rfl
@[simp] theorem State.setClaims_mst (d : Fin 6) (l : List Nat) : (s.setClaims d l).mst = s.mst := rfl
@[simp] theorem State.setClaims_bdt (d : Fin 6) (l : List Nat) : (s.setClaims d l).bdt = s.bdt := rfl
@[simp] theorem State.setClaims_lmc (d : Fin 6) (l : List Nat) :
    (s.setClaims d l).lmc = { s.lmc with claims := s.lmc.claims.set d.val l d.isLt } := rfl
@[simp] theorem State.setClaims_tmu (d : Fin 6) (l : List Nat) : (s.setClaims d l).tmu = s.tmu := rfl
@[simp] theorem State.setClaims_gpc (d : Fin 6) (l : List Nat) : (s.setClaims d l).gpc = s.gpc := rfl
@[simp] theorem State.setClaims_glk (d : Fin 6) (l : List Nat) : (s.setClaims d l).glk = s.glk := rfl
@[simp] theorem State.setClaims_ntu (d : Fin 6) (l : List Nat) : (s.setClaims d l).ntu = s.ntu := rfl
@[simp] theorem State.setClaims_freeUse (d : Fin 6) (l : List Nat) : (s.setClaims d l).freeUse = s.freeUse := rfl
@[simp] theorem State.setClaims_pending (d : Fin 6) (l : List Nat) : (s.setClaims d l).pending = s.pending := rfl

/-! ### clearClaims -/

@[simp] theorem State.clearClaims_swi : s.clearClaims.swi = s.swi := rfl
@[simp] theorem State.clearClaims_evl : s.clearClaims.evl = s.evl := rfl
@[simp] theorem State.clearClaims_ptb : s.clearClaims.ptb = s.ptb := rfl
@[simp] theorem State.clearClaims_scu : s.clearClaims.scu = s.scu := rfl
@[simp] theorem State.clearClaims_mst : s.clearClaims.mst = s.mst := rfl
@[simp] theorem State.clearClaims_bdt : s.clearClaims.bdt = s.bdt := rfl
@[simp] theorem State.clearClaims_lmc : s.clearClaims.lmc = { s.lmc with claims := .replicate 6 [] } := rfl
@[simp] theorem State.clearClaims_tmu : s.clearClaims.tmu = s.tmu := rfl
@[simp] theorem State.clearClaims_gpc : s.clearClaims.gpc = s.gpc := rfl
@[simp] theorem State.clearClaims_glk : s.clearClaims.glk = s.glk := rfl
@[simp] theorem State.clearClaims_ntu : s.clearClaims.ntu = s.ntu := rfl
@[simp] theorem State.clearClaims_freeUse : s.clearClaims.freeUse = s.freeUse := rfl
@[simp] theorem State.clearClaims_pending : s.clearClaims.pending = s.pending := rfl

/-! ### setGame -/

@[simp] theorem State.setGame_swi (g : GameState) : (s.setGame g).swi = s.swi := rfl
@[simp] theorem State.setGame_evl (g : GameState) : (s.setGame g).evl = s.evl := rfl
@[simp] theorem State.setGame_ptb (g : GameState) : (s.setGame g).ptb = s.ptb := rfl
@[simp] theorem State.setGame_scu (g : GameState) : (s.setGame g).scu = s.scu := rfl
@[simp] theorem State.setGame_mst (g : GameState) : (s.setGame g).mst = s.mst := rfl
@[simp] theorem State.setGame_bdt (g : GameState) : (s.setGame g).bdt = s.bdt := rfl
@[simp] theorem State.setGame_lmc (g : GameState) : (s.setGame g).lmc = s.lmc := rfl
@[simp] theorem State.setGame_tmu (g : GameState) : (s.setGame g).tmu = s.tmu := rfl
@[simp] theorem State.setGame_gpc (g : GameState) : (s.setGame g).gpc = { s.gpc with game := g } := rfl
@[simp] theorem State.setGame_glk (g : GameState) : (s.setGame g).glk = s.glk := rfl
@[simp] theorem State.setGame_ntu (g : GameState) : (s.setGame g).ntu = s.ntu := rfl
@[simp] theorem State.setGame_freeUse (g : GameState) : (s.setGame g).freeUse = s.freeUse := rfl
@[simp] theorem State.setGame_pending (g : GameState) : (s.setGame g).pending = s.pending := rfl

/-! ### setLine -/

@[simp] theorem State.setLine_swi (l : GameLine) (h : Bool) : (s.setLine l h).swi = s.swi := by cases l <;> rfl
@[simp] theorem State.setLine_evl (l : GameLine) (h : Bool) : (s.setLine l h).evl = s.evl := by cases l <;> rfl
@[simp] theorem State.setLine_ptb (l : GameLine) (h : Bool) : (s.setLine l h).ptb = s.ptb := by cases l <;> rfl
@[simp] theorem State.setLine_scu (l : GameLine) (h : Bool) : (s.setLine l h).scu = s.scu := by cases l <;> rfl
@[simp] theorem State.setLine_mst (l : GameLine) (h : Bool) : (s.setLine l h).mst = s.mst := by cases l <;> rfl
@[simp] theorem State.setLine_bdt (l : GameLine) (h : Bool) : (s.setLine l h).bdt = s.bdt := by cases l <;> rfl
@[simp] theorem State.setLine_lmc (l : GameLine) (h : Bool) : (s.setLine l h).lmc = s.lmc := by cases l <;> rfl
@[simp] theorem State.setLine_tmu (l : GameLine) (h : Bool) : (s.setLine l h).tmu = s.tmu := by cases l <;> rfl
@[simp] theorem State.setLine_glk (l : GameLine) (h : Bool) : (s.setLine l h).glk = s.glk := by cases l <;> rfl
@[simp] theorem State.setLine_ntu (l : GameLine) (h : Bool) : (s.setLine l h).ntu = s.ntu := by cases l <;> rfl
@[simp] theorem State.setLine_freeUse (l : GameLine) (h : Bool) :
    (s.setLine l h).freeUse = s.freeUse := by cases l <;> rfl
@[simp] theorem State.setLine_pending (l : GameLine) (h : Bool) :
    (s.setLine l h).pending = s.pending := by cases l <;> rfl

/-! ### setQueue -/

@[simp] theorem State.setQueue_swi (q : List Entry) : (s.setQueue q).swi = { s.swi with queue := q } := rfl
@[simp] theorem State.setQueue_evl (q : List Entry) : (s.setQueue q).evl = s.evl := rfl
@[simp] theorem State.setQueue_ptb (q : List Entry) : (s.setQueue q).ptb = s.ptb := rfl
@[simp] theorem State.setQueue_scu (q : List Entry) : (s.setQueue q).scu = s.scu := rfl
@[simp] theorem State.setQueue_mst (q : List Entry) : (s.setQueue q).mst = s.mst := rfl
@[simp] theorem State.setQueue_bdt (q : List Entry) : (s.setQueue q).bdt = s.bdt := rfl
@[simp] theorem State.setQueue_lmc (q : List Entry) : (s.setQueue q).lmc = s.lmc := rfl
@[simp] theorem State.setQueue_tmu (q : List Entry) : (s.setQueue q).tmu = s.tmu := rfl
@[simp] theorem State.setQueue_gpc (q : List Entry) : (s.setQueue q).gpc = s.gpc := rfl
@[simp] theorem State.setQueue_glk (q : List Entry) : (s.setQueue q).glk = s.glk := rfl
@[simp] theorem State.setQueue_ntu (q : List Entry) : (s.setQueue q).ntu = s.ntu := rfl
@[simp] theorem State.setQueue_freeUse (q : List Entry) : (s.setQueue q).freeUse = s.freeUse := rfl
@[simp] theorem State.setQueue_pending (q : List Entry) : (s.setQueue q).pending = s.pending := rfl

/-! ### setOverrun -/

@[simp] theorem State.setOverrun_swi : s.setOverrun.swi = { s.swi with overrun := true } := rfl
@[simp] theorem State.setOverrun_evl : s.setOverrun.evl = s.evl := rfl
@[simp] theorem State.setOverrun_ptb : s.setOverrun.ptb = s.ptb := rfl
@[simp] theorem State.setOverrun_scu : s.setOverrun.scu = s.scu := rfl
@[simp] theorem State.setOverrun_mst : s.setOverrun.mst = s.mst := rfl
@[simp] theorem State.setOverrun_bdt : s.setOverrun.bdt = s.bdt := rfl
@[simp] theorem State.setOverrun_lmc : s.setOverrun.lmc = s.lmc := rfl
@[simp] theorem State.setOverrun_tmu : s.setOverrun.tmu = s.tmu := rfl
@[simp] theorem State.setOverrun_gpc : s.setOverrun.gpc = s.gpc := rfl
@[simp] theorem State.setOverrun_glk : s.setOverrun.glk = s.glk := rfl
@[simp] theorem State.setOverrun_ntu : s.setOverrun.ntu = s.ntu := rfl
@[simp] theorem State.setOverrun_freeUse : s.setOverrun.freeUse = s.freeUse := rfl
@[simp] theorem State.setOverrun_pending : s.setOverrun.pending = s.pending := rfl

/-! ### takeHead -/

@[simp] theorem State.takeHead_swi (l : List Entry) :
    (s.takeHead l).swi = ⟨l, if l.length ≤ 23 then false else s.swi.overrun⟩ := rfl
@[simp] theorem State.takeHead_evl (l : List Entry) : (s.takeHead l).evl = s.evl := rfl
@[simp] theorem State.takeHead_ptb (l : List Entry) : (s.takeHead l).ptb = s.ptb := rfl
@[simp] theorem State.takeHead_scu (l : List Entry) : (s.takeHead l).scu = s.scu := rfl
@[simp] theorem State.takeHead_mst (l : List Entry) : (s.takeHead l).mst = s.mst := rfl
@[simp] theorem State.takeHead_bdt (l : List Entry) : (s.takeHead l).bdt = s.bdt := rfl
@[simp] theorem State.takeHead_lmc (l : List Entry) : (s.takeHead l).lmc = s.lmc := rfl
@[simp] theorem State.takeHead_tmu (l : List Entry) : (s.takeHead l).tmu = s.tmu := rfl
@[simp] theorem State.takeHead_gpc (l : List Entry) : (s.takeHead l).gpc = s.gpc := rfl
@[simp] theorem State.takeHead_glk (l : List Entry) : (s.takeHead l).glk = s.glk := rfl
@[simp] theorem State.takeHead_ntu (l : List Entry) : (s.takeHead l).ntu = s.ntu := rfl
@[simp] theorem State.takeHead_freeUse (l : List Entry) : (s.takeHead l).freeUse = s.freeUse := rfl
@[simp] theorem State.takeHead_pending (l : List Entry) : (s.takeHead l).pending = s.pending := rfl

/-! ### setCounterDef -/

@[simp] theorem State.setCounterDef_swi (c : CounterRef) (d : CounterDef) :
    (s.setCounterDef c d).swi = s.swi := by cases c <;> rfl
@[simp] theorem State.setCounterDef_evl (c : CounterRef) (d : CounterDef) :
    (s.setCounterDef c d).evl = s.evl := by cases c <;> rfl
@[simp] theorem State.setCounterDef_scu (c : CounterRef) (d : CounterDef) :
    (s.setCounterDef c d).scu = s.scu := by cases c <;> rfl
@[simp] theorem State.setCounterDef_mst (c : CounterRef) (d : CounterDef) :
    (s.setCounterDef c d).mst = s.mst := by cases c <;> rfl
@[simp] theorem State.setCounterDef_bdt (c : CounterRef) (d : CounterDef) :
    (s.setCounterDef c d).bdt = s.bdt := by cases c <;> rfl
@[simp] theorem State.setCounterDef_lmc (c : CounterRef) (d : CounterDef) :
    (s.setCounterDef c d).lmc = s.lmc := by cases c <;> rfl
@[simp] theorem State.setCounterDef_tmu (c : CounterRef) (d : CounterDef) :
    (s.setCounterDef c d).tmu = s.tmu := by cases c <;> rfl
@[simp] theorem State.setCounterDef_gpc (c : CounterRef) (d : CounterDef) :
    (s.setCounterDef c d).gpc = s.gpc := by cases c <;> rfl
@[simp] theorem State.setCounterDef_glk (c : CounterRef) (d : CounterDef) :
    (s.setCounterDef c d).glk = s.glk := by cases c <;> rfl
@[simp] theorem State.setCounterDef_ntu (c : CounterRef) (d : CounterDef) :
    (s.setCounterDef c d).ntu = s.ntu := by cases c <;> rfl
@[simp] theorem State.setCounterDef_freeUse (c : CounterRef) (d : CounterDef) :
    (s.setCounterDef c d).freeUse = s.freeUse := by cases c <;> rfl
@[simp] theorem State.setCounterDef_pending (c : CounterRef) (d : CounterDef) :
    (s.setCounterDef c d).pending = s.pending := by cases c <;> rfl

/-! ### disableCounter -/

@[simp] theorem State.disableCounter_swi (c : CounterRef) : (s.disableCounter c).swi = s.swi := by cases c <;> rfl
@[simp] theorem State.disableCounter_evl (c : CounterRef) : (s.disableCounter c).evl = s.evl := by cases c <;> rfl
@[simp] theorem State.disableCounter_scu (c : CounterRef) : (s.disableCounter c).scu = s.scu := by cases c <;> rfl
@[simp] theorem State.disableCounter_mst (c : CounterRef) : (s.disableCounter c).mst = s.mst := by cases c <;> rfl
@[simp] theorem State.disableCounter_bdt (c : CounterRef) : (s.disableCounter c).bdt = s.bdt := by cases c <;> rfl
@[simp] theorem State.disableCounter_lmc (c : CounterRef) : (s.disableCounter c).lmc = s.lmc := by cases c <;> rfl
@[simp] theorem State.disableCounter_tmu (c : CounterRef) : (s.disableCounter c).tmu = s.tmu := by cases c <;> rfl
@[simp] theorem State.disableCounter_gpc (c : CounterRef) : (s.disableCounter c).gpc = s.gpc := by cases c <;> rfl
@[simp] theorem State.disableCounter_glk (c : CounterRef) : (s.disableCounter c).glk = s.glk := by cases c <;> rfl
@[simp] theorem State.disableCounter_ntu (c : CounterRef) : (s.disableCounter c).ntu = s.ntu := by cases c <;> rfl
@[simp] theorem State.disableCounter_freeUse (c : CounterRef) :
    (s.disableCounter c).freeUse = s.freeUse := by cases c <;> rfl
@[simp] theorem State.disableCounter_pending (c : CounterRef) :
    (s.disableCounter c).pending = s.pending := by cases c <;> rfl

/-! ### restoreTargets -/

@[simp] theorem State.restoreTargets_swi : s.restoreTargets.swi = s.swi := by simp only [State.restoreTargets]
@[simp] theorem State.restoreTargets_evl : s.restoreTargets.evl = s.evl := by simp only [State.restoreTargets]
@[simp] theorem State.restoreTargets_scu : s.restoreTargets.scu = s.scu := by simp only [State.restoreTargets]
@[simp] theorem State.restoreTargets_mst : s.restoreTargets.mst = s.mst := by simp only [State.restoreTargets]
@[simp] theorem State.restoreTargets_bdt : s.restoreTargets.bdt = s.bdt := by simp only [State.restoreTargets]
@[simp] theorem State.restoreTargets_lmc : s.restoreTargets.lmc = s.lmc := by simp only [State.restoreTargets]
@[simp] theorem State.restoreTargets_tmu : s.restoreTargets.tmu = s.tmu := by simp only [State.restoreTargets]
@[simp] theorem State.restoreTargets_gpc : s.restoreTargets.gpc = s.gpc := by simp only [State.restoreTargets]
@[simp] theorem State.restoreTargets_glk : s.restoreTargets.glk = s.glk := by simp only [State.restoreTargets]
@[simp] theorem State.restoreTargets_ntu : s.restoreTargets.ntu = s.ntu := by simp only [State.restoreTargets]
@[simp] theorem State.restoreTargets_freeUse :
    s.restoreTargets.freeUse = s.freeUse := by simp only [State.restoreTargets]
@[simp] theorem State.restoreTargets_pending :
    s.restoreTargets.pending = s.pending := by simp only [State.restoreTargets]

/-! ### clearCommon -/

@[simp] theorem State.clearCommon_swi : s.clearCommon.swi = s.swi := rfl
@[simp] theorem State.clearCommon_evl : s.clearCommon.evl = s.evl := rfl
@[simp] theorem State.clearCommon_ptb : s.clearCommon.ptb = { s.ptb with commonValues := .replicate 32 0 } := rfl
@[simp] theorem State.clearCommon_scu : s.clearCommon.scu = s.scu := rfl
@[simp] theorem State.clearCommon_mst : s.clearCommon.mst = s.mst := rfl
@[simp] theorem State.clearCommon_bdt : s.clearCommon.bdt = s.bdt := rfl
@[simp] theorem State.clearCommon_lmc : s.clearCommon.lmc = s.lmc := rfl
@[simp] theorem State.clearCommon_tmu : s.clearCommon.tmu = s.tmu := rfl
@[simp] theorem State.clearCommon_gpc : s.clearCommon.gpc = s.gpc := rfl
@[simp] theorem State.clearCommon_glk : s.clearCommon.glk = s.glk := rfl
@[simp] theorem State.clearCommon_ntu : s.clearCommon.ntu = s.ntu := rfl
@[simp] theorem State.clearCommon_freeUse : s.clearCommon.freeUse = s.freeUse := rfl
@[simp] theorem State.clearCommon_pending : s.clearCommon.pending = s.pending := rfl

/-! ### clearGameRecord -/

@[simp] theorem State.clearGameRecord_swi : s.clearGameRecord.swi = s.swi := rfl
@[simp] theorem State.clearGameRecord_evl : s.clearGameRecord.evl = s.evl := rfl
@[simp] theorem State.clearGameRecord_ptb :
    s.clearGameRecord.ptb = { s.ptb with players := [], commonValues := .replicate 32 0 } := rfl
@[simp] theorem State.clearGameRecord_scu : s.clearGameRecord.scu = s.scu := rfl
@[simp] theorem State.clearGameRecord_mst : s.clearGameRecord.mst = s.mst := rfl
@[simp] theorem State.clearGameRecord_bdt : s.clearGameRecord.bdt = s.bdt := rfl
@[simp] theorem State.clearGameRecord_lmc : s.clearGameRecord.lmc = s.lmc := rfl
@[simp] theorem State.clearGameRecord_tmu : s.clearGameRecord.tmu = s.tmu := rfl
@[simp] theorem State.clearGameRecord_gpc :
    s.clearGameRecord.gpc = { s.gpc with game := .idle, current := none, ballNumber := 0, tilted := false } := rfl
@[simp] theorem State.clearGameRecord_glk : s.clearGameRecord.glk = s.glk := rfl
@[simp] theorem State.clearGameRecord_ntu : s.clearGameRecord.ntu = s.ntu := rfl
@[simp] theorem State.clearGameRecord_freeUse : s.clearGameRecord.freeUse = s.freeUse := rfl
@[simp] theorem State.clearGameRecord_pending : s.clearGameRecord.pending = s.pending := rfl

/-! ### agreeRules -/

@[simp] theorem State.agreeRules_swi : s.agreeRules.swi = s.swi := by simp only [State.agreeRules]
@[simp] theorem State.agreeRules_ptb : s.agreeRules.ptb = s.ptb := by simp only [State.agreeRules]
@[simp] theorem State.agreeRules_scu : s.agreeRules.scu = s.scu := by simp only [State.agreeRules]
@[simp] theorem State.agreeRules_mst : s.agreeRules.mst = s.mst := by simp only [State.agreeRules]
@[simp] theorem State.agreeRules_bdt : s.agreeRules.bdt = s.bdt := by simp only [State.agreeRules]
@[simp] theorem State.agreeRules_lmc : s.agreeRules.lmc = s.lmc := by simp only [State.agreeRules]
@[simp] theorem State.agreeRules_tmu : s.agreeRules.tmu = s.tmu := by simp only [State.agreeRules]
@[simp] theorem State.agreeRules_gpc : s.agreeRules.gpc = s.gpc := by simp only [State.agreeRules]
@[simp] theorem State.agreeRules_glk : s.agreeRules.glk = s.glk := by simp only [State.agreeRules]
@[simp] theorem State.agreeRules_ntu : s.agreeRules.ntu = s.ntu := by simp only [State.agreeRules]
@[simp] theorem State.agreeRules_freeUse : s.agreeRules.freeUse = s.freeUse := by simp only [State.agreeRules]
@[simp] theorem State.agreeRules_pending : s.agreeRules.pending = s.pending := by simp only [State.agreeRules]

end Sys2Proof.Machine
end

