-- ==== Sys2Proof/Laws/Frames.lean ====
section
/-! SUPPORT. What each shared operation leaves alone: one lemma per operation, naming every block it does not touch. -/

namespace Sys2Proof.Machine

variable (s : State)

/-- What every step of a fold keeps, the fold keeps. -/
theorem foldl_keeps {σ α : Type} (P : σ → Prop) (f : σ → α → σ) (h : ∀ s a, P s → P (f s a)) (l : List α) (s : σ)
    (hs : P s) : P (l.foldl f s) := by
  induction l generalizing s with
  | nil => exact hs
  | cons a l ih => exact ih _ (h _ _ hs)

/-! ### Ops -/

@[simp] theorem State.giveExtraBall_frame (p : Nat) :
    (s.giveExtraBall p).swi = s.swi ∧ (s.giveExtraBall p).evl = s.evl ∧ (s.giveExtraBall p).scu = s.scu ∧
    (s.giveExtraBall p).mst = s.mst ∧ (s.giveExtraBall p).bdt = s.bdt ∧ (s.giveExtraBall p).lmc = s.lmc ∧
    (s.giveExtraBall p).tmu = s.tmu ∧ (s.giveExtraBall p).gpc = s.gpc ∧ (s.giveExtraBall p).glk = s.glk ∧
    (s.giveExtraBall p).freeUse = s.freeUse ∧ (s.giveExtraBall p).pending = s.pending := by
  generalize h : s.giveExtraBall p = r
  unfold State.giveExtraBall at h; try dsimp only at h
  (repeat' split at h) <;> subst h <;> simp

@[simp] theorem State.giveBoundTimer_frame (b : Binding) (n : Nat) :
    (s.giveBoundTimer b n).1.swi = s.swi ∧ (s.giveBoundTimer b n).1.evl = s.evl ∧
    (s.giveBoundTimer b n).1.ptb = s.ptb ∧ (s.giveBoundTimer b n).1.scu = s.scu ∧
    (s.giveBoundTimer b n).1.mst = s.mst ∧ (s.giveBoundTimer b n).1.bdt = s.bdt ∧
    (s.giveBoundTimer b n).1.lmc = s.lmc ∧ (s.giveBoundTimer b n).1.gpc = s.gpc ∧
    (s.giveBoundTimer b n).1.glk = s.glk ∧ (s.giveBoundTimer b n).1.ntu = s.ntu ∧
    (s.giveBoundTimer b n).1.freeUse = s.freeUse ∧ (s.giveBoundTimer b n).1.pending = s.pending := by
  generalize h : s.giveBoundTimer b n = r
  unfold State.giveBoundTimer at h; try dsimp only at h
  (repeat' split at h) <;> subst h <;> simp

/-! ### Scores -/

@[simp] theorem State.crossThreshold_frame (p : Nat) (i : Fin 8) (t : Threshold) :
    (s.crossThreshold p i t).swi = s.swi ∧ (s.crossThreshold p i t).evl = s.evl ∧
    (s.crossThreshold p i t).scu = s.scu ∧ (s.crossThreshold p i t).mst = s.mst ∧
    (s.crossThreshold p i t).bdt = s.bdt ∧ (s.crossThreshold p i t).lmc = s.lmc ∧
    (s.crossThreshold p i t).tmu = s.tmu ∧ (s.crossThreshold p i t).gpc = s.gpc ∧
    (s.crossThreshold p i t).glk = s.glk ∧ (s.crossThreshold p i t).freeUse = s.freeUse ∧
    (s.crossThreshold p i t).pending = s.pending := by
  generalize h : s.crossThreshold p i t = r
  unfold State.crossThreshold at h; try dsimp only at h
  (repeat' split at h) <;> subst h <;> simp

@[simp] theorem State.checkThreshold_frame (p old new : Nat) (i : Fin 8) :
    (s.checkThreshold p old new i).swi = s.swi ∧ (s.checkThreshold p old new i).evl = s.evl ∧
    (s.checkThreshold p old new i).scu = s.scu ∧ (s.checkThreshold p old new i).mst = s.mst ∧
    (s.checkThreshold p old new i).bdt = s.bdt ∧ (s.checkThreshold p old new i).lmc = s.lmc ∧
    (s.checkThreshold p old new i).tmu = s.tmu ∧ (s.checkThreshold p old new i).gpc = s.gpc ∧
    (s.checkThreshold p old new i).glk = s.glk ∧ (s.checkThreshold p old new i).freeUse = s.freeUse ∧
    (s.checkThreshold p old new i).pending = s.pending := by
  generalize h : s.checkThreshold p old new i = r
  unfold State.checkThreshold at h; try dsimp only at h
  (repeat' split at h) <;> subst h <;> simp

@[simp] theorem State.thresholdCheck_frame (p old new : Nat) :
    (s.thresholdCheck p old new).swi = s.swi ∧ (s.thresholdCheck p old new).evl = s.evl ∧
    (s.thresholdCheck p old new).scu = s.scu ∧ (s.thresholdCheck p old new).mst = s.mst ∧
    (s.thresholdCheck p old new).bdt = s.bdt ∧ (s.thresholdCheck p old new).lmc = s.lmc ∧
    (s.thresholdCheck p old new).tmu = s.tmu ∧ (s.thresholdCheck p old new).gpc = s.gpc ∧
    (s.thresholdCheck p old new).glk = s.glk ∧ (s.thresholdCheck p old new).freeUse = s.freeUse ∧
    (s.thresholdCheck p old new).pending = s.pending := by
  unfold State.thresholdCheck; exact foldl_keeps (fun t : State => t.swi = s.swi ∧ t.evl = s.evl ∧ t.scu = s.scu ∧ t.mst = s.mst ∧ t.bdt = s.bdt ∧ t.lmc = s.lmc ∧ t.tmu = s.tmu ∧ t.gpc = s.gpc ∧ t.glk = s.glk ∧ t.freeUse = s.freeUse ∧ t.pending = s.pending) _
    (fun _ _ h => by simpa using h) _ _ (by simp)

@[simp] theorem State.addTotal_frame (x : Fin 12) (n : Nat) :
    (s.addTotal x n).swi = s.swi ∧ (s.addTotal x n).evl = s.evl ∧ (s.addTotal x n).ptb = s.ptb ∧
    (s.addTotal x n).scu = s.scu ∧ (s.addTotal x n).bdt = s.bdt ∧ (s.addTotal x n).lmc = s.lmc ∧
    (s.addTotal x n).tmu = s.tmu ∧ (s.addTotal x n).gpc = s.gpc ∧ (s.addTotal x n).glk = s.glk ∧
    (s.addTotal x n).ntu = s.ntu ∧ (s.addTotal x n).freeUse = s.freeUse ∧ (s.addTotal x n).pending = s.pending := by
  generalize h : s.addTotal x n = r
  unfold State.addTotal at h; try dsimp only at h
  (repeat' split at h) <;> subst h <;> simp

@[simp] theorem State.addPayer_frame (x : Option (Fin 12)) (n : Nat) :
    (s.addPayer x n).swi = s.swi ∧ (s.addPayer x n).evl = s.evl ∧ (s.addPayer x n).ptb = s.ptb ∧
    (s.addPayer x n).scu = s.scu ∧ (s.addPayer x n).bdt = s.bdt ∧ (s.addPayer x n).lmc = s.lmc ∧
    (s.addPayer x n).tmu = s.tmu ∧ (s.addPayer x n).gpc = s.gpc ∧ (s.addPayer x n).glk = s.glk ∧
    (s.addPayer x n).ntu = s.ntu ∧ (s.addPayer x n).freeUse = s.freeUse ∧ (s.addPayer x n).pending = s.pending := by
  generalize h : s.addPayer x n = r
  unfold State.addPayer at h; try dsimp only at h
  (repeat' split at h) <;> subst h <;> simp

@[simp] theorem State.limitCheck_frame (p : Nat) (r : Player) (n : Nat) :
    (s.limitCheck p r n).swi = s.swi ∧ (s.limitCheck p r n).evl = s.evl ∧ (s.limitCheck p r n).scu = s.scu ∧
    (s.limitCheck p r n).mst = s.mst ∧ (s.limitCheck p r n).bdt = s.bdt ∧ (s.limitCheck p r n).lmc = s.lmc ∧
    (s.limitCheck p r n).tmu = s.tmu ∧ (s.limitCheck p r n).gpc = s.gpc ∧ (s.limitCheck p r n).glk = s.glk ∧
    (s.limitCheck p r n).freeUse = s.freeUse ∧ (s.limitCheck p r n).pending = s.pending := by
  generalize h : s.limitCheck p r n = r
  unfold State.limitCheck at h; try dsimp only at h
  (repeat' split at h) <;> subst h <;> simp

@[simp] theorem State.credit_frame (p n : Nat) (x : Option (Fin 12)) :
    (s.credit p n x).swi = s.swi ∧ (s.credit p n x).evl = s.evl ∧ (s.credit p n x).scu = s.scu ∧
    (s.credit p n x).bdt = s.bdt ∧ (s.credit p n x).lmc = s.lmc ∧ (s.credit p n x).tmu = s.tmu ∧
    (s.credit p n x).gpc = s.gpc ∧ (s.credit p n x).glk = s.glk ∧ (s.credit p n x).freeUse = s.freeUse ∧
    (s.credit p n x).pending = s.pending := by
  generalize h : s.credit p n x = r
  unfold State.credit at h; try dsimp only at h
  (repeat' split at h) <;> subst h <;> simp

@[simp] theorem State.subtractScore_frame (p n : Nat) :
    (s.subtractScore p n).swi = s.swi ∧ (s.subtractScore p n).evl = s.evl ∧ (s.subtractScore p n).scu = s.scu ∧
    (s.subtractScore p n).mst = s.mst ∧ (s.subtractScore p n).bdt = s.bdt ∧ (s.subtractScore p n).lmc = s.lmc ∧
    (s.subtractScore p n).tmu = s.tmu ∧ (s.subtractScore p n).gpc = s.gpc ∧ (s.subtractScore p n).glk = s.glk ∧
    (s.subtractScore p n).ntu = s.ntu ∧ (s.subtractScore p n).freeUse = s.freeUse ∧
    (s.subtractScore p n).pending = s.pending := by
  simp [State.subtractScore]

@[simp] theorem State.addBonus_frame (p n : Nat) :
    (s.addBonus p n).swi = s.swi ∧ (s.addBonus p n).evl = s.evl ∧ (s.addBonus p n).scu = s.scu ∧
    (s.addBonus p n).mst = s.mst ∧ (s.addBonus p n).bdt = s.bdt ∧ (s.addBonus p n).lmc = s.lmc ∧
    (s.addBonus p n).tmu = s.tmu ∧ (s.addBonus p n).gpc = s.gpc ∧ (s.addBonus p n).glk = s.glk ∧
    (s.addBonus p n).ntu = s.ntu ∧ (s.addBonus p n).freeUse = s.freeUse ∧ (s.addBonus p n).pending = s.pending := by
  simp [State.addBonus]

@[simp] theorem State.raiseBonusMult_frame (p n : Nat) :
    (s.raiseBonusMult p n).swi = s.swi ∧ (s.raiseBonusMult p n).evl = s.evl ∧ (s.raiseBonusMult p n).scu = s.scu ∧
    (s.raiseBonusMult p n).mst = s.mst ∧ (s.raiseBonusMult p n).bdt = s.bdt ∧ (s.raiseBonusMult p n).lmc = s.lmc ∧
    (s.raiseBonusMult p n).tmu = s.tmu ∧ (s.raiseBonusMult p n).gpc = s.gpc ∧ (s.raiseBonusMult p n).glk = s.glk ∧
    (s.raiseBonusMult p n).ntu = s.ntu ∧ (s.raiseBonusMult p n).freeUse = s.freeUse ∧
    (s.raiseBonusMult p n).pending = s.pending := by
  simp [State.raiseBonusMult]

@[simp] theorem State.bonusCredit_frame (p : Nat) :
    (s.bonusCredit p).swi = s.swi ∧ (s.bonusCredit p).evl = s.evl ∧ (s.bonusCredit p).scu = s.scu ∧
    (s.bonusCredit p).bdt = s.bdt ∧ (s.bonusCredit p).lmc = s.lmc ∧ (s.bonusCredit p).tmu = s.tmu ∧
    (s.bonusCredit p).gpc = s.gpc ∧ (s.bonusCredit p).glk = s.glk ∧ (s.bonusCredit p).freeUse = s.freeUse ∧
    (s.bonusCredit p).pending = s.pending := by
  generalize h : s.bonusCredit p = r
  unfold State.bonusCredit at h; try dsimp only at h
  (repeat' split at h) <;> subst h <;> simp

/-! ### Modes -/

@[simp] theorem State.enterRunning_frame (x : Fin 12) :
    (s.enterRunning x).swi = s.swi ∧ (s.enterRunning x).evl = s.evl ∧ (s.enterRunning x).ptb = s.ptb ∧
    (s.enterRunning x).scu = s.scu ∧ (s.enterRunning x).bdt = s.bdt ∧ (s.enterRunning x).lmc = s.lmc ∧
    (s.enterRunning x).gpc = s.gpc ∧ (s.enterRunning x).glk = s.glk ∧ (s.enterRunning x).ntu = s.ntu ∧
    (s.enterRunning x).freeUse = s.freeUse ∧ (s.enterRunning x).pending = s.pending := by
  simp [State.enterRunning]

@[simp] theorem State.enterPaused_frame (x : Fin 12) :
    (s.enterPaused x).swi = s.swi ∧ (s.enterPaused x).evl = s.evl ∧ (s.enterPaused x).ptb = s.ptb ∧
    (s.enterPaused x).scu = s.scu ∧ (s.enterPaused x).bdt = s.bdt ∧ (s.enterPaused x).lmc = s.lmc ∧
    (s.enterPaused x).gpc = s.gpc ∧ (s.enterPaused x).glk = s.glk ∧ (s.enterPaused x).ntu = s.ntu ∧
    (s.enterPaused x).freeUse = s.freeUse ∧ (s.enterPaused x).pending = s.pending := by
  simp [State.enterPaused]

@[simp] theorem State.returnPaused_frame (p : Nat) (g : Fin 8) :
    (s.returnPaused p g).swi = s.swi ∧ (s.returnPaused p g).evl = s.evl ∧ (s.returnPaused p g).ptb = s.ptb ∧
    (s.returnPaused p g).scu = s.scu ∧ (s.returnPaused p g).bdt = s.bdt ∧ (s.returnPaused p g).lmc = s.lmc ∧
    (s.returnPaused p g).gpc = s.gpc ∧ (s.returnPaused p g).glk = s.glk ∧ (s.returnPaused p g).ntu = s.ntu ∧
    (s.returnPaused p g).freeUse = s.freeUse ∧ (s.returnPaused p g).pending = s.pending := by
  generalize h : s.returnPaused p g = r
  unfold State.returnPaused at h; try dsimp only at h
  (repeat' split at h) <;> subst h <;> simp

@[simp] theorem State.enterEnded_frame (x : Fin 12) (r : EndReason) (n : Nat) :
    (s.enterEnded x r n).swi = s.swi ∧ (s.enterEnded x r n).evl = s.evl ∧ (s.enterEnded x r n).ptb = s.ptb ∧
    (s.enterEnded x r n).scu = s.scu ∧ (s.enterEnded x r n).bdt = s.bdt ∧ (s.enterEnded x r n).lmc = s.lmc ∧
    (s.enterEnded x r n).tmu = s.tmu ∧ (s.enterEnded x r n).gpc = s.gpc ∧ (s.enterEnded x r n).glk = s.glk ∧
    (s.enterEnded x r n).freeUse = s.freeUse ∧ (s.enterEnded x r n).pending = s.pending := by
  simp [State.enterEnded]

@[simp] theorem State.endContext_frame (x : Fin 12) (r : EndReason) (b : Bool) :
    (s.endContext x r b).swi = s.swi ∧ (s.endContext x r b).evl = s.evl ∧ (s.endContext x r b).ptb = s.ptb ∧
    (s.endContext x r b).scu = s.scu ∧ (s.endContext x r b).bdt = s.bdt ∧ (s.endContext x r b).lmc = s.lmc ∧
    (s.endContext x r b).gpc = s.gpc ∧ (s.endContext x r b).glk = s.glk ∧
    (s.endContext x r b).freeUse = s.freeUse ∧ (s.endContext x r b).pending = s.pending := by
  generalize h : s.endContext x r b = r
  unfold State.endContext at h; try dsimp only at h
  (repeat' split at h) <;> subst h <;> simp

@[simp] theorem State.endAll_frame (w : State → Fin 12 → Bool) (r : EndReason) :
    (s.endAll w r).swi = s.swi ∧ (s.endAll w r).evl = s.evl ∧ (s.endAll w r).ptb = s.ptb ∧
    (s.endAll w r).scu = s.scu ∧ (s.endAll w r).bdt = s.bdt ∧ (s.endAll w r).lmc = s.lmc ∧
    (s.endAll w r).gpc = s.gpc ∧ (s.endAll w r).glk = s.glk ∧ (s.endAll w r).freeUse = s.freeUse ∧
    (s.endAll w r).pending = s.pending := by
  unfold State.endAll; exact foldl_keeps (fun t : State => t.swi = s.swi ∧ t.evl = s.evl ∧ t.ptb = s.ptb ∧ t.scu = s.scu ∧ t.bdt = s.bdt ∧ t.lmc = s.lmc ∧ t.gpc = s.gpc ∧ t.glk = s.glk ∧ t.freeUse = s.freeUse ∧ t.pending = s.pending) _
    (fun _ _ h => by split <;> simpa using h) _ _ (by simp)

@[simp] theorem State.takeTimer_frame (x : Fin 12) (tm : Template) (t : Option (Fin 16)) (n : Nat) :
    (s.takeTimer x tm t n).swi = s.swi ∧ (s.takeTimer x tm t n).evl = s.evl ∧ (s.takeTimer x tm t n).ptb = s.ptb ∧
    (s.takeTimer x tm t n).scu = s.scu ∧ (s.takeTimer x tm t n).bdt = s.bdt ∧ (s.takeTimer x tm t n).lmc = s.lmc ∧
    (s.takeTimer x tm t n).gpc = s.gpc ∧ (s.takeTimer x tm t n).glk = s.glk ∧ (s.takeTimer x tm t n).ntu = s.ntu ∧
    (s.takeTimer x tm t n).freeUse = s.freeUse ∧ (s.takeTimer x tm t n).pending = s.pending := by
  generalize h : s.takeTimer x tm t n = r
  unfold State.takeTimer at h; try dsimp only at h
  (repeat' split at h) <;> subst h <;> simp

@[simp] theorem State.resumeByStart_frame (x : Fin 12) (c : Context) (tm : Template) :
    (s.resumeByStart x c tm).1.swi = s.swi ∧ (s.resumeByStart x c tm).1.evl = s.evl ∧
    (s.resumeByStart x c tm).1.ptb = s.ptb ∧ (s.resumeByStart x c tm).1.scu = s.scu ∧
    (s.resumeByStart x c tm).1.bdt = s.bdt ∧ (s.resumeByStart x c tm).1.lmc = s.lmc ∧
    (s.resumeByStart x c tm).1.gpc = s.gpc ∧ (s.resumeByStart x c tm).1.glk = s.glk ∧
    (s.resumeByStart x c tm).1.freeUse = s.freeUse ∧ (s.resumeByStart x c tm).1.pending = s.pending := by
  generalize h : s.resumeByStart x c tm = r
  unfold State.resumeByStart at h; try dsimp only at h
  (repeat' split at h) <;> subst h <;> simp

@[simp] theorem State.startStanding_frame (x : Fin 12) (c : Context) (tm : Template) :
    (s.startStanding x c tm).1.swi = s.swi ∧ (s.startStanding x c tm).1.evl = s.evl ∧
    (s.startStanding x c tm).1.ptb = s.ptb ∧ (s.startStanding x c tm).1.scu = s.scu ∧
    (s.startStanding x c tm).1.bdt = s.bdt ∧ (s.startStanding x c tm).1.lmc = s.lmc ∧
    (s.startStanding x c tm).1.gpc = s.gpc ∧ (s.startStanding x c tm).1.glk = s.glk ∧
    (s.startStanding x c tm).1.freeUse = s.freeUse ∧ (s.startStanding x c tm).1.pending = s.pending := by
  generalize h : s.startStanding x c tm = r
  unfold State.startStanding at h; try dsimp only at h
  (repeat' split at h) <;> subst h <;> simp

@[simp] theorem State.setUp_frame (x : Fin 12) (u : Option (Fin 16)) (t : Fin 32) (tm : Template) :
    (s.setUp x u t tm).swi = s.swi ∧ (s.setUp x u t tm).evl = s.evl ∧ (s.setUp x u t tm).ptb = s.ptb ∧
    (s.setUp x u t tm).scu = s.scu ∧ (s.setUp x u t tm).bdt = s.bdt ∧ (s.setUp x u t tm).lmc = s.lmc ∧
    (s.setUp x u t tm).gpc = s.gpc ∧ (s.setUp x u t tm).glk = s.glk ∧ (s.setUp x u t tm).freeUse = s.freeUse ∧
    (s.setUp x u t tm).pending = s.pending := by
  simp [State.setUp]

@[simp] theorem State.startNew_frame (t : Fin 32) (tm : Template) :
    (s.startNew t tm).1.swi = s.swi ∧ (s.startNew t tm).1.evl = s.evl ∧ (s.startNew t tm).1.ptb = s.ptb ∧
    (s.startNew t tm).1.scu = s.scu ∧ (s.startNew t tm).1.bdt = s.bdt ∧ (s.startNew t tm).1.lmc = s.lmc ∧
    (s.startNew t tm).1.gpc = s.gpc ∧ (s.startNew t tm).1.glk = s.glk ∧ (s.startNew t tm).1.freeUse = s.freeUse ∧
    (s.startNew t tm).1.pending = s.pending := by
  generalize h : s.startNew t tm = r
  unfold State.startNew at h; try dsimp only at h
  (repeat' split at h) <;> subst h <;> simp

@[simp] theorem State.startMode_frame (t : Fin 32) :
    (s.startMode t).1.swi = s.swi ∧ (s.startMode t).1.evl = s.evl ∧ (s.startMode t).1.ptb = s.ptb ∧
    (s.startMode t).1.scu = s.scu ∧ (s.startMode t).1.bdt = s.bdt ∧ (s.startMode t).1.lmc = s.lmc ∧
    (s.startMode t).1.gpc = s.gpc ∧ (s.startMode t).1.glk = s.glk ∧ (s.startMode t).1.freeUse = s.freeUse ∧
    (s.startMode t).1.pending = s.pending := by
  generalize h : s.startMode t = r
  unfold State.startMode at h; try dsimp only at h
  (repeat' split at h) <;> subst h <;> simp

@[simp] theorem State.autoStart_frame (t : Fin 32) :
    (s.autoStart t).swi = s.swi ∧ (s.autoStart t).evl = s.evl ∧ (s.autoStart t).ptb = s.ptb ∧
    (s.autoStart t).scu = s.scu ∧ (s.autoStart t).bdt = s.bdt ∧ (s.autoStart t).lmc = s.lmc ∧
    (s.autoStart t).gpc = s.gpc ∧ (s.autoStart t).glk = s.glk ∧ (s.autoStart t).freeUse = s.freeUse ∧
    (s.autoStart t).pending = s.pending := by
  have h := s.startMode_frame t
  unfold State.autoStart; split <;> simp_all

@[simp] theorem State.startNext_frame (t : Option (Fin 32)) :
    (s.startNext t).swi = s.swi ∧ (s.startNext t).evl = s.evl ∧ (s.startNext t).ptb = s.ptb ∧
    (s.startNext t).scu = s.scu ∧ (s.startNext t).bdt = s.bdt ∧ (s.startNext t).lmc = s.lmc ∧
    (s.startNext t).gpc = s.gpc ∧ (s.startNext t).glk = s.glk ∧ (s.startNext t).freeUse = s.freeUse ∧
    (s.startNext t).pending = s.pending := by
  generalize h : s.startNext t = r
  unfold State.startNext at h; try dsimp only at h
  (repeat' split at h) <;> subst h <;> simp

@[simp] theorem State.payContext_frame (x : Fin 12) (c : Context) (tm : Template) (w k : Nat) :
    (s.payContext x c tm w k).swi = s.swi ∧ (s.payContext x c tm w k).evl = s.evl ∧
    (s.payContext x c tm w k).scu = s.scu ∧ (s.payContext x c tm w k).bdt = s.bdt ∧
    (s.payContext x c tm w k).lmc = s.lmc ∧ (s.payContext x c tm w k).tmu = s.tmu ∧
    (s.payContext x c tm w k).gpc = s.gpc ∧ (s.payContext x c tm w k).glk = s.glk ∧
    (s.payContext x c tm w k).freeUse = s.freeUse ∧ (s.payContext x c tm w k).pending = s.pending := by
  simp [State.payContext]

@[simp] theorem State.complete_frame (x : Fin 12) (c : Context) (tm : Template) (f : ShotFields) :
    (s.complete x c tm f).swi = s.swi ∧ (s.complete x c tm f).evl = s.evl ∧ (s.complete x c tm f).scu = s.scu ∧
    (s.complete x c tm f).bdt = s.bdt ∧ (s.complete x c tm f).lmc = s.lmc ∧ (s.complete x c tm f).gpc = s.gpc ∧
    (s.complete x c tm f).glk = s.glk ∧ (s.complete x c tm f).freeUse = s.freeUse ∧
    (s.complete x c tm f).pending = s.pending := by
  simp [State.complete]

@[simp] theorem State.claimShot_frame (x : Fin 12) (c : Context) (tm : Template) (f : ShotFields) (k : Nat) :
    (s.claimShot x c tm f k).swi = s.swi ∧ (s.claimShot x c tm f k).evl = s.evl ∧
    (s.claimShot x c tm f k).scu = s.scu ∧ (s.claimShot x c tm f k).bdt = s.bdt ∧
    (s.claimShot x c tm f k).lmc = s.lmc ∧ (s.claimShot x c tm f k).gpc = s.gpc ∧
    (s.claimShot x c tm f k).glk = s.glk ∧ (s.claimShot x c tm f k).freeUse = s.freeUse ∧
    (s.claimShot x c tm f k).pending = s.pending := by
  generalize h : s.claimShot x c tm f k = r
  unfold State.claimShot at h; try dsimp only at h
  (repeat' split at h) <;> subst h <;> simp

@[simp] theorem State.collect_frame (x : Fin 12) (c : Context) (tm : Template) (k : Nat) :
    (s.collect x c tm k).swi = s.swi ∧ (s.collect x c tm k).evl = s.evl ∧ (s.collect x c tm k).scu = s.scu ∧
    (s.collect x c tm k).bdt = s.bdt ∧ (s.collect x c tm k).lmc = s.lmc ∧ (s.collect x c tm k).gpc = s.gpc ∧
    (s.collect x c tm k).glk = s.glk ∧ (s.collect x c tm k).freeUse = s.freeUse ∧
    (s.collect x c tm k).pending = s.pending := by
  simp [State.collect]

@[simp] theorem State.claimHit_frame (x : Fin 12) (k : Nat) :
    (s.claimHit x k).1.swi = s.swi ∧ (s.claimHit x k).1.evl = s.evl ∧ (s.claimHit x k).1.scu = s.scu ∧
    (s.claimHit x k).1.bdt = s.bdt ∧ (s.claimHit x k).1.lmc = s.lmc ∧ (s.claimHit x k).1.gpc = s.gpc ∧
    (s.claimHit x k).1.glk = s.glk ∧ (s.claimHit x k).1.freeUse = s.freeUse ∧
    (s.claimHit x k).1.pending = s.pending := by
  generalize h : s.claimHit x k = r
  unfold State.claimHit at h; try dsimp only at h
  (repeat' split at h) <;> subst h <;> simp

@[simp] theorem State.walk_frame (g : Fin 16) (k : Nat) (a l : List (Fin 12)) :
    (s.walk g k a l).1.swi = s.swi ∧ (s.walk g k a l).1.evl = s.evl ∧ (s.walk g k a l).1.scu = s.scu ∧
    (s.walk g k a l).1.bdt = s.bdt ∧ (s.walk g k a l).1.lmc = s.lmc ∧ (s.walk g k a l).1.gpc = s.gpc ∧
    (s.walk g k a l).1.glk = s.glk ∧ (s.walk g k a l).1.freeUse = s.freeUse ∧
    (s.walk g k a l).1.pending = s.pending := by
  induction l generalizing s a with
  | nil => simp [State.walk]
  | cons x l ih => unfold State.walk; (repeat' split) <;> simp [ih]

@[simp] theorem State.contextTimeout_frame (x : Fin 12) :
    (s.contextTimeout x).swi = s.swi ∧ (s.contextTimeout x).evl = s.evl ∧ (s.contextTimeout x).ptb = s.ptb ∧
    (s.contextTimeout x).scu = s.scu ∧ (s.contextTimeout x).bdt = s.bdt ∧ (s.contextTimeout x).lmc = s.lmc ∧
    (s.contextTimeout x).gpc = s.gpc ∧ (s.contextTimeout x).glk = s.glk ∧
    (s.contextTimeout x).freeUse = s.freeUse ∧ (s.contextTimeout x).pending = s.pending := by
  generalize h : s.contextTimeout x = r
  unfold State.contextTimeout at h; try dsimp only at h
  (repeat' split at h) <;> subst h <;> simp

@[simp] theorem State.hurryExpiry_frame (x : Fin 12) (u : Fin 16) :
    (s.hurryExpiry x u).swi = s.swi ∧ (s.hurryExpiry x u).evl = s.evl ∧ (s.hurryExpiry x u).ptb = s.ptb ∧
    (s.hurryExpiry x u).scu = s.scu ∧ (s.hurryExpiry x u).bdt = s.bdt ∧ (s.hurryExpiry x u).lmc = s.lmc ∧
    (s.hurryExpiry x u).gpc = s.gpc ∧ (s.hurryExpiry x u).glk = s.glk ∧ (s.hurryExpiry x u).freeUse = s.freeUse ∧
    (s.hurryExpiry x u).pending = s.pending := by
  generalize h : s.hurryExpiry x u = r
  unfold State.hurryExpiry at h; try dsimp only at h
  (repeat' split at h) <;> subst h <;> simp

@[simp] theorem State.park_frame (x : Fin 12) :
    (s.park x).swi = s.swi ∧ (s.park x).evl = s.evl ∧ (s.park x).ptb = s.ptb ∧ (s.park x).scu = s.scu ∧
    (s.park x).bdt = s.bdt ∧ (s.park x).lmc = s.lmc ∧ (s.park x).gpc = s.gpc ∧ (s.park x).glk = s.glk ∧
    (s.park x).ntu = s.ntu ∧ (s.park x).freeUse = s.freeUse ∧ (s.park x).pending = s.pending := by
  generalize h : s.park x = r
  unfold State.park at h; try dsimp only at h
  (repeat' split at h) <;> subst h <;> simp

@[simp] theorem State.parkOrEnd_frame (x : Fin 12) :
    (s.parkOrEnd x).swi = s.swi ∧ (s.parkOrEnd x).evl = s.evl ∧ (s.parkOrEnd x).ptb = s.ptb ∧
    (s.parkOrEnd x).scu = s.scu ∧ (s.parkOrEnd x).bdt = s.bdt ∧ (s.parkOrEnd x).lmc = s.lmc ∧
    (s.parkOrEnd x).gpc = s.gpc ∧ (s.parkOrEnd x).glk = s.glk ∧ (s.parkOrEnd x).freeUse = s.freeUse ∧
    (s.parkOrEnd x).pending = s.pending := by
  generalize h : s.parkOrEnd x = r
  unfold State.parkOrEnd at h; try dsimp only at h
  (repeat' split at h) <;> subst h <;> simp

@[simp] theorem State.parkAll_frame :
    s.parkAll.swi = s.swi ∧ s.parkAll.evl = s.evl ∧ s.parkAll.ptb = s.ptb ∧ s.parkAll.scu = s.scu ∧
    s.parkAll.bdt = s.bdt ∧ s.parkAll.lmc = s.lmc ∧ s.parkAll.gpc = s.gpc ∧ s.parkAll.glk = s.glk ∧
    s.parkAll.freeUse = s.freeUse ∧ s.parkAll.pending = s.pending := by
  unfold State.parkAll; exact foldl_keeps (fun t : State => t.swi = s.swi ∧ t.evl = s.evl ∧ t.ptb = s.ptb ∧ t.scu = s.scu ∧ t.bdt = s.bdt ∧ t.lmc = s.lmc ∧ t.gpc = s.gpc ∧ t.glk = s.glk ∧ t.freeUse = s.freeUse ∧ t.pending = s.pending) _
    (fun _ _ h => by split <;> simpa using h) _ _ (by simp)

@[simp] theorem State.resumeOne_frame (g : List (Fin 8)) (x : Fin 12) :
    (s.resumeOne g x).1.swi = s.swi ∧ (s.resumeOne g x).1.evl = s.evl ∧ (s.resumeOne g x).1.ptb = s.ptb ∧
    (s.resumeOne g x).1.scu = s.scu ∧ (s.resumeOne g x).1.bdt = s.bdt ∧ (s.resumeOne g x).1.lmc = s.lmc ∧
    (s.resumeOne g x).1.gpc = s.gpc ∧ (s.resumeOne g x).1.glk = s.glk ∧ (s.resumeOne g x).1.freeUse = s.freeUse ∧
    (s.resumeOne g x).1.pending = s.pending := by
  generalize h : s.resumeOne g x = r
  unfold State.resumeOne at h; try dsimp only at h
  (repeat' split at h) <;> subst h <;> simp

@[simp] theorem State.resumeAll_frame (p : Nat) :
    (s.resumeAll p).swi = s.swi ∧ (s.resumeAll p).evl = s.evl ∧ (s.resumeAll p).ptb = s.ptb ∧
    (s.resumeAll p).scu = s.scu ∧ (s.resumeAll p).bdt = s.bdt ∧ (s.resumeAll p).lmc = s.lmc ∧
    (s.resumeAll p).gpc = s.gpc ∧ (s.resumeAll p).glk = s.glk ∧ (s.resumeAll p).freeUse = s.freeUse ∧
    (s.resumeAll p).pending = s.pending := by
  unfold State.resumeAll; exact foldl_keeps (fun t : State × List (Fin 8) => t.1.swi = s.swi ∧ t.1.evl = s.evl ∧ t.1.ptb = s.ptb ∧ t.1.scu = s.scu ∧ t.1.bdt = s.bdt ∧ t.1.lmc = s.lmc ∧ t.1.gpc = s.gpc ∧ t.1.glk = s.glk ∧ t.1.freeUse = s.freeUse ∧ t.1.pending = s.pending) _
    (fun _ _ h => by simpa using h) _ _ (by simp)

@[simp] theorem State.endMbOnly_frame :
    s.endMbOnly.swi = s.swi ∧ s.endMbOnly.evl = s.evl ∧ s.endMbOnly.ptb = s.ptb ∧ s.endMbOnly.scu = s.scu ∧
    s.endMbOnly.bdt = s.bdt ∧ s.endMbOnly.lmc = s.lmc ∧ s.endMbOnly.gpc = s.gpc ∧ s.endMbOnly.glk = s.glk ∧
    s.endMbOnly.pending = s.pending := by
  simp only [State.endMbOnly]
  exact foldl_keeps (fun t : State => t.swi = s.swi ∧ t.evl = s.evl ∧ t.ptb = s.ptb ∧ t.scu = s.scu ∧ t.bdt = s.bdt ∧ t.lmc = s.lmc ∧ t.gpc = s.gpc ∧ t.glk = s.glk ∧ t.pending = s.pending) _
    (fun _ _ h => by simpa using h) _ _ (by simp)

/-! ### Ejects -/

@[simp] theorem State.requestEject_frame (d : Fin 6) (n : Nat) :
    (s.requestEject d n).1.swi = s.swi ∧ (s.requestEject d n).1.evl = s.evl ∧ (s.requestEject d n).1.ptb = s.ptb ∧
    (s.requestEject d n).1.scu = s.scu ∧ (s.requestEject d n).1.mst = s.mst ∧ (s.requestEject d n).1.lmc = s.lmc ∧
    (s.requestEject d n).1.tmu = s.tmu ∧ (s.requestEject d n).1.gpc = s.gpc ∧ (s.requestEject d n).1.glk = s.glk ∧
    (s.requestEject d n).1.freeUse = s.freeUse ∧ (s.requestEject d n).1.pending = s.pending := by
  generalize h : s.requestEject d n = r
  unfold State.requestEject at h; try dsimp only at h
  (repeat' split at h) <;> subst h <;> simp

@[simp] theorem State.giveBallSave_frame (n : Nat) :
    (s.giveBallSave n).swi = s.swi ∧ (s.giveBallSave n).evl = s.evl ∧ (s.giveBallSave n).ptb = s.ptb ∧
    (s.giveBallSave n).scu = s.scu ∧ (s.giveBallSave n).mst = s.mst ∧ (s.giveBallSave n).bdt = s.bdt ∧
    (s.giveBallSave n).lmc = s.lmc ∧ (s.giveBallSave n).gpc = s.gpc ∧ (s.giveBallSave n).glk = s.glk ∧
    (s.giveBallSave n).ntu = s.ntu ∧ (s.giveBallSave n).freeUse = s.freeUse ∧
    (s.giveBallSave n).pending = s.pending := by
  simp [State.giveBallSave]

@[simp] theorem State.lightLock_frame :
    s.lightLock.swi = s.swi ∧ s.lightLock.evl = s.evl ∧ s.lightLock.scu = s.scu ∧ s.lightLock.mst = s.mst ∧
    s.lightLock.bdt = s.bdt ∧ s.lightLock.lmc = s.lmc ∧ s.lightLock.tmu = s.tmu ∧ s.lightLock.gpc = s.gpc ∧
    s.lightLock.glk = s.glk ∧ s.lightLock.freeUse = s.freeUse ∧ s.lightLock.pending = s.pending := by
  generalize h : s.lightLock = r
  unfold State.lightLock at h; try dsimp only at h
  (repeat' split at h) <;> subst h <;> simp

/-! ### Counters -/

@[simp] theorem State.setCounterValue_frame (c : CounterRef) (p v : Nat) :
    (s.setCounterValue c p v).swi = s.swi ∧ (s.setCounterValue c p v).evl = s.evl ∧
    (s.setCounterValue c p v).scu = s.scu ∧ (s.setCounterValue c p v).mst = s.mst ∧
    (s.setCounterValue c p v).bdt = s.bdt ∧ (s.setCounterValue c p v).lmc = s.lmc ∧
    (s.setCounterValue c p v).tmu = s.tmu ∧ (s.setCounterValue c p v).gpc = s.gpc ∧
    (s.setCounterValue c p v).glk = s.glk ∧ (s.setCounterValue c p v).ntu = s.ntu ∧
    (s.setCounterValue c p v).freeUse = s.freeUse ∧ (s.setCounterValue c p v).pending = s.pending := by
  cases c <;> simp [State.setCounterValue]

@[simp] theorem State.counterAction_frame (a : CounterAction) :
    (s.counterAction a).swi = s.swi ∧ (s.counterAction a).evl = s.evl ∧ (s.counterAction a).scu = s.scu ∧
    (s.counterAction a).bdt = s.bdt ∧ (s.counterAction a).lmc = s.lmc ∧ (s.counterAction a).gpc = s.gpc ∧
    (s.counterAction a).glk = s.glk ∧ (s.counterAction a).freeUse = s.freeUse ∧
    (s.counterAction a).pending = s.pending := by
  cases a <;> simp [State.counterAction]

@[simp] theorem State.counterActions_frame (a : CounterAction) (n : Nat) :
    (s.counterActions a n).swi = s.swi ∧ (s.counterActions a n).evl = s.evl ∧ (s.counterActions a n).scu = s.scu ∧
    (s.counterActions a n).bdt = s.bdt ∧ (s.counterActions a n).lmc = s.lmc ∧ (s.counterActions a n).gpc = s.gpc ∧
    (s.counterActions a n).glk = s.glk ∧ (s.counterActions a n).freeUse = s.freeUse ∧
    (s.counterActions a n).pending = s.pending := by
  induction n generalizing s with
  | zero => simp [State.counterActions]
  | succ n ih => simp [State.counterActions, ih]

@[simp] theorem State.advanceCounter_frame (c : CounterRef) (k : Nat) :
    (s.advanceCounter c k).swi = s.swi ∧ (s.advanceCounter c k).evl = s.evl ∧ (s.advanceCounter c k).scu = s.scu ∧
    (s.advanceCounter c k).bdt = s.bdt ∧ (s.advanceCounter c k).lmc = s.lmc ∧ (s.advanceCounter c k).gpc = s.gpc ∧
    (s.advanceCounter c k).glk = s.glk ∧ (s.advanceCounter c k).freeUse = s.freeUse ∧
    (s.advanceCounter c k).pending = s.pending := by
  generalize h : s.advanceCounter c k = r
  unfold State.advanceCounter at h; try dsimp only at h
  (repeat' split at h) <;> subst h <;> simp

/-! ### BallEnd -/

@[simp] theorem State.stopMultiball_frame :
    s.stopMultiball.swi = s.swi ∧ s.stopMultiball.evl = s.evl ∧ s.stopMultiball.ptb = s.ptb ∧
    s.stopMultiball.scu = s.scu ∧ s.stopMultiball.mst = s.mst ∧ s.stopMultiball.bdt = s.bdt ∧
    s.stopMultiball.tmu = s.tmu ∧ s.stopMultiball.gpc = s.gpc ∧ s.stopMultiball.glk = s.glk ∧
    s.stopMultiball.freeUse = s.freeUse ∧ s.stopMultiball.pending = s.pending := by
  generalize h : s.stopMultiball = r
  unfold State.stopMultiball at h; try dsimp only at h
  (repeat' split at h) <;> subst h <;> simp

@[simp] theorem State.endMultiball_frame :
    s.endMultiball.swi = s.swi ∧ s.endMultiball.evl = s.evl ∧ s.endMultiball.ptb = s.ptb ∧
    s.endMultiball.scu = s.scu ∧ s.endMultiball.bdt = s.bdt ∧ s.endMultiball.gpc = s.gpc ∧
    s.endMultiball.glk = s.glk ∧ s.endMultiball.pending = s.pending := by
  simp [State.endMultiball]

@[simp] theorem State.multiballCheck_frame :
    s.multiballCheck.swi = s.swi ∧ s.multiballCheck.evl = s.evl ∧ s.multiballCheck.ptb = s.ptb ∧
    s.multiballCheck.scu = s.scu ∧ s.multiballCheck.bdt = s.bdt ∧ s.multiballCheck.gpc = s.gpc ∧
    s.multiballCheck.glk = s.glk ∧ s.multiballCheck.pending = s.pending := by
  generalize h : s.multiballCheck = r
  unfold State.multiballCheck at h; try dsimp only at h
  (repeat' split at h) <;> subst h <;> simp

@[simp] theorem State.ballEnd_frame :
    s.ballEnd.swi = s.swi ∧ s.ballEnd.evl = s.evl ∧ s.ballEnd.scu = s.scu ∧ s.ballEnd.bdt = s.bdt ∧
    s.ballEnd.glk = s.glk ∧ s.ballEnd.pending = s.pending := by
  generalize h : s.ballEnd = r
  unfold State.ballEnd at h; try dsimp only at h
  (repeat' split at h) <;> subst h <;> simp

@[simp] theorem State.ballEndCheck_frame :
    s.ballEndCheck.swi = s.swi ∧ s.ballEndCheck.evl = s.evl ∧ s.ballEndCheck.scu = s.scu ∧
    s.ballEndCheck.bdt = s.bdt ∧ s.ballEndCheck.glk = s.glk ∧ s.ballEndCheck.pending = s.pending := by
  generalize h : s.ballEndCheck = r
  unfold State.ballEndCheck at h; try dsimp only at h
  (repeat' split at h) <;> subst h <;> simp

@[simp] theorem State.ballEndCheckInPlay_frame :
    s.ballEndCheckInPlay.swi = s.swi ∧ s.ballEndCheckInPlay.evl = s.evl ∧ s.ballEndCheckInPlay.scu = s.scu ∧
    s.ballEndCheckInPlay.bdt = s.bdt ∧ s.ballEndCheckInPlay.glk = s.glk ∧ s.ballEndCheckInPlay.pending = s.pending := by
  generalize h : s.ballEndCheckInPlay = r
  unfold State.ballEndCheckInPlay at h; try dsimp only at h
  (repeat' split at h) <;> subst h <;> simp

/-! ### Locks -/

@[simp] theorem State.loseLock_frame (d : Fin 6) (o : Nat) :
    (s.loseLock d o).swi = s.swi ∧ (s.loseLock d o).evl = s.evl ∧ (s.loseLock d o).scu = s.scu ∧
    (s.loseLock d o).mst = s.mst ∧ (s.loseLock d o).bdt = s.bdt ∧ (s.loseLock d o).lmc = s.lmc ∧
    (s.loseLock d o).tmu = s.tmu ∧ (s.loseLock d o).gpc = s.gpc ∧ (s.loseLock d o).glk = s.glk ∧
    (s.loseLock d o).freeUse = s.freeUse ∧ (s.loseLock d o).pending = s.pending := by
  generalize h : s.loseLock d o = r
  unfold State.loseLock at h; try dsimp only at h
  (repeat' split at h) <;> subst h <;> simp

@[simp] theorem State.completeStart_frame (p : Nat) :
    (s.completeStart p).swi = s.swi ∧ (s.completeStart p).evl = s.evl ∧ (s.completeStart p).scu = s.scu ∧
    (s.completeStart p).mst = s.mst ∧ (s.completeStart p).bdt = s.bdt ∧ (s.completeStart p).gpc = s.gpc ∧
    (s.completeStart p).glk = s.glk ∧ (s.completeStart p).freeUse = s.freeUse ∧
    (s.completeStart p).pending = s.pending := by
  generalize h : s.completeStart p = r
  unfold State.completeStart at h; try dsimp only at h
  (repeat' split at h) <;> subst h <;> simp

@[simp] theorem State.kickOut_frame (d : Fin 6) :
    (s.kickOut d).swi = s.swi ∧ (s.kickOut d).evl = s.evl ∧ (s.kickOut d).ptb = s.ptb ∧ (s.kickOut d).scu = s.scu ∧
    (s.kickOut d).mst = s.mst ∧ (s.kickOut d).lmc = s.lmc ∧ (s.kickOut d).tmu = s.tmu ∧ (s.kickOut d).gpc = s.gpc ∧
    (s.kickOut d).glk = s.glk ∧ (s.kickOut d).freeUse = s.freeUse ∧ (s.kickOut d).pending = s.pending := by
  simp [State.kickOut]

@[simp] theorem State.claimCheck_frame (d : Fin 6) :
    (s.claimCheck d).swi = s.swi ∧ (s.claimCheck d).evl = s.evl ∧ (s.claimCheck d).scu = s.scu ∧
    (s.claimCheck d).mst = s.mst ∧ (s.claimCheck d).bdt = s.bdt ∧ (s.claimCheck d).tmu = s.tmu ∧
    (s.claimCheck d).gpc = s.gpc ∧ (s.claimCheck d).glk = s.glk ∧ (s.claimCheck d).freeUse = s.freeUse ∧
    (s.claimCheck d).pending = s.pending := by
  generalize h : s.claimCheck d = r
  unfold State.claimCheck at h; try dsimp only at h
  (repeat' split at h) <;> subst h <;> simp

@[simp] theorem State.collectJackpot_frame (b : Bool) :
    (s.collectJackpot b).swi = s.swi ∧ (s.collectJackpot b).evl = s.evl ∧ (s.collectJackpot b).scu = s.scu ∧
    (s.collectJackpot b).bdt = s.bdt ∧ (s.collectJackpot b).tmu = s.tmu ∧ (s.collectJackpot b).gpc = s.gpc ∧
    (s.collectJackpot b).glk = s.glk ∧ (s.collectJackpot b).freeUse = s.freeUse ∧
    (s.collectJackpot b).pending = s.pending := by
  generalize h : s.collectJackpot b = r
  unfold State.collectJackpot at h; try dsimp only at h
  (repeat' split at h) <;> subst h <;> simp

/-! ### Devices -/

@[simp] theorem State.accountEntry_frame (d : Fin 6) :
    (s.accountEntry d).1.swi = s.swi ∧ (s.accountEntry d).1.evl = s.evl ∧ (s.accountEntry d).1.ptb = s.ptb ∧
    (s.accountEntry d).1.scu = s.scu ∧ (s.accountEntry d).1.mst = s.mst ∧ (s.accountEntry d).1.lmc = s.lmc ∧
    (s.accountEntry d).1.tmu = s.tmu ∧ (s.accountEntry d).1.gpc = s.gpc ∧ (s.accountEntry d).1.glk = s.glk ∧
    (s.accountEntry d).1.freeUse = s.freeUse ∧ (s.accountEntry d).1.pending = s.pending := by
  generalize h : s.accountEntry d = r
  unfold State.accountEntry at h; try dsimp only at h
  (repeat' split at h) <;> subst h <;> simp

@[simp] theorem State.saveStep_frame :
    s.saveStep.swi = s.swi ∧ s.saveStep.evl = s.evl ∧ s.saveStep.ptb = s.ptb ∧ s.saveStep.scu = s.scu ∧
    s.saveStep.mst = s.mst ∧ s.saveStep.lmc = s.lmc ∧ s.saveStep.gpc = s.gpc ∧ s.saveStep.glk = s.glk ∧
    s.saveStep.freeUse = s.freeUse ∧ s.saveStep.pending = s.pending := by
  generalize h : s.saveStep = r
  unfold State.saveStep at h; try dsimp only at h
  (repeat' split at h) <;> subst h <;> simp

@[simp] theorem State.confirmEject_frame (d : Fin 6) :
    (s.confirmEject d).swi = s.swi ∧ (s.confirmEject d).evl = s.evl ∧ (s.confirmEject d).ptb = s.ptb ∧
    (s.confirmEject d).scu = s.scu ∧ (s.confirmEject d).mst = s.mst ∧ (s.confirmEject d).lmc = s.lmc ∧
    (s.confirmEject d).tmu = s.tmu ∧ (s.confirmEject d).gpc = s.gpc ∧ (s.confirmEject d).glk = s.glk ∧
    (s.confirmEject d).freeUse = s.freeUse ∧ (s.confirmEject d).pending = s.pending := by
  generalize h : s.confirmEject d = r
  unfold State.confirmEject at h; try dsimp only at h
  (repeat' split at h) <;> subst h <;> simp

@[simp] theorem State.cancelLaunch_frame :
    s.cancelLaunch.swi = s.swi ∧ s.cancelLaunch.evl = s.evl ∧ s.cancelLaunch.ptb = s.ptb ∧
    s.cancelLaunch.scu = s.scu ∧ s.cancelLaunch.mst = s.mst ∧ s.cancelLaunch.lmc = s.lmc ∧
    s.cancelLaunch.tmu = s.tmu ∧ s.cancelLaunch.gpc = s.gpc ∧ s.cancelLaunch.glk = s.glk ∧
    s.cancelLaunch.ntu = s.ntu ∧ s.cancelLaunch.freeUse = s.freeUse ∧ s.cancelLaunch.pending = s.pending := by
  generalize h : s.cancelLaunch = r
  unfold State.cancelLaunch at h; try dsimp only at h
  (repeat' split at h) <;> subst h <;> simp

@[simp] theorem State.confirmExit_frame (d : Fin 6) :
    (s.confirmExit d).swi = s.swi ∧ (s.confirmExit d).evl = s.evl ∧ (s.confirmExit d).ptb = s.ptb ∧
    (s.confirmExit d).scu = s.scu ∧ (s.confirmExit d).mst = s.mst ∧ (s.confirmExit d).lmc = s.lmc ∧
    (s.confirmExit d).tmu = s.tmu ∧ (s.confirmExit d).gpc = s.gpc ∧ (s.confirmExit d).glk = s.glk ∧
    (s.confirmExit d).freeUse = s.freeUse ∧ (s.confirmExit d).pending = s.pending := by
  generalize h : s.confirmExit d = r
  unfold State.confirmExit at h; try dsimp only at h
  (repeat' split at h) <;> subst h <;> simp

@[simp] theorem State.troughStep_frame (d : Fin 6) :
    (s.troughStep d).swi = s.swi ∧ (s.troughStep d).evl = s.evl ∧ (s.troughStep d).ptb = s.ptb ∧
    (s.troughStep d).scu = s.scu ∧ (s.troughStep d).mst = s.mst ∧ (s.troughStep d).bdt = s.bdt ∧
    (s.troughStep d).lmc = s.lmc ∧ (s.troughStep d).glk = s.glk ∧ (s.troughStep d).ntu = s.ntu ∧
    (s.troughStep d).freeUse = s.freeUse ∧ (s.troughStep d).pending = s.pending := by
  generalize h : s.troughStep d = r
  unfold State.troughStep at h; try dsimp only at h
  (repeat' split at h) <;> subst h <;> simp

@[simp] theorem State.accountExit_frame (d : Fin 6) :
    (s.accountExit d).swi = s.swi ∧ (s.accountExit d).evl = s.evl ∧ (s.accountExit d).ptb = s.ptb ∧
    (s.accountExit d).scu = s.scu ∧ (s.accountExit d).mst = s.mst ∧ (s.accountExit d).lmc = s.lmc ∧
    (s.accountExit d).tmu = s.tmu ∧ (s.accountExit d).gpc = s.gpc ∧ (s.accountExit d).glk = s.glk ∧
    (s.accountExit d).freeUse = s.freeUse ∧ (s.accountExit d).pending = s.pending := by
  generalize h : s.accountExit d = r
  unfold State.accountExit at h; try dsimp only at h
  (repeat' split at h) <;> subst h <;> simp

@[simp] theorem State.exitDevice_frame (d : Fin 6) :
    (s.exitDevice d).swi = s.swi ∧ (s.exitDevice d).evl = s.evl ∧ (s.exitDevice d).scu = s.scu ∧
    (s.exitDevice d).mst = s.mst ∧ (s.exitDevice d).glk = s.glk ∧ (s.exitDevice d).freeUse = s.freeUse ∧
    (s.exitDevice d).pending = s.pending := by
  generalize h : s.exitDevice d = r
  unfold State.exitDevice at h; try dsimp only at h
  (repeat' split at h) <;> subst h <;> simp

@[simp] theorem State.faultDevice_frame (d : Fin 6) :
    (s.faultDevice d).swi = s.swi ∧ (s.faultDevice d).evl = s.evl ∧ (s.faultDevice d).scu = s.scu ∧
    (s.faultDevice d).glk = s.glk ∧ (s.faultDevice d).pending = s.pending := by
  generalize h : s.faultDevice d = r
  unfold State.faultDevice at h; try dsimp only at h
  (repeat' split at h) <;> subst h <;> simp

@[simp] theorem State.ejectExpiry_frame (d : Fin 6) :
    (s.ejectExpiry d).swi = s.swi ∧ (s.ejectExpiry d).evl = s.evl ∧ (s.ejectExpiry d).scu = s.scu ∧
    (s.ejectExpiry d).glk = s.glk ∧ (s.ejectExpiry d).pending = s.pending := by
  generalize h : s.ejectExpiry d = r
  unfold State.ejectExpiry at h; try dsimp only at h
  (repeat' split at h) <;> subst h <;> simp

/-! ### Evaluator -/

@[simp] theorem State.performAward_frame (k : Nat) (a : Award) :
    (s.performAward k a).swi = s.swi ∧ (s.performAward k a).evl = s.evl ∧ (s.performAward k a).scu = s.scu ∧
    (s.performAward k a).bdt = s.bdt ∧ (s.performAward k a).gpc = s.gpc ∧ (s.performAward k a).glk = s.glk ∧
    (s.performAward k a).freeUse = s.freeUse ∧ (s.performAward k a).pending = s.pending := by
  cases a <;> simp [State.performAward]

@[simp] theorem State.baseAwards_frame (k : Nat) (l : List Award) :
    (s.baseAwards k l).swi = s.swi ∧ (s.baseAwards k l).evl = s.evl ∧ (s.baseAwards k l).scu = s.scu ∧
    (s.baseAwards k l).bdt = s.bdt ∧ (s.baseAwards k l).gpc = s.gpc ∧ (s.baseAwards k l).glk = s.glk ∧
    (s.baseAwards k l).freeUse = s.freeUse ∧ (s.baseAwards k l).pending = s.pending := by
  unfold State.baseAwards; exact foldl_keeps (fun t : State => t.swi = s.swi ∧ t.evl = s.evl ∧ t.scu = s.scu ∧ t.bdt = s.bdt ∧ t.gpc = s.gpc ∧ t.glk = s.glk ∧ t.freeUse = s.freeUse ∧ t.pending = s.pending) _
    (fun _ _ h => by simpa using h) _ _ (by simp)

@[simp] theorem State.scoreHit_frame (g : Fin 16) (k : Nat) (l : List Award) (a : List (Fin 12)) :
    (s.scoreHit g k l a).swi = s.swi ∧ (s.scoreHit g k l a).evl = s.evl ∧ (s.scoreHit g k l a).scu = s.scu ∧
    (s.scoreHit g k l a).bdt = s.bdt ∧ (s.scoreHit g k l a).gpc = s.gpc ∧ (s.scoreHit g k l a).glk = s.glk ∧
    (s.scoreHit g k l a).freeUse = s.freeUse ∧ (s.scoreHit g k l a).pending = s.pending := by
  generalize h : s.scoreHit g k l a = r
  unfold State.scoreHit at h; try dsimp only at h
  (repeat' split at h) <;> subst h <;> simp

/-! ### Game and Timers -/

@[simp] theorem State.tiltBall_frame :
    s.tiltBall.swi = s.swi ∧ s.tiltBall.evl = s.evl ∧ s.tiltBall.ptb = s.ptb ∧ s.tiltBall.scu = s.scu ∧
    s.tiltBall.mst = s.mst ∧ s.tiltBall.bdt = s.bdt ∧ s.tiltBall.lmc = s.lmc ∧ s.tiltBall.glk = s.glk ∧
    s.tiltBall.ntu = s.ntu ∧ s.tiltBall.freeUse = s.freeUse ∧ s.tiltBall.pending = s.pending := by
  generalize h : s.tiltBall = r
  unfold State.tiltBall at h; try dsimp only at h
  (repeat' split at h) <;> subst h <;> simp

@[simp] theorem State.clearTilt_frame :
    s.clearTilt.swi = s.swi ∧ s.clearTilt.evl = s.evl ∧ s.clearTilt.ptb = s.ptb ∧ s.clearTilt.scu = s.scu ∧
    s.clearTilt.mst = s.mst ∧ s.clearTilt.bdt = s.bdt ∧ s.clearTilt.lmc = s.lmc ∧ s.clearTilt.glk = s.glk ∧
    s.clearTilt.ntu = s.ntu ∧ s.clearTilt.freeUse = s.freeUse ∧ s.clearTilt.pending = s.pending := by
  generalize h : s.clearTilt = r
  unfold State.clearTilt at h; try dsimp only at h
  (repeat' split at h) <;> subst h <;> simp

@[simp] theorem State.launch_frame :
    s.launch.swi = s.swi ∧ s.launch.evl = s.evl ∧ s.launch.ptb = s.ptb ∧ s.launch.scu = s.scu ∧
    s.launch.mst = s.mst ∧ s.launch.lmc = s.lmc ∧ s.launch.tmu = s.tmu ∧ s.launch.gpc = s.gpc ∧
    s.launch.glk = s.glk ∧ s.launch.freeUse = s.freeUse ∧ s.launch.pending = s.pending := by
  simp [State.launch]

@[simp] theorem State.endGame_frame :
    s.endGame.swi = s.swi ∧ s.endGame.evl = s.evl ∧ s.endGame.ptb = s.ptb ∧ s.endGame.scu = s.scu ∧
    s.endGame.bdt = s.bdt ∧ s.endGame.glk = s.glk ∧ s.endGame.freeUse = s.freeUse ∧ s.endGame.pending = s.pending := by
  simp [State.endGame]

@[simp] theorem State.userExpiry_frame (u : Fin 16) (r : Timer) :
    (s.userExpiry u r).swi = s.swi ∧ (s.userExpiry u r).evl = s.evl ∧ (s.userExpiry u r).ptb = s.ptb ∧
    (s.userExpiry u r).scu = s.scu ∧ (s.userExpiry u r).mst = s.mst ∧ (s.userExpiry u r).bdt = s.bdt ∧
    (s.userExpiry u r).lmc = s.lmc ∧ (s.userExpiry u r).gpc = s.gpc ∧ (s.userExpiry u r).glk = s.glk ∧
    (s.userExpiry u r).freeUse = s.freeUse ∧ (s.userExpiry u r).pending = s.pending := by
  generalize h : s.userExpiry u r = r
  unfold State.userExpiry at h; try dsimp only at h
  (repeat' split at h) <;> subst h <;> simp

end Sys2Proof.Machine
end

