-- ==== Sys2Proof/Laws/Ops.lean ====
section
/-! SUPPORT. What each shared operation does, said once: the lemmas a proof cites instead of unfolding it. -/

namespace Sys2Proof.Machine

/-! ### Tables and bytes -/

@[simp] theorem mapTable_getElem {α β : Type} {n : Nat} (f : α → β) (v : Vector α n) (i : Fin n) :
    (mapTable f v)[i] = f v[i] := by simp [mapTable]

theorem index?_eq_some {n v : Nat} {i : Fin n} : index? n v = some i ↔ i.val = v := by
  unfold index?; split
  · simp only [Option.some.injEq, Fin.ext_iff]; exact eq_comm
  · exact ⟨nofun, fun h => absurd (h ▸ i.isLt) ‹_›⟩

theorem index?_eq_none {n v : Nat} : index? n v = none ↔ n ≤ v := by
  unfold index?; split <;> simp <;> omega

theorem small_toNat {v : Nat} (h : v < 256) : (small v).toNat = v := by
  simp [small, BitVec.toNat_ofNat, Nat.mod_eq_of_lt h]

theorem small_byte (b : Byte) : small b.toNat = b := by simp [small]

theorem byteAt_lt (p : List Byte) (i : Nat) : byteAt p i < 256 := (p.getD i 0).isLt

theorem numberAt_lt (p : List Byte) (i n : Nat) : numberAt p i n < 256 ^ n := by
  induction n generalizing i with
  | zero => exact Nat.one_pos
  | succ n ih => have := byteAt_lt p i; have := ih (i + 1); simp only [numberAt, Nat.pow_succ]; omega

@[simp] theorem numberBytes_length (n v : Nat) : (numberBytes n v).length = n := by
  induction n generalizing v with
  | zero => rfl
  | succ n ih => simp [numberBytes, ih]

/-- A number written as n bytes is read back, modulo 256 ^ n (R203). -/
theorem numberAt_numberBytes (before after : List Byte) (n v : Nat) :
    numberAt (before ++ (numberBytes n v ++ after)) before.length n = v % 256 ^ n := by
  induction n generalizing before v with
  | zero => exact (Nat.mod_one v).symm
  | succ n ih =>
    have h := ih (before ++ [BitVec.ofNat 8 v]) (v / 256)
    simp only [List.append_assoc, List.cons_append, List.nil_append, List.length_append, List.length_singleton] at h
    simp only [numberAt, numberBytes, List.cons_append, h, byteAt, List.getD_eq_getElem?_getD,
      List.getElem?_append_right (Nat.le_refl _), Nat.sub_self, List.getElem?_cons_zero, Option.getD_some,
      BitVec.toNat_ofNat]
    rw [Nat.pow_succ' (n := n), Nat.mod_mul]

/-! ### Requests (R187, R192) -/

/-- A transaction that is waited out takes nothing. -/
theorem takeRequest_waiting {code config takes owner p} {s : State} (h : s.glk.waiting = true) :
    takeRequest code config takes owner p s = .next { s with glk := { s.glk with waiting := false } } := by
  simp [takeRequest, State.transaction, h]

/-- A frame of another length than its request takes reaches no owner. -/
theorem takeRequest_badLength {code config takes owner p} {s : State} (h : s.glk.waiting = false)
    (hl : 62 < p.length ∨ p.length ≠ takes) :
    takeRequest code config takes owner p s = .next (s.answer code .badLength []) := by
  simp only [takeRequest, State.transaction, h, if_pos hl, Bool.false_eq_true, if_false]

/-- A configuration request outside IDLE reaches no owner. -/
theorem takeRequest_inGame {code takes owner p} {s : State} (h : s.glk.waiting = false) (hl : p.length = takes)
    (h62 : p.length ≤ 62) (hg : s.gpc.game ≠ .idle) :
    takeRequest code true takes owner p s = .next (s.answer code .inGame []) := by
  have : ¬ (62 < p.length ∨ p.length ≠ takes) := by omega
  simp only [takeRequest, State.transaction, h, if_neg this, Bool.false_eq_true, if_false, hg, ne_eq,
    not_false_eq_true, and_self, if_true]

/-- Every other request is its owner's, whose answer goes into the response buffer. -/
theorem takeRequest_owner {code config takes owner p} {s : State} (h : s.glk.waiting = false) (hl : p.length = takes)
    (h62 : p.length ≤ 62) (hg : config = false ∨ s.gpc.game = .idle) :
    takeRequest code config takes owner p s =
      .next ((owner s).1.answer code (owner s).2.status (owner s).2.payload) := by
  have h1 : ¬ (62 < p.length ∨ p.length ≠ takes) := by omega
  have h2 : ¬ (config = true ∧ s.gpc.game ≠ .idle) := by rcases hg with hg | hg <;> simp [hg]
  simp only [takeRequest, State.transaction, h, if_neg h1, if_neg h2, Bool.false_eq_true, if_false]

/-! ### Notices (R194) -/

theorem State.hasNotice_raise (s : State) (x y : Source) :
    (s.raise x).hasNotice y = (s.hasNotice y || decide (y = x)) := by
  unfold State.hasNotice State.raise Ntu.raise
  by_cases hx : x ∈ s.ntu.lists[x.group]
  · simp only [if_pos hx]
    by_cases h : y = x
    · subst h; simpa using hx
    · simp [h]
  · simp only [if_neg hx]
    by_cases hg : y.group = x.group
    · by_cases h : y = x
      · subst h; simp
      · simp [hg, h]
    · have h : y ≠ x := fun h => hg (h ▸ rfl)
      have : x.group.val ≠ y.group.val := fun e => hg (Fin.ext e.symm)
      simp [h, Vector.getElem_set_ne _ _ this]

/-! ### Players -/

theorem State.checkPlayer_outOfRange {s : State} {p : Nat} (h : p = 0 ∨ 6 < p) :
    s.checkPlayer p = .error .outOfRange := by simp only [State.checkPlayer, if_pos h]

theorem State.checkPlayer_absent {s : State} {n : Nat} (h : n < 6) (hn : s.ptb.players.length ≤ n) :
    s.checkPlayer (n + 1) = .error .wrongState := by
  simp [State.checkPlayer, State.player?, show ¬ 6 < n + 1 by omega, hn]

theorem State.checkPlayer_present {s : State} {n : Nat} {r : Player} (h : n < 6) (hn : s.ptb.players[n]? = some r) :
    s.checkPlayer (n + 1) = .ok r := by
  simp [State.checkPlayer, State.player?, show ¬ 6 < n + 1 by omega, hn]

/-- A record that is present, changed. -/
theorem State.modifyPlayer_present {s : State} {n : Nat} {r : Player} (f : Player → Player)
    (hn : s.ptb.players[n]? = some r) : s.modifyPlayer (n + 1) f = s.withPlayer n (f r) := by
  obtain ⟨hl, he⟩ := List.getElem?_eq_some_iff.mp hn
  have : s.ptb.players.modify n f = s.ptb.players.set n (f r) := by
    apply List.ext_getElem? ; intro i
    by_cases h : n = i
    · subst h; simp [hl, he]
    · simp [h]
  simp only [State.modifyPlayer, State.withPlayer, this]

/-! ### The timer pool (R153) -/

theorem State.freeTimer?_eq_none {s : State} : s.freeTimer? = none ↔ ∀ u : Fin 16, s.tmu.timers[u] ≠ none := by
  simp [State.freeTimer?, List.find?_eq_none]

theorem find?_finRange_eq_some {n : Nat} {p : Fin n → Bool} {i : Fin n} :
    (List.finRange n).find? p = some i ↔ p i = true ∧ ∀ j, j < i → p j = false := by
  rw [List.find?_eq_some_iff_getElem]
  simp only [List.getElem_finRange, Fin.cast_mk, List.length_finRange]
  constructor
  · rintro ⟨hp, k, hk, rfl, hj⟩
    exact ⟨hp, fun j hj' => by simpa using hj j.val hj'⟩
  · rintro ⟨hp, hj⟩
    exact ⟨hp, i.val, i.isLt, rfl, fun j hj' => by simpa using hj ⟨j, by omega⟩ hj'⟩

theorem State.freeTimer?_eq_some {s : State} {u : Fin 16} :
    s.freeTimer? = some u ↔ s.tmu.timers[u] = none ∧ ∀ v, v < u → s.tmu.timers[v] ≠ none := by
  simp [State.freeTimer?, find?_finRange_eq_some, Option.isSome_iff_ne_none]

theorem State.boundTimer?_eq_none {s : State} {b : Binding} :
    s.boundTimer? b = none ↔ ∀ (u : Fin 16) (r : Timer), s.tmu.timers[u] = some r → r.binding ≠ b := by
  simp only [State.boundTimer?, List.find?_eq_none, List.mem_finRange, true_implies]
  refine forall_congr' fun u => ?_
  cases s.tmu.timers[u] <;> simp

/-- The record of the timer found holds the binding. -/
theorem State.boundTimer?_some {s : State} {b : Binding} {u : Fin 16} (h : s.boundTimer? b = some u) :
    ∃ r, s.tmu.timers[u] = some r ∧ r.binding = b := by
  have h := (find?_finRange_eq_some.mp h).1
  cases hu : s.tmu.timers[u] with
  | none => simp [hu] at h
  | some r => exact ⟨r, rfl, by simpa [hu] using h⟩

/-! ### Eject requests (R116) -/

/-- An eject request adds nothing, or starts a device, or adds to what it is asked for. -/
theorem State.requestEject_cases (s : State) (d : Fin 6) (n : Nat) :
    ((s.device d).adds n = 0 ∧ s.requestEject d n = (s, 0)) ∨
    (0 < (s.device d).adds n ∧ (s.device d).ejectPending = 0 ∧ s.requestEject d n =
      ((s.withDevice d { s.device d with
        ejectPending := (s.device d).adds n, retries := 0, ejectTimer := some (s.device d).timeout }).raise
          (.ejectReq d), (s.device d).adds n)) ∨
    (0 < (s.device d).adds n ∧ 0 < (s.device d).ejectPending ∧ s.requestEject d n =
      (s.withDevice d { s.device d with ejectPending := (s.device d).ejectPending + (s.device d).adds n },
        (s.device d).adds n)) := by
  by_cases h0 : (s.device d).adds n = 0
  · exact .inl ⟨h0, by simp [State.requestEject, h0]⟩
  · by_cases hp : (s.device d).ejectPending = 0
    · exact .inr (.inl ⟨Nat.pos_of_ne_zero h0, hp, by
        simp only [State.requestEject, if_neg h0, if_pos hp, State.modifyDevice, State.withDevice]⟩)
    · exact .inr (.inr ⟨Nat.pos_of_ne_zero h0, Nat.pos_of_ne_zero hp, by
        simp only [State.requestEject, if_neg h0, if_neg hp, State.modifyDevice, State.withDevice]⟩)

/-- What a device can add never exceeds the balls not yet asked for. -/
theorem Device.adds_le (r : Device) (n : Nat) : r.adds n ≤ n ∧ r.adds n ≤ r.occupancy - r.ejectPending := by
  unfold Device.adds; split <;> omega

/-! ### The sourcing of multiball (R136) -/

/-- The loss of a made lock leaves the devices as they are. -/
@[simp] theorem State.loseLock_bdt (s : State) (d : Fin 6) (p : Nat) : (s.loseLock d p).bdt = s.bdt := by
  unfold State.loseLock; split <;> simp

/-- What an eject request that adds something does to the records of the devices. -/
theorem Sourcing.request_cases (x : Sourcing) (d : Fin 6) (n : Nat) : ∃ k, k = (x.state.device d).adds n ∧
    (x.request d n).wanted = x.wanted - k ∧ (x.request d n).obtained = x.obtained + k ∧
    ((x.request d n).state.device d).definition = (x.state.device d).definition ∧
    ((x.request d n).state.device d).faulted = (x.state.device d).faulted ∧
    ((x.request d n).state.device d).occupancy = (x.state.device d).occupancy ∧
    ((x.request d n).state.device d).ejectPending = (x.state.device d).ejectPending + k ∧
    ∀ c, c ≠ d → (x.request d n).state.device c = x.state.device c := by
  refine ⟨_, rfl, ?_⟩
  have other : ∀ (r : Device) (c : Fin 6), c ≠ d → (x.state.withDevice d r).device c = x.state.device c := by
    intro r c h
    simp [State.device, State.withDevice, show d.val ≠ c.val from fun e => h (Fin.ext e.symm)]
  rcases x.state.requestEject_cases d n with ⟨h0, h⟩ | ⟨h0, hp, h⟩ | ⟨h0, hp, h⟩ <;>
    simp only [Sourcing.request, h, h0, true_and, Nat.sub_zero, Nat.add_zero]
  · simp
  · refine ⟨?_, ?_, ?_, ?_, fun c hc => other _ c hc⟩ <;> simp_all [State.device, State.withDevice]
  · refine ⟨?_, ?_, ?_, ?_, fun c hc => other _ c hc⟩ <;> simp [State.device, State.withDevice]

/-- The claims of one device that are taken: the oldest that match, as many as there are, as are wanted and as the
device can give; each is an eject the device owes, and the others stay in their order. -/
theorem Sourcing.takeClaims_takes (d : Fin 6) (p : Nat) (mine : Bool) (l : List Nat) : ∀ (x r : Sourcing) (kept : List Nat)
    (e : Nat), x.takeClaims d p mine l = (r, kept) →
    e = min (l.countP fun o => decide (o = p) == mine) ((x.state.device d).adds x.wanted) →
    r.wanted = x.wanted - e ∧ r.obtained = x.obtained + e ∧
    (r.state.device d).ejectPending = (x.state.device d).ejectPending + e ∧
    (∀ c, c ≠ d → r.state.device c = x.state.device c) ∧
    kept.filter (fun o => decide (o = p) == mine) = (l.filter fun o => decide (o = p) == mine).drop e ∧
    kept.filter (fun o => decide (o = p) != mine) = l.filter (fun o => decide (o = p) != mine) := by
  induction l with
  | nil => intro x r kept e h he; cases h; simp_all
  | cons o l ih =>
    intro x r kept e h he
    rw [Sourcing.takeClaims] at h
    by_cases hm : decide (o = p) = mine
    · by_cases ht : 0 < x.wanted ∧ x.state.claimTakable d = true
      · simp only [ht.1, hm, ht.2, and_self, if_true] at h
        generalize hy : (if mine = true then x else { x with state := x.state.loseLock d o }) = y at h
        have hyw : y.wanted = x.wanted ∧ y.obtained = x.obtained ∧ y.state.bdt = x.state.bdt := by
          subst hy; split <;> simp
        have hyd : ∀ c, y.state.device c = x.state.device c := fun c => by simp [State.device, hyw.2.2]
        obtain ⟨k, hk, hw, ho, h1, h2, h3, h4, h5⟩ := y.request_cases d 1
        simp only [State.claimTakable, Bool.and_eq_true, Bool.not_eq_true', decide_eq_true_eq] at ht
        have hk1 : k = 1 := by rw [hk, hyd, Device.adds, if_pos ⟨ht.2.1.1, ht.2.1.2⟩]; omega
        subst hk1
        have hpres : ((y.request d 1).state.device d).present = true := by rw [Device.present, h1, hyd]; exact ht.2.1.1
        have hfa : ((y.request d 1).state.device d).faulted = false := by rw [h2, hyd]; exact ht.2.1.2
        obtain ⟨i1, i2, i3, i4, i5, i6⟩ := ih (y.request d 1) r kept (e - 1) h (by
          simp only [Device.adds, if_pos (And.intro ht.2.1.1 ht.2.1.2), if_pos (And.intro hpres hfa), h3, h4, hw, hyd,
            List.countP_cons, hm, beq_self_eq_true, if_true] at he ⊢
          omega)
        have he1 : 1 ≤ e := by
          simp only [Device.adds, if_pos (And.intro ht.2.1.1 ht.2.1.2), List.countP_cons, hm, beq_self_eq_true, if_true] at he
          omega
        refine ⟨by omega, by omega, by rw [i3, h4, hyd]; omega, fun c hc => by rw [i4 c hc, h5 c hc, hyd], ?_, ?_⟩
        · rw [i5, List.filter_cons_of_pos (by simp [hm])]
          obtain ⟨n, rfl⟩ : ∃ n, e = n + 1 := ⟨e - 1, by omega⟩
          simp
        · rw [i6, List.filter_cons_of_neg (by simp [hm])]
      · rw [if_neg (fun c => ht ⟨c.1, c.2.2⟩)] at h
        have ha : (x.state.device d).adds x.wanted = 0 := by
          simp only [State.claimTakable, Bool.and_eq_true, Bool.not_eq_true', decide_eq_true_eq] at ht
          unfold Device.adds; split
          · rename_i hh; have : ¬ (0 < x.wanted ∧ (x.state.device d).ejectPending < (x.state.device d).occupancy) :=
              fun c => ht ⟨c.1, hh, c.2⟩
            omega
          · rfl
        have he0 : e = 0 := by omega
        subst he0
        obtain ⟨i1, i2, i3, i4, i5, i6⟩ := ih x _ _ 0 rfl (by omega)
        cases h
        refine ⟨i1, i2, i3, i4, ?_, ?_⟩
        · simp [List.filter_cons_of_pos, hm, i5]
        · simp [List.filter_cons_of_neg, hm, i6]
    · rw [if_neg (fun c => hm c.2.1)] at h
      obtain ⟨i1, i2, i3, i4, i5, i6⟩ := ih x _ _ e rfl (by
        rw [he, List.countP_cons_of_neg (by simpa using hm)])
      cases h
      refine ⟨i1, i2, i3, i4, ?_, ?_⟩
      · rw [List.filter_cons_of_neg (by simpa using hm), List.filter_cons_of_neg (by simpa using hm), i5]
      · rw [List.filter_cons_of_pos (by simpa using hm), List.filter_cons_of_pos (by simpa using hm), i6]

/-! ### Ordered lists (R79, R95) -/

/-- Where an insertion by priority lands. -/
theorem insertByPriority_split (priority : Fin 12 → Nat) (x : Fin 12) (p : Nat) (l : List (Fin 12)) :
    ∃ above below, l = above ++ below ∧ insertByPriority priority x p l = above ++ x :: below ∧
      (∀ y ∈ above, p < priority y) ∧ ∀ y ∈ below.head?, priority y ≤ p := by
  induction l with
  | nil => exact ⟨[], [], rfl, rfl, by simp, by simp⟩
  | cons y l ih =>
    by_cases h : priority y ≤ p
    · exact ⟨[], y :: l, rfl, by simp [insertByPriority, h], by simp, by simpa using h⟩
    · obtain ⟨above, below, hl, hi, ha, hb⟩ := ih
      refine ⟨y :: above, below, by simp [hl], by simp [insertByPriority, h, hi], ?_, hb⟩
      intro z hz
      rcases List.mem_cons.mp hz with rfl | hz
      · omega
      · exact ha z hz

theorem insertSorted_perm {α : Type} (before : α → α → Bool) (a : α) (l : List α) :
    (insertSorted before a l).Perm (a :: l) := by
  induction l with
  | nil => exact .refl _
  | cons x l ih =>
    unfold insertSorted; split
    · exact .refl _
    · exact (ih.cons x).trans (.swap a x l)

/-- Sorting rearranges. -/
theorem sortBy_perm {α : Type} (before : α → α → Bool) (l : List α) : (sortBy before l).Perm l := by
  have h : ∀ acc : List α, (l.foldl (fun acc a => insertSorted before a acc) acc).Perm (acc ++ l) := by
    induction l with
    | nil => intro acc; simp
    | cons a l ih =>
      intro acc
      refine (ih _).trans (((insertSorted_perm before a acc).append_right l).trans ?_)
      exact List.perm_middle.symm
  simpa [sortBy] using h []

/-! ### Entering and leaving RUNNING, PAUSED and ENDED (R77, R79, R85, R91) -/

theorem State.slot?_setSlot (s : State) (x y : Fin 12) (c : Option Context) :
    (s.setSlot x c).slot? y = if x = y then c else s.slot? y := by
  simp only [State.slot?, State.setSlot, Fin.getElem_fin]
  by_cases h : x = y
  · subst h; simp
  · have : x.val ≠ y.val := fun e => h (Fin.ext e)
    simp [h, Vector.getElem_set_ne _ _ this]

/-- The lists and slots of a context that enters RUNNING. -/
theorem State.enterRunning_mst (s : State) (x : Fin 12) : (s.enterRunning x).mst = { s.mst with
    slots := s.mst.slots.set x.val ((s.slot? x).map fun c => { c with phase := .running }) x.isLt
    stack := insertByPriority s.slotPriority x (s.slotPriority x) (s.mst.stack.erase x)
    pauseOrder := s.mst.pauseOrder.erase x } := by
  simp only [State.enterRunning, State.modifyHeld_mst]; rfl

/-- The lists and slots of a context that enters PAUSED. -/
theorem State.enterPaused_mst (s : State) (x : Fin 12) : (s.enterPaused x).mst = { s.mst with
    slots := s.mst.slots.set x.val ((s.slot? x).map fun c => { c with phase := .paused }) x.isLt
    stack := s.mst.stack.erase x
    pauseOrder := s.mst.pauseOrder.erase x ++ [x] } := by
  simp only [State.enterPaused, State.modifyHeld_mst]; rfl

/-- The slot and the ended list of a context that enters ENDED. -/
theorem State.enterEnded_mst (s : State) (x : Fin 12) (r : EndReason) (n : Nat) :
    (s.enterEnded x r n).mst = { s.mst with
      slots := s.mst.slots.set x.val
        ((s.slot? x).map fun c => { c with phase := .ended r, timer := none, stored := n }) x.isLt
      ended := s.mst.ended ++ [x] } := rfl

/-- The context that returns waits in the pause order, with the owner and the group asked for. -/
theorem State.returning?_some {s : State} {p : Nat} {g : Fin 8} {x : Fin 12} (h : s.returning? p g = some x) :
    x ∈ s.mst.pauseOrder ∧ (s.slot? x).map Context.owner = some p ∧ s.slotGroup x = g := by
  have key : ∀ (l : List (Fin 12)) (best : Option (Fin 12)), (l.foldl (fun best slot =>
      match best with
      | none => some slot
      | some b => if s.slotPriority b < s.slotPriority slot then some slot else some b) best) = some x →
      x ∈ l ∨ best = some x := by
    intro l
    induction l with
    | nil => intro best h; exact .inr h
    | cons y l ih =>
      intro best h
      rcases ih _ h with h | h
      · exact .inl (List.mem_cons_of_mem _ h)
      · cases best with
        | none => exact .inl (by simp_all)
        | some b =>
          simp only at h
          split at h
          · exact .inl (by simp_all)
          · exact .inr h
  rcases key _ _ h with h | h
  · obtain ⟨hm, hq⟩ := List.mem_filter.mp h
    refine ⟨hm, ?_⟩
    cases hs : s.slot? x with
    | none => simp [hs] at hq
    | some c => simpa [hs] using hq
  · exact absurd h nofun

end Sys2Proof.Machine
end

