-- ==== Sys2Proof/Tests/Slice0.lean ====
section
/-! SUPPORT. Tests: ill-formed commands, frames written out from the spec, one step on small states with the figures of
the spec's worked sequences, and for every statement a state that meets its hypotheses. -/

namespace Sys2Proof.Tests

open Sys2Proof.Machine

/-! ### Well-formed commands -/

theorem test_short_frame_is_not_short : (Instr.shortFrame [0x02, 1, 5]).wellFormed = false := by decide
theorem test_unknown_request_is_known : (Instr.unknownRequest 0x67 [0]).wellFormed = false := by decide
theorem test_unknown_request_too_long : (Instr.unknownRequest 0xFF (.replicate 63 0)).wellFormed = false := by decide
theorem test_payload_too_long : (Instr.defineThresholds (.replicate 63 0)).wellFormed = false := by decide
theorem test_well_formed : (Instr.shortFrame [0x02, 63]).wellFormed = true ∧
    (Instr.defineThresholds (.replicate 62 0)).wellFormed = true := by decide

/-! ### Frames and Switch Port bytes (R183, R184, R201, R209) -/

theorem test_frame_read_player : decodeFrame [0b00000010, 0b00000001, 0b00000110] = .readPlayer [6] := by decide
theorem test_frame_adjust_score :
    decodeFrame [0b00000100, 0b00000101, 2, 1, 0x01, 0x00, 6, 0xAA] = .adjustScore [2, 1, 1, 0, 6] := by decide
theorem test_frame_next_ball : decodeFrame [0b00010010, 0b00000000] = .nextBall [] := by decide
theorem test_frame_start_mode : decodeFrame [0b00100000, 0b00000001, 31] = .startMode [31] := by decide
theorem test_frame_recount : decodeFrame [0b00110001, 7, 4, 0, 0, 0, 0, 0, 0] = .recount [4, 0, 0, 0, 0, 0, 0] := by decide
theorem test_frame_stage_period : decodeFrame [0b01000100, 3, 4, 0xC8, 0x00] = .stagePeriod [4, 200, 0] := by decide
theorem test_frame_ack_notice : decodeFrame [0b01010001, 1, 0b01100000] = .ackNotice [96] := by decide
theorem test_frame_define_rule : decodeFrame [0b01100000, 6, 61, 3, 0, 0, 0, 0] = .defineRule [61, 3, 0, 0, 0, 0] := by decide
theorem test_frame_unknown : decodeFrame [0b01101000, 1, 9] = .unknownRequest 0x68 [9] := by decide
theorem test_frame_short : decodeFrame [0b00000010, 1] = .shortFrame [2, 1] := by decide
theorem test_switch_byte : decodeSwitchByte 0b10111100 = (true, 60) ∧ decodeSwitchByte 0b00111100 = (false, 60) := by decide

/-! ### Small states -/

/-- The state after a command, the state itself where there is none. -/
def after (i : Instr) (s : State) : State :=
  match exec i s with
  | .next t => t
  | .fault _ | .refused _ => s

/-- The answer to a request. -/
def said (i : Instr) (s : State) : Status × List Byte :=
  ((after i s).glk.response.status, (after i s).glk.response.payload)

/-- The trough, a LOCK and a SCOOP, with two balls, none and one. -/
def trough : Device := ⟨some ⟨.trough, 6, 60, 61, 150⟩, 2, 0, 0, none, false, 0⟩
def lock : Device := ⟨some ⟨.lock true true, 3, 62, 63, 100⟩, 0, 0, 0, none, false, 0⟩
def scoop : Device := ⟨some ⟨.scoop, 2, 64, 65, 100⟩, 1, 0, 0, none, false, 0⟩

/-- A template of a kind in an exclusion group; it claims one switch group, and is worth 10,000. -/
def template (priority : Nat) (kind : TemplateKind) (claims : BitVec 16) (group : Fin 8) : Template :=
  ⟨priority, kind, claims, ⟨1, 4⟩, 1, false, none, none, group, true, false, true⟩

/-- A context of player 1 with its timer. -/
def context (phase : Phase) (i : Fin 32) (timer : Option (Fin 16)) : Context := ⟨phase, i, 1, 0, 10000, 1, 0, timer, 40⟩

/-- A timer that runs for a binding. -/
def timer (b : Binding) : Timer := ⟨.running, .retrigger, 3000, none, 1800, true, b⟩

/-- Rules for the devices' switches, switch 23 scoring in group 5 and switch 24 on opening in group 4. -/
def rules : Vector Rule 128 := Vector.replicate 128 Rule.ignored
  |>.set 60 (.deviceEntry 0 0 []) |>.set 61 (.deviceExit 0) |>.set 62 (.deviceEntry 1 0 []) |>.set 63 (.deviceExit 1)
  |>.set 64 (.deviceEntry 2 0 []) |>.set 65 (.deviceExit 2)
  |>.set 23 (.scoring .close 5 [.score ⟨5, 4⟩ true]) |>.set 24 (.scoring .opening 4 [])

/-- A timed ADDITIVE and an EXCLUSIVE template in group 2, a HURRY and a timed EXCLUSIVE one in none. -/
def templates : Vector (Option Template) 32 := Vector.replicate 32 none
  |>.set 0 (some (template 6 (.additive ⟨3000, true, 0, ⟨0, 0⟩⟩) 16 2))
  |>.set 1 (some (template 9 (.exclusive ⟨0, false, 0, ⟨0, 0⟩⟩) 32 2))
  |>.set 2 (some { template 5 (.hurry ⟨⟨1, 3⟩, 26, 2, 100⟩) 64 0 with applyPf := true })
  |>.set 3 (some (template 4 (.exclusive ⟨500, true, 3, ⟨2, 5⟩⟩) 128 0))

/-- Two players, the first up in IN_PLAY on ball 1 with one ball in play, four balls installed. -/
def base : State :=
  { State.reset with
    evl := ⟨rules⟩
    ptb := { State.reset.ptb with players := [.created, .created] }
    mst := ⟨templates, .replicate 12 none, [], [], []⟩
    bdt := ⟨State.reset.bdt.devices |>.set 0 trough |>.set 1 lock |>.set 2 scoop, 1, .ok, .replicate 6 false⟩
    gpc := ⟨.inPlay, some 1, 1, false, true, false, ⟨3, 4, 4, 0⟩⟩ }

/-- The state in another game state. -/
def gameAt (g : GameState) (s : State) : State := { s with gpc := { s.gpc with game := g } }

/-- The part in IDLE, configured. -/
def idle : State :=
  { base with ptb := State.reset.ptb, gpc := { base.gpc with game := .idle, current := none, ballNumber := 0 } }

/-- Slot 0 RUNNING on timer 0, slot 1 PARKED, slot 2 ENDED, slot 3 PAUSED behind slot 0, slot 4 a RUNNING HURRY. -/
def modes : State :=
  { base with
    mst := ⟨templates, Vector.replicate 12 none |>.set 0 (some (context .running 0 (some 0)))
        |>.set 1 (some (context .parked 3 none)) |>.set 2 (some (context (.ended .aborted) 1 none))
        |>.set 3 (some (context .paused 1 none)) |>.set 4 (some (context .running 2 (some 1))), [0, 4], [3], [2]⟩
    tmu := ⟨Vector.replicate 16 none |>.set 0 (some (timer (.context 0)))
      |>.set 1 (some ⟨.running, .periodic, 100, none, 1, true, .hurry 4⟩)
      |>.set 5 (some ⟨.idle, .oneShot, 300, some 200, 300, true, .user⟩), Vector.replicate 16 false |>.set 1 true⟩ }

/-- A timer in use in each of the 16 places. -/
def allTimers (s : State) : State := { s with tmu := { s.tmu with timers := .replicate 16 (some ⟨.idle, .oneShot, 9, none, 9, true, .user⟩) } }

/-- A timer's expiry waits to be taken. -/
def due (u : Fin 16) (s : State) : State :=
  { s with tmu := { s.tmu with expiring := s.tmu.expiring.set u.val true u.isLt } }

/-- A device's eject expiry waits to be taken. -/
def ejectDue (d : Fin 6) (s : State) : State :=
  { s with bdt := { s.bdt with expiring := s.bdt.expiring.set d.val true d.isLt } }

/-- An entry at the head of the queue. -/
def taken (sw : Fin 128) (cls : EntryClass) (k : Nat) (s : State) : State := { s with swi := ⟨[⟨sw, cls, k⟩], false⟩ }

theorem test_modes_lists : ListLaw modes := by decide
theorem test_modes_owners : OwnerLaw modes := by decide
theorem test_modes_groups : ExclusionLaw modes := by decide
theorem modes_modeLaw : ModeLaw modes := ⟨test_modes_lists, test_modes_owners, test_modes_groups⟩
theorem base_modeLaw : ModeLaw base := ⟨by decide, by decide, by decide⟩
theorem modes_timerLaw : TimerLaw modes := ⟨by decide, by decide, by decide⟩
theorem base_timerLaw : TimerLaw base := ⟨by decide, by decide, by decide⟩
theorem base_deviceLaw : DeviceLaw base := by decide


/-! ### The hypotheses of each statement are met -/

/-- modes with commands waiting: a state that meets every law and steps on. -/
def queued : State := { modes with pending := [.nop [], .tmuTick] }

theorem queued_steps : ∃ t, step queued = .next t := ⟨_, rfl⟩

theorem witness_StepRunsFrontCommand : queued.pending = .nop [] :: [.tmuTick] ∧ base.pending = [] := by decide

theorem witness_ResetGivesPowerOnRecords :
    (999 < 1000 ∧ after (.reset 999 true false true) modes = modes) ∧
    (1000 ≤ 1000 ∧ (after (.reset 1000 true false true) modes).gpc.game = .idle ∧
      (after (.reset 1000 false false false) modes).glk.waiting = true) := ⟨⟨by decide, rfl⟩, by decide⟩

theorem witness_SoftResetClearsTheGame : modes.glk.waiting = false ∧ (after (.softReset []) modes).mst.stack = [] := by
  decide

theorem witness_FramesReadBackAsTheirCommands :
    ((Instr.defineThresholds (.replicate 62 0)).wellFormed = true ∧
      encodeFrame (.defineThresholds (.replicate 62 0)) = some (0x64 :: 62 :: .replicate 62 0) ∧
      ∀ b, Instr.defineThresholds (.replicate 62 0) ≠ .shortFrame b) ∧
    ((Instr.shortFrame []).wellFormed = true ∧ encodeFrame (.shortFrame []) = some []) :=
  ⟨⟨by decide, rfl, nofun⟩, by decide⟩

theorem witness_NopAnswersOk : modes.glk.waiting = false ∧ modes.miso true false false 0 = some 0x00 ∧
    modes.miso false false false 0 = none := by decide

theorem witness_DiscardedFramesChangeNothing : base.glk.waiting = false := by decide

theorem witness_FramesAreJudgedBeforeTheirOwners :
    (base.glk.waiting = false ∧ (Instr.nop [1]).frame = some (0x00, [1]) ∧ requestLength 0x00 [1] = some 0 ∧
      Instr.nop [1] ≠ .unknownRequest 0x00 [1] ∧ [(1 : Byte)].length ≠ 0) ∧
    (isConfiguration 0x65 = true ∧ (Instr.setGameParams [9, 9, 9, 9, 9]).frame = some (0x65, [9, 9, 9, 9, 9]) ∧
      Instr.setGameParams [9, 9, 9, 9, 9] ≠ .unknownRequest 0x65 [9, 9, 9, 9, 9] ∧
      requestLength 0x65 [9, 9, 9, 9, 9] = some [(9 : Byte), 9, 9, 9, 9].length ∧ [(9 : Byte), 9, 9, 9, 9].length ≤ 62 ∧
      base.gpc.game ≠ .idle) ∧
    (State.glk { base with glk := ⟨base.glk.response, true⟩ }).waiting = true ∧ (Instr.shortFrame []).isTransaction = true := by
  decide

theorem witness_StepsKeepTheQueueAndNoticeLaws : (QueueLaw queued ∧ NoticeLaw queued) ∧ ∃ t, step queued = .next t :=
  ⟨by decide, queued_steps⟩

theorem witness_StepsKeepPlayersCountersAndLocks :
    (PlayerLaw queued ∧ CounterLaw queued ∧ LockLaw queued) ∧ ∃ t, step queued = .next t :=
  ⟨⟨by decide, by decide, by decide⟩, queued_steps⟩

theorem witness_StepsKeepTheGameRecord : (GameLaw queued ∧ JackpotLaw queued) ∧ ∃ t, step queued = .next t :=
  ⟨by decide, queued_steps⟩

theorem witness_StepsKeepDevicesAndBalls :
    (DeviceLaw queued ∧ BallLaw queued ∧ queued.bdt.tracking = .ok) ∧ ∃ t, step queued = .next t :=
  ⟨by decide, queued_steps⟩

theorem witness_StepsKeepTheModeLaw : ModeLaw queued ∧ ∃ t, step queued = .next t := ⟨modes_modeLaw, queued_steps⟩

theorem witness_StepsKeepTheTimerLaw : ModeLaw queued ∧ TimerLaw queued ∧ CountLaw queued ∧ ∃ t, step queued = .next t :=
  ⟨modes_modeLaw, modes_timerLaw, ⟨by decide, by decide, by decide, by decide, by decide⟩, queued_steps⟩

theorem witness_ReadsOfGameQueueStackAndModes :
    modes.glk.waiting = false ∧ 12 ≤ (12 : Byte).toNat ∧ (11 : Fin 12).val = (11 : Byte).toNat ∧
    modes.mst.slots[(11 : Fin 12)] = none ∧ modes.mst.slots[(0 : Fin 12)] = some (context .running 0 (some 0)) ∧
    ((modes.tmu.timers[(0 : Fin 16)]).map Timer.remaining).getD 0 = 1800 ∧
    modes.mst.slots[(1 : Fin 12)] = some (context .parked 3 none) ∧
    said (.readMode [0]) modes = (.ok, [0, 1, 0, 1, 0, 0x10, 0x27, 0, 0, 0, 1, 0, 0, 0, 0, 0, 0, 0x08, 0x07, 0]) := by
  decide

theorem witness_ReadsOfPlayersAndCounters :
    base.glk.waiting = false ∧ 6 < (7 : Byte).toNat ∧
    (1 ≤ (3 : Byte).toNat ∧ (3 : Byte).toNat ≤ 6 ∧ base.ptb.players.length < (3 : Byte).toNat) ∧
    base.ptb.players[(2 : Byte).toNat - 1]? = some .created ∧
    2 ≤ (2 : Byte).toNat ∧ 16 ≤ (16 : Byte).toNat ∧ (31 : Fin 32).val = (31 : Byte).toNat ∧
    base.ptb.commonDefs[(31 : Fin 32)] = .powerOn ∧ (15 : Fin 16).val = (15 : Byte).toNat ∧
    base.ptb.playerDefs[(15 : Fin 16)] = .powerOn ∧ Player.created.counters[(15 : Fin 16)] = 0 := by decide

theorem witness_ReadsOfDevicesAndTimers :
    modes.glk.waiting = false ∧ 6 ≤ (6 : Byte).toNat ∧ (5 : Fin 6).val = (5 : Byte).toNat ∧
    modes.bdt.devices[(5 : Fin 6)] = .absent ∧ modes.bdt.devices[(1 : Fin 6)] = lock ∧ 16 ≤ (16 : Byte).toNat ∧
    modes.tmu.timers[(15 : Fin 16)] = none ∧
    (modes.tmu.timers[(0 : Fin 16)] = some (timer (.context 0)) ∧ (timer (.context 0)).binding ≠ .user) ∧
    modes.tmu.timers[(5 : Fin 16)] = some ⟨.idle, .oneShot, 300, some 200, 300, true, .user⟩ := by decide

/-- Two notices of group 6, one of group 1. -/
def noticed : State := State.raise .gameOver (State.raise .ballSaved (State.raise (.userTimer 3) base))

theorem witness_NoticesJoinAndLeave :
    (Source.ballSaved ∈ noticed.ntu.lists[Source.ballSaved.group] ∧
      Source.ballEnd ∉ noticed.ntu.lists[Source.ballEnd.group]) ∧ noticed.glk.waiting = false ∧
    ((96 : Byte).toNat = Source.ballEnd.vector) ∧
    ((100 : Byte).toNat = Source.gameOver.vector ∧
      noticed.ntu.lists[Source.gameOver.group] = [.ballSaved] ++ .gameOver :: [] ∧ Source.gameOver ∉ [Source.ballSaved]) ∧
    128 ≤ (128 : Byte).toNat ∧ (127 : Byte).toNat < 128 := by decide

theorem test_no_source_has_vector_0 : ∀ x : Source, (0 : Byte).toNat ≠ x.vector := by
  intro x h
  have h : 0 = (x.group.val + 1) * 16 + x.index := h
  omega

theorem witness_PeekFindsTheMostUrgentNotice : noticed.glk.waiting = false ∧
    (noticed.ntu.enabled.getLsbD (5 : Fin 7).val = true ∧ noticed.ntu.lists[(5 : Fin 7)] = .ballSaved :: [.gameOver] ∧
      ∀ h : Fin 7, 5 < h → noticed.ntu.enabled.getLsbD h.val = true → noticed.ntu.lists[h] = []) ∧
    (∀ g : Fin 7, base.ntu.enabled.getLsbD g.val = true → base.ntu.lists[g] = []) ∧
    said (.peekNotice []) noticed = (.ok, [97, 0b0100001]) := by decide

/-- The queue with `n` scoring entries of switch 23, the last with a count. -/
def crowded (n k : Nat) : State := { base with swi := ⟨.replicate n ⟨23, .scoring, 1⟩ ++ [⟨24, .scoring, k⟩], false⟩ }

theorem witness_SwitchReportsAreAdmitted :
    decodeSwitchByte 0x98 = (true, 24) ∧ decodeSwitchByte 0x18 = (false, 24) ∧ edgeOf false = .opening ∧
    base.evl.rules[(24 : Fin 128)] = .scoring .opening 4 [] ∧ Edge.opening ≠ edgeOf true ∧
    base.evl.rules[(0 : Fin 128)] = .ignored ∧
    (crowded 3 254).swi.queue = .replicate 3 ⟨23, .scoring, 1⟩ ++ [⟨24, .scoring, 254⟩] ∧ 254 < 255 ∧
    (crowded 22 255).swi.queue.length ≤ 23 ∧ 24 ≤ (crowded 23 255).swi.queue.length ∧ (crowded 23 255).swi.overrun = false ∧
    base.evl.rules[(61 : Fin 128)] = .deviceExit 0 ∧ base.evl.rules[(64 : Fin 128)] = .deviceEntry 2 0 [] ∧
    (crowded 30 1).swi.queue.length ≤ 31 ∧ 32 ≤ (crowded 31 1).swi.queue.length := by decide

theorem test_full_count_does_not_coalesce :
    ∀ init k, (crowded 22 255).swi.queue = init ++ [⟨24, .scoring, k⟩] → 255 ≤ k := by
  intro init k h
  have := (List.append_inj' h rfl).2
  simp only [List.cons.injEq, Entry.mk.injEq, true_and, and_true] at this
  omega

theorem witness_InjectedReportsAreAdmitted :
    base.glk.waiting = false ∧ 128 ≤ (128 : Byte).toNat ∧ (24 : Fin 128).val = (24 : Byte).toNat ∧
    base.evl.rules[(127 : Fin 128)] = .ignored ∧ base.evl.rules[(24 : Fin 128)] = .scoring .opening 4 [] ∧
    (crowded 3 254).swi.queue = .replicate 3 ⟨23, .scoring, 1⟩ ++ [⟨24, .scoring, 254⟩] ∧
    (crowded 22 255).swi.queue.length ≤ 23 ∧ 24 ≤ (crowded 23 255).swi.queue.length ∧
    base.evl.rules[(63 : Fin 128)] = .deviceExit 1 ∧ (crowded 30 1).swi.queue.length ≤ 31 ∧
    32 ≤ (crowded 31 1).swi.queue.length := by decide

theorem test_switch_0_does_not_score :
    (∀ x g l, base.evl.rules[(0 : Fin 128)] ≠ .scoring x g l) ∧ (∀ d g l, base.evl.rules[(0 : Fin 128)] ≠ .deviceEntry d g l) ∧
    ∀ d, base.evl.rules[(0 : Fin 128)] ≠ .deviceExit d := by
  rw [show base.evl.rules[(0 : Fin 128)] = .ignored by decide]; exact ⟨nofun, nofun, nofun⟩

/-- The line state HELD. -/
def held (s : State) : State := { s with gpc := { s.gpc with playenPin := false } }

theorem witness_HeadsAreTakenDiscardedAndPaid :
    ((held (taken 23 .scoring 1 base)).lineState = .held ∧
      (held (taken 23 .scoring 1 base)).swi.queue = ⟨23, .scoring, 1⟩ :: []) ∧
    base.swi.queue = [] ∧ (taken 0 .deviceExit 1 base).swi.queue = ⟨0, .deviceExit, 1⟩ :: [] ∧
    (taken 0 .deviceExit 1 base).lineState ≠ .held ∧ (gameAt .starting base).gpc.game ≠ .inPlay ∧
    (∀ d, base.evl.rules[(⟨0, .deviceExit, 1⟩ : Entry).switch] ≠ .deviceExit d) ∧
    ((taken 23 .scoring 255 modes).swi.queue = ⟨23, .scoring, 255⟩ :: [] ∧ (taken 23 .scoring 255 modes).lineState ≠ .held ∧
      modes.gpc.game = .inPlay ∧ modes.gpc.tilted = false ∧
      modes.evl.rules[(23 : Fin 128)] = .scoring .close 5 [.score ⟨5, 4⟩ true] ∧
      ∀ x ∈ modes.mst.stack, modes.claims x 5 = false) :=
  ⟨by decide, by decide, by decide, by decide, by decide, test_switch_0_does_not_score.2.2, by decide⟩

/-- Switch 23 in group 5, with slot 3, an EXCLUSIVE context, RUNNING below slot 4. -/
def claimed : State :=
  taken 23 .scoring 9 { base with
    mst := ⟨templates, Vector.replicate 12 none |>.set 3 (some (context .running 1 none))
      |>.set 4 (some (context .running 3 (some 1))), [3, 4], [], []⟩
    tmu := ⟨Vector.replicate 16 none |>.set 1 (some ⟨.running, .retrigger, 500, none, 7, true, .context 4⟩), .replicate 16 false⟩ }

theorem witness_ExclusiveClaimPaysAndStops :
    (claimed.swi.queue = ⟨23, .scoring, 9⟩ :: [] ∧ claimed.lineState ≠ .held ∧ claimed.gpc.game = .inPlay ∧
      claimed.gpc.tilted = false ∧ claimed.evl.rules[(23 : Fin 128)] = .scoring .close 5 [.score ⟨5, 4⟩ true] ∧
      claimed.mst.stack = [] ++ 3 :: [4] ∧ claimed.mst.slots[(3 : Fin 12)] = some (context .running 1 none) ∧
      (context .running 1 none).phase = .running ∧
      claimed.mst.templates[(1 : Fin 32)] = some (template 9 (.exclusive ⟨0, false, 0, ⟨0, 0⟩⟩) 32 2) ∧
      (32 : BitVec 16).getLsbD (5 : Fin 16).val = true ∧ claimed.gpc.current = some (0 + 1) ∧
      claimed.ptb.players[0]? = some .created) ∧
    ((after .awardEvaluation claimed).ptb.players[0]?).map Player.score = some 90000 := by decide

/-- Templates 4 to 7 claim group 5: an ADDITIVE one that restarts its timer, an ADDITIVE and an EXCLUSIVE one of 9 hits, and
a HURRY one in exclusion group 2. -/
def layers : Vector (Option Template) 32 := templates
  |>.set 4 (some (template 12 (.additive ⟨3000, true, 0, ⟨0, 0⟩⟩) 32 0))
  |>.set 5 (some { template 12 (.additive ⟨0, false, 9, ⟨2, 5⟩⟩) 32 0 with nextOnCompletion := some 3 })
  |>.set 6 (some (template 12 (.exclusive ⟨0, false, 9, ⟨2, 5⟩⟩) 32 0))
  |>.set 7 (some { template 12 (.hurry ⟨⟨1, 3⟩, 26, 2, 100⟩) 32 2 with nextOnCompletion := some 3 })

/-- Nine closures of switch 23 before slot 0, RUNNING template i on timer 0 or none, and slot 3 of template 1, RUNNING
below it or PARKED. -/
def layered (i : Fin 32) (u : Option (Fin 16)) (below : List (Fin 12)) : State :=
  taken 23 .scoring 9 { base with
    mst := ⟨layers, Vector.replicate 12 none |>.set 0 (some (context .running i u))
      |>.set 3 (some (context (if below = [] then .parked else .running) 1 none)), 0 :: below, [], []⟩
    tmu := ⟨Vector.replicate 16 none |>.set 0 (some (timer (.context 0))), .replicate 16 false⟩ }

theorem witness_AdditiveClaimsGoOnAndCompletionsEnd :
    ((layered 4 (some 0) [3]).mst.stack = [] ++ 0 :: [3] ∧ (layered 4 (some 0) [3]).mst.stack.Nodup ∧
      (layered 4 (some 0) [3]).mst.slots[(0 : Fin 12)] = some (context .running 4 (some 0)) ∧
      layers[(4 : Fin 32)] = some (template 12 (.additive ⟨3000, true, 0, ⟨0, 0⟩⟩) 32 0) ∧
      (32 : BitVec 16).getLsbD (5 : Fin 16).val = true ∧
      (layered 4 (some 0) [3]).tmu.timers[(0 : Fin 16)] = some (timer (.context 0)) ∧
      [(3 : Fin 12)] = [] ++ 3 :: [] ∧ (layered 4 (some 0) [3]).mst.slots[(3 : Fin 12)] = some (context .running 1 none) ∧
      layers[(1 : Fin 32)] = some (template 9 (.exclusive ⟨0, false, 0, ⟨0, 0⟩⟩) 32 2)) ∧
    (layers[(5 : Fin 32)] = some { template 12 (.additive ⟨0, false, 9, ⟨2, 5⟩⟩) 32 0 with nextOnCompletion := some 3 } ∧
      layers[(6 : Fin 32)] = some (template 12 (.exclusive ⟨0, false, 9, ⟨2, 5⟩⟩) 32 0) ∧
      9 ≤ min ((context .running 5 none).hits + 9) 255 ∧ (layered 5 none []).mst.stack = [] ++ 0 :: [] ∧
      ListLaw (layered 5 none [])) := by decide

/-- A HURRY context of a group, with a next template, collects 10,000 and starts the next in a FREE slot. -/
theorem witness_a_hurry_completes_into_the_next (s : State) (h : s = layered 7 (some 0) []) :
    s.mst.slots[(0 : Fin 12)] = some (context .running 7 (some 0)) ∧ s.mst.stack = [] ++ 0 :: [] ∧ s.mst.stack.Nodup ∧
    s.mst.templates[(7 : Fin 32)] =
      some { template 12 (.hurry ⟨⟨1, 3⟩, 26, 2, 100⟩) 32 2 with nextOnCompletion := some 3 } ∧
    ((after .awardEvaluation s).ptb.players[0]?).map Player.score = some 10000 ∧
    (after .awardEvaluation s).mst.stack = [1] := by subst h; decide +kernel

/-- 10,000 a hit, once for each context that claims, then the base award 50,000 or the completion value 200,000. -/
theorem test_claims_pay (score : State → Option Nat)
    (h : score = fun s => ((after .awardEvaluation s).ptb.players[0]?).map Player.score) :
    score (layered 4 (some 0) [3]) = some 180000 ∧ score (layered 4 (some 0) []) = some 540000 ∧
    score (layered 5 none []) = some 740000 ∧ score (layered 6 none [3]) = some 290000 := by subst h; decide

/-- Switch 23 in group 6, claimed by the HURRY in slot 4 below slot 0. -/
def hurried : State :=
  taken 23 .scoring 2 { modes with evl := ⟨rules.set 23 (.scoring .close 6 [])⟩, lmc := modes.lmc }

theorem witness_HurryCollectPaysOnceAndEnds :
    (hurried.swi.queue = ⟨23, .scoring, 2⟩ :: [] ∧ hurried.lineState ≠ .held ∧ hurried.gpc.game = .inPlay ∧
      hurried.gpc.tilted = false ∧ hurried.evl.rules[(23 : Fin 128)] = .scoring .close 6 [] ∧
      hurried.mst.stack = [0] ++ 4 :: [] ∧ hurried.mst.stack.Nodup ∧ hurried.claims 0 6 = false ∧
      hurried.mst.slots[(4 : Fin 12)] = some (context .running 2 (some 1)) ∧
      hurried.mst.templates[(2 : Fin 32)] =
        some { template 5 (.hurry ⟨⟨1, 3⟩, 26, 2, 100⟩) 64 0 with applyPf := true } ∧
      (64 : BitVec 16).getLsbD (6 : Fin 16).val = true ∧ hurried.gpc.current = some (0 + 1) ∧
      hurried.ptb.players[0]? = some .created) ∧
    ((after .awardEvaluation hurried).ptb.players[0]?).map Player.score = some 10000 := by decide

/-- Thresholds at 5, 10 and 12 million, the last two giving an extra ball; player 1 at 9 million. -/
def rich : State :=
  { base with
    scu := ⟨[⟨5000000, false⟩, ⟨10000000, true⟩, ⟨12000000, true⟩]⟩
    ptb := { base.ptb with players := [{ Player.created with score := 9000000, crossed := 1 }] } }

theorem witness_CreditsSaturateAndCrossThresholds :
    (rich.ptb.players[0]? = some { Player.created with score := 9000000, crossed := 1 } ∧
      rich.scu.thresholds.length ≤ 8 ∧ (0 : Nat) ≤ 9) ∧
    (999999999999 < 9000000 + 999991000000 ∧ 9000000 + 999990999999 ≤ 999999999999) ∧
    ((rich.credit 1 1000000 none).ptb.players[0]?).map (fun r => (r.crossed, r.extraBalls)) = some (3, 1) := by decide

theorem witness_BonusAndExtraBallRecords :
    (base.gpc.current = some (0 + 1) ∧ base.ptb.players[0]? = some .created) ∧ (8 < 9 ∧ 9 ≤ 9) := by decide

/-- Multiball runs with J at the base. -/
def multiball (s : State) : State := { s with lmc := { s.lmc with multiball := true, jackpot := 1000000 } }

theorem witness_ScoreJackpotAndLockRecords :
    (base.gpc.current = some (0 + 1) ∧ base.ptb.players[0]? = some .created) ∧ base.lmc.multiball = false ∧
    (multiball base).lmc.multiball = true ∧ (Player.created.locksLit < base.lmc.params.litMax ∧
      Player.created.locksLit + Player.created.locksMade < base.lmc.params.mbLocks) ∧
    base.lmc.params.litMax ≤ 1 ∧ base.lmc.params.mbLocks ≤ 0 + 3 ∧
    (base.glk.waiting = false ∧ (base.startMode 0).2 = .started 0 ∧ (modes.startMode 0).2 = .stood 0 ∧
      (base.startMode 31).2 = .failed .undefined) := by decide

/-- The staged REPEAT counter of the spec's first sequence, and the staged HOLD counter of its second (01, 1.7). -/
theorem test_advance_repeat_staged :
    CounterDef.advance ⟨3, 3, some 5, .repeats, .lightLock⟩ 2 9 = ⟨3, 5, none, 2⟩ := by decide
theorem test_advance_hold_staged : CounterDef.advance ⟨10, 10, some 6, .hold, .notify 2⟩ 9 3 = ⟨6, 6, none, 1⟩ := by
  decide

theorem witness_CounterAdvancesFindTheirCompletions :
    (⟨3, 3, none, .repeats, .none⟩ : CounterDef).afterReach = .repeats ∧ 0 < 3 ∧ 2 + 0 < 3 ∧ 3 ≤ 2 + 1 ∧
    (⟨3, 3, some 0, .repeats, .none⟩ : CounterDef).staged = some 0 ∧
    (⟨3, 3, some 1, .repeats, .none⟩ : CounterDef).staged = some 1 ∧
    (⟨3, 3, some 1, .hold, .none⟩ : CounterDef).afterReach = .hold ∧ 2 < 3 ∧ 3 ≤ 3 := by decide

/-- Player counter 15 REPEAT with target 3 staged to 0, common counter 31 HOLD with target 2. -/
def counting : State :=
  { base with ptb := { base.ptb with
    playerDefs := base.ptb.playerDefs.set 15 ⟨3, 3, some 0, .repeats, .extraBall⟩
    commonDefs := base.ptb.commonDefs.set 31 ⟨2, 2, none, .hold, .lightLock⟩ } }

theorem witness_AdvanceRecordsMoveTheCounter :
    (counting.gpc.current = some (0 + 1) ∧ counting.ptb.players[0]? = some .created) ∧
    (counting.lmc.multiball = false ∧ 0 < counting.lmc.params.litMax ∧ 0 + 0 < counting.lmc.params.mbLocks ∧
      (multiball base).lmc.multiball = true ∧ Player.created.extraBalls < 9) ∧
    (counting.ptb.playerDefs[(0 : Fin 16)]).target = 0 ∧ (counting.ptb.playerDefs[(15 : Fin 16)]).target ≠ 0 ∧
    (⟨0, 0, none, 1⟩ : Advanced) = (counting.ptb.playerDefs[(15 : Fin 16)]).advance Player.created.counters[(15 : Fin 16)] 3 ∧
    (counting.ptb.commonDefs[(0 : Fin 32)]).target = 0 ∧ (counting.ptb.commonDefs[(31 : Fin 32)]).target ≠ 0 ∧
    (⟨2, 2, none, 1⟩ : Advanced) =
      (counting.ptb.commonDefs[(31 : Fin 32)]).advance counting.ptb.commonValues[(31 : Fin 32)] 2 := by decide

/-- The first and the last row of the decay table whose steps are given in full (04, 4.9). -/
theorem test_decay_first : decayStep 5000000 1000000 26 4 = 4490000 := by decide
theorem test_decay_fifth : decayStep 3250000 1000000 26 4 = 2910000 := by decide

theorem witness_DecayStepsTowardTheFloor : 1000000 < 1000001 ∧ 507812 = max (5000000 * 26 / 256) (10 ^ 4) := by decide

/-! ### Devices -/

/-- A state with one device's record replaced. -/
abbrev dev (d : Fin 6) (r : Device) (s : State) : State := s.withDevice d r

theorem witness_EjectRequestsAreClamped :
    base.bdt.devices[(0 : Fin 6)] = trough ∧ base.bdt.devices[(3 : Fin 6)] = .absent ∧ Device.absent.definition = none ∧
    trough.definition = some ⟨.trough, 6, 60, 61, 150⟩ ∧ trough.faulted = false ∧
    2 = min 12 (trough.occupancy - trough.ejectPending) ∧ trough.ejectPending = 0 ∧
    (dev 0 { trough with ejectPending := 1, ejectTimer := some 150 } base).bdt.devices[(0 : Fin 6)] =
      { trough with ejectPending := 1, ejectTimer := some 150 } ∧ 1 = min 1 (2 - 1) := by decide

/-- A ball enters the scoop, the lock, the trough. -/
abbrev enters (sw : Fin 128) (s : State) : State := taken sw .deviceEntry 1 s

theorem witness_BallEntriesAreCountedAndKickedOut :
    ((enters 64 base).swi.queue = ⟨64, .deviceEntry, 1⟩ :: [] ∧ (enters 64 base).lineState ≠ .held ∧
      (enters 64 base).evl.rules[(64 : Fin 128)] = .deviceEntry 2 0 [] ∧
      (enters 64 base).bdt.devices[(2 : Fin 6)] = scoop) ∧
    scoop.capacity ≤ ({ scoop with occupancy := 2 } : Device).occupancy ∧ scoop.occupancy < scoop.capacity ∧
    (0 < base.bdt.ballsInPlay ∧ (State.bdt { base with bdt := { base.bdt with ballsInPlay := 0 } }).ballsInPlay = 0) ∧
    (scoop.definition = some ⟨.scoop, 2, 64, 65, 100⟩ ∧ scoop.occupancy < 2 ∧ scoop.ejectPending ≤ scoop.occupancy) ∧
    (lock.definition = some ⟨.lock true true, 3, 62, 63, 100⟩ ∧ lock.occupancy < 3 ∧ (multiball base).lmc.multiball = true) ∧
    ((gameAt .gameOver base).gpc.game = .gameOver ∧ scoop.faulted = false ∧
      ({ scoop with ejectPending := 1, ejectTimer := some 9 } : Device).ejectPending ≠ 0) := by decide

/-- No eject is pending in a READY device. -/
abbrev noneAsked (s : State) : Prop := ∀ c : Fin 6, (s.bdt.devices[c]).faulted = false → (s.bdt.devices[c]).ejectPending = 0

/-- The trough has been asked for a ball. -/
def asked (s : State) : State := dev 0 { trough with ejectPending := 1, ejectTimer := some 9 } s

theorem witness_a_kept_ball_ends_the_ball (s : State) (h : s = enters 64 (dev 2 { scoop with faulted := true } base)) :
    s.gpc.game = .inPlay ∧ s.bdt.devices[(2 : Fin 6)] = { scoop with faulted := true } ∧ s.gpc.current = some (0 + 1) ∧
    s.ptb.players[0]? = some .created ∧ s.bdt.ballsInPlay ≤ 1 ∧ noneAsked s ∧ ModeLaw s ∧ TimerLaw s ∧
    (((asked s).bdt.devices[(0 : Fin 6)]).faulted = false ∧ ((asked s).bdt.devices[(0 : Fin 6)]).ejectPending ≠ 0) := by
  subst h
  exact ⟨rfl, rfl, rfl, rfl, by decide, by decide, base_modeLaw, base_timerLaw, by decide⟩

/-- Player 1 with a lock lit. -/
def lit (s : State) : State := s.withPlayer 0 { Player.created with locksLit := 1 }

theorem witness_LitLocksAreMade :
    ((enters 62 (lit base)).swi.queue = ⟨62, .deviceEntry, 1⟩ :: [] ∧ (enters 62 (lit base)).lineState ≠ .held ∧
      base.evl.rules[(62 : Fin 128)] = .deviceEntry 1 0 [] ∧ base.bdt.devices[(1 : Fin 6)] = lock ∧
      base.bdt.devices[(0 : Fin 6)] = trough ∧ (1 : Fin 6) ≠ 0 ∧
      lock.definition = some ⟨.lock true true, 3, 62, 63, 100⟩ ∧ lock.faulted = false ∧ lock.occupancy < 3 ∧
      lock.ejectPending ≤ lock.occupancy ∧ base.gpc.game = .inPlay ∧ base.gpc.tilted = false ∧
      base.lmc.multiball = false ∧ base.gpc.current = some (0 + 1) ∧
      (lit base).ptb.players[0]? = some { Player.created with locksLit := 1 } ∧ 0 < 1 ∧ 0 + 1 < base.lmc.params.mbLocks) ∧
    ({ lock with occupancy := 2 } : Device).occupancy + 1 = 3 ∧ lock.occupancy + 1 ≠ 3 ∧ base.bdt.ballsInPlay ≤ 1 ∧
    (trough.definition.isSome = true ∧ trough.faulted = false ∧ trough.ejectPending < trough.occupancy) ∧
    (after .awardEvaluation (enters 62 (lit base))).lmc.claims[(1 : Fin 6)] = [1] := by decide

theorem witness_a_serve_adds_nothing (s : State) (h : s = dev 0 { trough with faulted := true } (enters 62 (lit base))) :
    s.bdt.devices[(0 : Fin 6)] = { trough with faulted := true } ∧ s.bdt.ballsInPlay ≤ 1 ∧ noneAsked s ∧ ModeLaw s ∧
    TimerLaw s ∧ (dev 2 { scoop with ejectPending := 1, ejectTimer := some 9 } s).bdt.devices[(2 : Fin 6)] =
      { scoop with ejectPending := 1, ejectTimer := some 9 } := by
  subst h
  exact ⟨rfl, by decide, by decide, base_modeLaw, base_timerLaw, rfl⟩

theorem witness_the_last_lock_starts_multiball (s : State)
    (h : s = enters 62 (base.withPlayer 0 { Player.created with locksLit := 1, locksMade := 2 })) :
    s.ptb.players[0]? = some { Player.created with locksLit := 1, locksMade := 2 } ∧ s.lmc.params.mbLocks ≤ 2 + 1 ∧
    s.glk.waiting = false ∧ s.mst.stack = [] ∧ 0 < s.bdt.ballsInPlay ∧
    (State.bdt { s with bdt := { s.bdt with ballsInPlay := 0 } }).ballsInPlay = 0 ∧
    (after .awardEvaluation s).lmc.multiball = true ∧ (after .awardEvaluation s).lmc.claims[(1 : Fin 6)] = [] := by
  subst h
  decide +kernel

/-- Ball save active on timer 3. -/
def saved (s : State) : State := s.withTimer 3 (some (.oneShotFor .ballSave 9))

theorem witness_SavedDrainsAreRelaunched :
    ((enters 60 (saved base)).swi.queue = ⟨60, .deviceEntry, 1⟩ :: [] ∧ (enters 60 (saved base)).lineState ≠ .held ∧
      base.evl.rules[(60 : Fin 128)] = .deviceEntry 0 0 [] ∧ (saved base).bdt.devices[(0 : Fin 6)] = trough ∧
      trough.definition = some ⟨.trough, 6, 60, 61, 150⟩ ∧ trough.occupancy < 6 ∧
      trough.ejectPending ≤ trough.occupancy ∧ trough.faulted = false ∧ base.gpc.game = .inPlay ∧
      base.gpc.tilted = false ∧ (saved base).ballSaveActive = true) ∧
    base.lmc.multiball = false ∧ (after .awardEvaluation (enters 60 (saved base))).ballSaveActive = false := by decide

/-- The state with a number of balls in play. -/
def playing (n : Nat) (s : State) : State := { s with bdt := { s.bdt with ballsInPlay := n } }

theorem witness_a_saved_drain_of_multiball (s : State) (h : s = enters 60 (multiball (saved base))) :
    s.lmc.multiball = true ∧ s.ballSaveActive = true ∧ s.mst.stack = [] ∧ ModeLaw s ∧ TimerLaw s ∧
    (1 = s.bdt.ballsInPlay - 1 + ((List.finRange 6).map fun c =>
      if (s.bdt.devices[c]).faulted then 0 else (s.bdt.devices[c]).ejectPending).sum + 1 ∧
    1 < (playing 2 s).bdt.ballsInPlay - 1 + 1) ∧
    (after .awardEvaluation (playing 2 s)).lmc.multiball = true ∧ (after .awardEvaluation s).lmc.multiball = false ∧
    (after .awardEvaluation (playing 2 s)).ballSaveActive = true := by
  subst h
  exact ⟨rfl, by decide, rfl, base_modeLaw, ⟨by decide, by decide, by decide⟩, by decide, by decide +kernel⟩

/-- Slot 0, mb_only here, ends MB_ENDED at the drain, and slot 3 of its group returns. -/
theorem witness_a_drain_ends_multiball (s : State) (h : s = enters 60 (playing 2 (multiball { modes with
      mst := { modes.mst with templates := (templates.set 0
        (some { template 6 (.additive ⟨3000, true, 0, ⟨0, 0⟩⟩) 16 2 with mbOnly := true })) } }))) :
    s.lmc.multiball = true ∧ s.ballSaveActive = false ∧ (∀ y ∈ s.mst.stack, s.claims y 0 = false) ∧ ModeLaw s ∧
    TimerLaw s ∧ (1 = s.bdt.ballsInPlay - 1 + ((List.finRange 6).map fun c =>
      if (s.bdt.devices[c]).faulted then 0 else (s.bdt.devices[c]).ejectPending).sum ∧
      1 < (playing 3 s).bdt.ballsInPlay - 1) ∧
    (after .awardEvaluation s).mst.slots[(0 : Fin 12)] =
      some { context (.ended .mbEnded) 0 none with stored := 1800 } ∧
    (after .awardEvaluation s).phase? 3 = some .running ∧ (after .awardEvaluation s).mst.ended = [2, 0] ∧
    (after .awardEvaluation (playing 3 s)).lmc.multiball = true := by
  subst h
  exact ⟨rfl, by decide, by decide, ⟨by decide, by decide, by decide⟩, ⟨by decide, by decide, by decide⟩, by decide,
    by decide +kernel⟩

theorem witness_LastDrainEndsTheBall :
    ((enters 60 modes).swi.queue = ⟨60, .deviceEntry, 1⟩ :: [] ∧ (enters 60 modes).lineState ≠ .held ∧
      modes.evl.rules[(60 : Fin 128)] = .deviceEntry 0 0 [] ∧ modes.bdt.devices[(0 : Fin 6)] = trough ∧
      trough.definition = some ⟨.trough, 6, 60, 61, 150⟩ ∧ trough.occupancy < 6 ∧ modes.bdt.ballsInPlay ≤ 1 ∧
      modes.gpc.game = .inPlay ∧ modes.ballSaveActive = false ∧
      (∀ d : Fin 6, (modes.bdt.devices[d]).faulted = false → (modes.bdt.devices[d]).ejectPending = 0) ∧
      modes.gpc.current = some (0 + 1) ∧ modes.ptb.players[0]? = some .created) ∧
    ModeLaw (enters 60 modes) ∧ TimerLaw (enters 60 modes) :=
  ⟨by decide, modes_modeLaw, modes_timerLaw⟩

/-- A ball leaves a device. -/
abbrev leaves (sw : Fin 128) (s : State) : State := taken sw .deviceExit 1 s

/-- A lock with two balls of players 1 and 2. -/
def claims (s : State) : State :=
  { dev 1 { lock with occupancy := 2 } s with lmc := { s.lmc with claims := s.lmc.claims.set 1 [1, 2] } }

theorem witness_BallExitsAreCounted :
    ((leaves 61 base).swi.queue = ⟨61, .deviceExit, 1⟩ :: [] ∧ (leaves 61 base).lineState ≠ .held ∧
      base.evl.rules[(61 : Fin 128)] = .deviceExit 0 ∧ base.bdt.devices[(0 : Fin 6)] = trough) ∧
    (lock.occupancy = 0 ∧ 0 < trough.occupancy ∧ base.bdt.ballsInPlay < 12) ∧
    (0 < ({ trough with ejectPending := 1, ejectTimer := some 9 } : Device).ejectPending ∧ trough.ejectPending = 0) ∧
    (({ lock with occupancy := 1, faulted := true, replaced := 1 } : Device).faulted = true ∧ (1 : Fin 6) ≠ 0) ∧
    ((claims base).lmc.claims[(1 : Fin 6)] = 1 :: [2] ∧ ((claims base).bdt.devices[(1 : Fin 6)]).occupancy ≤ [2].length + 1 ∧
      lock.definition = some ⟨.lock true true, 3, 62, 63, 100⟩ ∧ 1 = 0 + 1 ∧ base.ptb.players[0]? = some .created) ∧
    ((gameAt .starting base).gpc.game = .starting ∧ base.gpc.tilted = false ∧ base.tmu.timers[(0 : Fin 16)] = none) := by
  decide

/-- The ball save of R114 takes the lowest FREE timer. -/
theorem witness_a_ball_starts_with_its_save (s : State) (h : s = leaves 61 (gameAt .starting { base with
      gpc := { base.gpc with params := ⟨3, 4, 4, 800⟩ } })) :
    (s.gpc.game = .starting ∧ 0 < 800 ∧ 800 = s.gpc.params.ballSaveTicks ∧ s.gpc.tilted = false ∧
      s.tmu.timers[(0 : Fin 16)] = none ∧ (∀ v : Fin 16, (allTimers s).tmu.timers[v] ≠ none) ∧
      (saved s).tmu.timers[(3 : Fin 16)] = some (.oneShotFor .ballSave 9)) ∧
    (after .awardEvaluation s).tmu.timers[(0 : Fin 16)] = some ⟨.running, .oneShot, 800, none, 800, true, .ballSave⟩ := by
  subst h; decide

/-- Lock 1 at its third expiry with no ball in play and a FAULTED trough. -/
def jammed : State :=
  ejectDue 1 { dev 1 { lock with occupancy := 1, ejectPending := 1, ejectTimer := some 1, retries := 2 }
    (dev 0 { trough with faulted := true, retries := 3 } base) with
    bdt := { (dev 1 { lock with occupancy := 1, ejectPending := 1, ejectTimer := some 1, retries := 2 }
      (dev 0 { trough with faulted := true, retries := 3 } base)).bdt with ballsInPlay := 0 } }

theorem witness_EjectTimersTickAndExpire :
    base.bdt.devices[(0 : Fin 6)] = trough ∧ trough.ejectTimer = none ∧ base.bdt.expiring[(0 : Fin 6)] = false ∧
    (jammed.bdt.devices[(1 : Fin 6)] = { lock with occupancy := 1, ejectPending := 1, ejectTimer := some 1, retries := 2 } ∧
      jammed.bdt.expiring[(1 : Fin 6)] = true ∧ 1 < 2 ∧ 2 ≤ 2) ∧
    (1 : Fin 6) ≠ 0 ∧ (gameAt .ballOver base).gpc.game ≠ .inPlay ∧
    (jammed.gpc.game = .inPlay ∧ jammed.gpc.current = some (0 + 1) ∧ jammed.ptb.players[0]? = some .created ∧
      jammed.bdt.ballsInPlay = 0 ∧ (jammed.bdt.devices[(0 : Fin 6)]).adds 1 = 0 ∧
      (∀ c : Fin 6, c ≠ 1 → (jammed.bdt.devices[c]).faulted = false → (jammed.bdt.devices[c]).ejectPending = 0)) ∧
    ModeLaw jammed ∧ TimerLaw jammed ∧ base.bdt.ballsInPlay ≠ 0 := by
  refine ⟨?_, ?_, ?_, ?_, ?_, ?_, ?_, ⟨?_, ?_, ?_⟩, ⟨?_, ?_, ?_⟩, ?_⟩ <;> decide

theorem witness_RecountAndClearedFaults :
    base.glk.waiting = false ∧ 6 ≤ (6 : Byte).toNat ∧ (5 : Fin 6).val = (5 : Byte).toNat ∧
    base.bdt.devices[(5 : Fin 6)] = .absent ∧ Device.absent.definition = none ∧
    (base.bdt.devices[(0 : Fin 6)] = trough ∧ trough.definition ≠ none ∧ trough.faulted = false) ∧
    (dev 0 { trough with faulted := true, retries := 3 } base).bdt.devices[(0 : Fin 6)] =
      { trough with faulted := true, retries := 3 } ∧
    ([(4 : Byte), 0, 0, 0, 0, 0, 0].length = 7 ∧ byteAt [4, 0, 0, 0, 0, 0, 0] 6 ≤ 12 ∧
      (∀ d : Fin 6, byteAt [4, 0, 0, 0, 0, 0, 0] d.val ≤ (base.bdt.devices[d]).capacity) ∧
      4 = base.gpc.params.installed) ∧
    (base.bdt.devices[(3 : Fin 6)]).capacity < byteAt [0, 0, 0, 1, 0, 0, 3] (3 : Fin 6).val ∧
    12 < byteAt [0, 0, 0, 0, 0, 0, 13] 6 ∧
    ((claims base).lmc.claims[(1 : Fin 6)] = [1] ++ [2] ∧ [2].length = byteAt [3, 1, 0, 0, 0, 0, 0] 1) := by decide

theorem witness_a_recount_ends_the_ball :
    (base.gpc.game = .inPlay ∧ base.gpc.current = some (0 + 1) ∧ base.ptb.players[0]? = some .created ∧
      byteAt [4, 0, 0, 0, 0, 0, 0] 6 = 0 ∧
      ∀ c : Fin 6, (base.bdt.devices[c]).faulted = false →
        min (base.bdt.devices[c]).ejectPending (byteAt [4, 0, 0, 0, 0, 0, 0] c.val) = 0) ∧ ModeLaw base ∧ TimerLaw base ∧
    (byteAt [3, 0, 0, 0, 0, 0, 1] 6 ≠ 0 ∧ (multiball base).lmc.multiball = true ∧ 1 + 0 ≤ 1 ∧
      1 < byteAt [2, 0, 0, 0, 0, 0, 2] 6) ∧
    (after (.recount [3, 0, 0, 0, 0, 0, 1]) (multiball base)).lmc.multiball = false ∧
    (after (.recount [2, 0, 0, 0, 0, 0, 2]) (multiball base)).lmc.multiball = true :=
  ⟨by decide, base_modeLaw, base_timerLaw, by decide, by decide, by decide⟩

theorem witness_DefineDeviceReplacesTheDevice :
    (idle.glk.waiting = false ∧ idle.gpc.game = .idle ∧ [(3 : Byte), 6, 2, 70, 71, 10, 0, 1, 0].length = 9 ∧
      (3 : Fin 6).val = byteAt [3, 6, 2, 70, 71, 10, 0, 1, 0] 0 ∧ 1 ≤ 6 ∧ 6 ≤ 6 ∧ (70 : Fin 128) ≠ 71 ∧
      numberAt [3, 6, 2, 70, 71, 10, 0, 1, 0] 5 2 = 10 ∧ (3 : Fin 6) ≠ 0 ∧ true.toNat = 1 ∧ false.toNat = 0) ∧
    6 ≤ byteAt [6, 0, 0, 0, 0, 0, 0, 0, 0] 0 ∧ byteAt [5, 0, 0, 0, 0, 0, 0, 0, 0] 1 = 0 ∧ 12 < 13 ∧ 500 < 501 ∧
    said (.defineDevice [3, 6, 2, 70, 71, 10, 0, 1, 0]) idle = (.ok, []) ∧
    said (.defineDevice [3, 6, 2, 60, 71, 10, 0, 1, 0]) idle = (.outOfRange, []) := by decide

theorem test_other_devices_use_other_switches (c : Fin 6) (y : DeviceDef) (_ : c ≠ 3)
    (h : (idle.bdt.devices[c]).definition = some y) :
    y.entrySwitch ≠ 70 ∧ y.exitSwitch ≠ 70 ∧ y.entrySwitch ≠ 71 ∧ y.exitSwitch ≠ 71 := by
  have key : ∀ c : Fin 6, ∀ y ∈ (idle.bdt.devices[c]).definition,
      y.entrySwitch ≠ 70 ∧ y.exitSwitch ≠ 70 ∧ y.entrySwitch ≠ 71 ∧ y.exitSwitch ≠ 71 := by decide
  exact key c y h

/-! ### Locks and multiball -/

theorem witness_LockLightingAndAddBall :
    base.glk.waiting = false ∧ idle.gpc.game = .idle ∧
    (base.gpc.game ≠ .idle ∧ base.gpc.game ≠ .gameOver ∧ base.gpc.current = some (0 + 1) ∧
      base.ptb.players[0]? = some .created ∧ base.lmc.multiball = false ∧ 0 < base.lmc.params.litMax ∧
      0 + 0 < base.lmc.params.mbLocks) ∧
    base.lmc.params.litMax ≤ 1 ∧
    ((multiball base).lmc.multiball = true ∧ base.bdt.devices[(0 : Fin 6)] = trough ∧ trough.faulted = false ∧
      trough.ejectPending < trough.occupancy ∧ trough.definition ≠ none) ∧
    ({ trough with occupancy := 0 } : Device).occupancy ≤ 0 ∧
    said (.lightLock []) base = (.ok, [1, 0]) ∧ said (.lightLock []) (lit base) = (.clamped, [1, 0]) := by decide

/-- A STEALABLE lock with a ball of player 1 between two of player 2, a SHARED one with one of player 2 and one with
stock, two balls in the trough, none in play; player 2 has made 3 locks; multiball wants 6 balls. -/
def locked : State :=
  { base with
    ptb := { base.ptb with players := [.created, { Player.created with locksMade := 3 }] }
    bdt := ⟨base.bdt.devices |>.set 1 { lock with occupancy := 3 }
      |>.set 3 ⟨some ⟨.lock false true, 1, 66, 67, 100⟩, 1, 0, 0, none, false, 0⟩
      |>.set 4 ⟨some ⟨.lock false true, 1, 68, 69, 100⟩, 1, 0, 0, none, false, 0⟩, 0, .ok, .replicate 6 false⟩
    lmc := { base.lmc with
      params := { base.lmc.params with mbBalls := 6, mbSaveTicks := 40 }
      claims := base.lmc.claims |>.set 1 [2, 1, 2] |>.set 3 [2] } }

/-- The own ball, the stock, the others' three and one of the trough's; player 2 loses two locks, those of the STEALABLE
lock. -/
theorem witness_StartMultiballSourcesBalls :
    (base.glk.waiting = false ∧ (gameAt .starting base).gpc.game ≠ .inPlay) ∧
    (locked.gpc.game = .inPlay ∧ locked.gpc.tilted = false ∧ locked.lmc.multiball = false ∧
      locked.gpc.current = some (0 + 1) ∧ locked.ptb.players[0]? = some .created ∧
      6 = locked.lmc.params.mbBalls - locked.bdt.ballsInPlay - locked.allPending) ∧
    (locked.tmu.timers[(0 : Fin 16)] = none ∧ 0 < 40 ∧ 40 = locked.lmc.params.mbSaveTicks ∧
      (saved locked).tmu.timers[(3 : Fin 16)] = some (.oneShotFor .ballSave 9) ∧
      ∀ u : Fin 16, (allTimers locked).tmu.timers[u] ≠ none) ∧
    said (.startMultiball []) locked = (.ok, [6, 6]) ∧
    ((after (.startMultiball []) locked).ptb.players[1]?).map Player.locksMade = some 1 := by decide +kernel

/-- One ball wanted is player 1's own, two take the stock, three the oldest of player 2's in the first lock. -/
theorem test_multiball_takes_in_order (wants : Nat → State) (t : Nat → State)
    (h : wants = fun n => { locked with lmc := { locked.lmc with params := { locked.lmc.params with mbBalls := n } } })
    (ht : t = fun n => after (.startMultiball []) (wants n)) :
    (t 1).lmc.claims[(1 : Fin 6)] = [2, 2] ∧ (t 2).bdt.devices[(4 : Fin 6)].ejectPending = 1 ∧
    (t 3).lmc.claims[(1 : Fin 6)] = [2] ∧ (t 3).lmc.claims[(3 : Fin 6)] = [2] := by
  subst ht; subst h; decide +kernel

/-! ### Timers and contexts -/

theorem witness_TimersTickAndExpire :
    modes.tmu.timers[(15 : Fin 16)] = none ∧
    (modes.tmu.timers[(0 : Fin 16)] = some (timer (.context 0)) ∧ (timer (.context 0)).state = .running ∧
      modes.lineState ≠ .held ∧ modes.gpc.game = .inPlay ∧ modes.bdt.ballsInPlay ≠ 0) ∧
    ((timer (.context 0)).pauses = true ∧ (gameAt .ballOver modes).gpc.game ≠ .inPlay) ∧
    1 < (timer (.context 0)).remaining ∧ modes.tmu.expiring[(0 : Fin 16)] = false ∧
    (({ timer .user with remaining := 1 } : Timer).state = .running ∧ (timer .user).kind ≠ .periodic ∧
      (due 3 (modes.withTimer 3 (some { timer .user with remaining := 1 }))).tmu.timers[(3 : Fin 16)] =
        some { timer .user with remaining := 1 } ∧
      (due 3 (modes.withTimer 3 (some { timer .user with remaining := 1 }))).tmu.expiring[(3 : Fin 16)] = true) ∧
    (modes.gpc.current = some (0 + 1) ∧ modes.ptb.players[0]? = some .created) := by decide

/-- The periodic user timer of the spec's sequence reloads with the staged period (08, 8.8). -/
theorem test_periodic_reload :
    (after (.timerExpiry 4) (due 4 (base.withTimer 4
      (some ⟨.running, .periodic, 300, some 200, 1, true, .user⟩)))).tmu.timers[(4 : Fin 16)] =
      some ⟨.running, .periodic, 200, none, 200, true, .user⟩ := by decide

/-- A tick produces the expiry of a timer at 1 and leaves it at 1 (R146); a stop takes that expiry away (R157). -/
theorem test_last_count (s t : State) (hs : s = base.withTimer 4 (some ⟨.running, .oneShot, 300, none, 1, true, .user⟩))
    (ht : t = after .tmuTick s) : t.tmu.timers[(4 : Fin 16)] = s.tmu.timers[(4 : Fin 16)] ∧
      t.tmu.expiring[(4 : Fin 16)] = true ∧ (after (.timerExpiry 4) t).tmu.timers[(4 : Fin 16)] =
        some ⟨.idle, .oneShot, 300, none, 0, true, .user⟩ ∧
      (after (.timerExpiry 4) (after (.stopTimer [4]) t)).tmu.timers[(4 : Fin 16)] =
        some ⟨.idle, .oneShot, 300, none, 1, true, .user⟩ := by subst ht; subst hs; decide

theorem witness_UserTimersAreRun :
    modes.glk.waiting = false ∧ (2 < (3 : Byte).toNat ∧ 1 < (2 : Byte).toNat) ∧
    (TimerKind.periodic.code = 2 ∧ (1 : Byte).toNat + 256 * (0 : Byte).toNat ≠ 0 ∧ (1 : Byte).toNat ≤ 1) ∧
    (∀ u : Fin 16, (allTimers base).tmu.timers[u] ≠ none) ∧
    (modes.tmu.timers[(2 : Fin 16)] = none ∧ ∀ v, v < (2 : Fin 16) → modes.tmu.timers[v] ≠ none) ∧
    16 ≤ (16 : Byte).toNat ∧ (0 : Fin 16).val = (0 : Byte).toNat ∧
    modes.tmu.timers[(5 : Fin 16)] = some ⟨.idle, .oneShot, 300, some 200, 300, true, .user⟩ ∧
    said (.startTimer [5]) modes = (.ok, [200, 0]) ∧ said (.startTimer [0]) modes = (.wrongState, []) := by decide

theorem test_timer_0_is_bound (r : Timer) (h : modes.tmu.timers[(0 : Fin 16)] = some r) : r.binding ≠ .user := by
  rw [show modes.tmu.timers[(0 : Fin 16)] = some (timer (.context 0)) by decide] at h
  cases h; decide

/-- Slots 5 and 6 PAUSED in group 2 beside slot 3, in that order. -/
def crowdedGroup : State :=
  { modes with mst := { modes.mst with
    slots := modes.mst.slots |>.set 5 (some (context .paused 0 (some 2))) |>.set 6 (some (context .paused 1 none))
    pauseOrder := [5, 6, 3] } }

theorem witness_ContextsEnd :
    ListLaw modes ∧ ListLaw crowdedGroup ∧
    (modes.mst.slots[(0 : Fin 12)] = some (context .running 0 (some 0)) ∧
      modes.slotGroup 0 ≠ 0 ∧ modes.mst.slots[(3 : Fin 12)] = some (context .paused 1 none) ∧
      (context .paused 1 none).owner = (context .running 0 (some 0)).owner ∧ modes.slotGroup 3 = modes.slotGroup 0) ∧
    ((context .parked 3 none).phase ≠ .running ∧ modes.slotGroup 4 = 0) ∧
    (crowdedGroup.slotPriority 6 = crowdedGroup.slotPriority 3 ∧
      crowdedGroup.mst.pauseOrder = [5] ++ 6 :: [3] ∧ (crowdedGroup.endContext 0 .aborted true).mst.pauseOrder = [5, 3]) :=
  ⟨test_modes_lists, by decide, by decide, by decide, by decide⟩

theorem test_phase_stands (why : EndReason) : (context .running 0 none).phase ≠ .ended why := nofun

theorem witness_ContextsStopAndTimeOut :
    modes.glk.waiting = false ∧ 12 ≤ (12 : Byte).toNat ∧ (11 : Fin 12).val = (11 : Byte).toNat ∧
    modes.mst.slots[(11 : Fin 12)] = none ∧ modes.mst.slots[(2 : Fin 12)] = some (context (.ended .aborted) 1 none) ∧
    modes.mst.slots[(0 : Fin 12)] = some (context .running 0 (some 0)) ∧
    ((due 0 (modes.withTimer 0 (some { timer (.context 0) with remaining := 1 }))).tmu.timers[(0 : Fin 16)] =
        some { timer (.context 0) with remaining := 1 } ∧ (timer (.context 0)).state = .running ∧
      (due 0 modes).tmu.expiring[(0 : Fin 16)] = true ∧ modes.tmu.expiring[(1 : Fin 16)] = true ∧
      modes.mst.templates[(0 : Fin 32)] = some (template 6 (.additive ⟨3000, true, 0, ⟨0, 0⟩⟩) 16 2)) ∧
    (modes.tmu.timers[(1 : Fin 16)] = some ⟨.running, .periodic, 100, none, 1, true, .hurry 4⟩ ∧
      modes.mst.slots[(4 : Fin 12)] = some (context .running 2 (some 1)) ∧ 1 * 10 ^ 3 < (context .running 2 (some 1)).value ∧
      ({ context .running 2 (some 1) with value := 1000 } : Context).value ≤ 1 * 10 ^ 3) ∧
    said (.stopMode [3]) modes = (.ok, []) ∧ said (.stopMode [2]) modes = (.wrongState, []) := by decide

theorem witness_StartModeMeetsAStandingContext :
    modes.glk.waiting = false ∧ 32 ≤ (32 : Byte).toNat ∧ (31 : Fin 32).val = (31 : Byte).toNat ∧
    modes.mst.templates[(31 : Fin 32)] = none ∧
    (modes.mst.templates[(0 : Fin 32)] = some (template 6 (.additive ⟨3000, true, 0, ⟨0, 0⟩⟩) 16 2) ∧
      (gameAt .ballOver modes).gpc.game ≠ .starting ∧ (gameAt .ballOver modes).gpc.game ≠ .inPlay) ∧
    (modes.gpc.tilted = false ∧ modes.gpc.game = .inPlay ∧ modes.gpc.current = some (0 + 1) ∧
      modes.mst.slots[(0 : Fin 12)] = some (context .running 0 (some 0)) ∧
      (template 6 (.additive ⟨3000, true, 0, ⟨0, 0⟩⟩) 16 2).refreshes = true ∧
      modes.tmu.timers[(0 : Fin 16)] = some (timer (.context 0))) ∧
    (modes.mst.slots[(1 : Fin 12)] = some (context .parked 3 none) ∧
      modes.mst.templates[(3 : Fin 32)] = some (template 4 (.exclusive ⟨500, true, 3, ⟨2, 5⟩⟩) 128 0) ∧
      (template 4 (.exclusive ⟨500, true, 3, ⟨2, 5⟩⟩) 128 0).period? ≠ none ∧ modes.tmu.timers[(2 : Fin 16)] = none ∧
      ∀ v, v < (2 : Fin 16) → modes.tmu.timers[v] ≠ none) ∧
    said (.startMode [0]) modes = (.ok, [0]) ∧ said (.startMode [3]) modes = (.ok, [1]) ∧
    (after (.startMode [3]) modes).tmu.timers[(2 : Fin 16)] = some ⟨.running, .retrigger, 500, none, 40, true, .context 1⟩ := by
  decide

/-- Slot 1 PARKED in group 2, slot 0 RUNNING in it. -/
def parkedInGroup : State :=
  { modes with mst := { modes.mst with
    slots := modes.mst.slots |>.set 1 (some (context .parked 1 none)) |>.set 3 none, pauseOrder := [] } }

theorem test_parked_in_group_laws : (ListLaw parkedInGroup ∧ OwnerLaw parkedInGroup ∧ ExclusionLaw parkedInGroup) ∧
    (parkedInGroup.isRunning 0 = true ∧ (parkedInGroup.slot? 0).map Context.owner = some (0 + 1) ∧ (2 : Fin 8) ≠ 0 ∧
      parkedInGroup.slotGroup 0 = 2 ∧ parkedInGroup.slotPriority 0 < 9) ∧
    (after (.startMode [1]) parkedInGroup).mst.pauseOrder = [0] := ⟨⟨by decide, by decide, by decide⟩, by decide⟩

/-- Slot 2 RUNNING in group 2 on timer 0, every other slot FREE. -/
def started : State :=
  { base with mst := { base.mst with slots := base.mst.slots.set 2 (some (context .running 0 (some 0))), stack := [2] }
              tmu := { base.tmu with timers := base.tmu.timers.set 0 (some (timer (.context 2))) } }

theorem started_modeLaw : ModeLaw started := ⟨by decide, by decide, by decide⟩
theorem started_timerLaw : TimerLaw started := ⟨by decide, by decide, by decide⟩

theorem witness_StartModeSetsUpAContext :
    (started.glk.waiting = false ∧ (1 : Fin 32).val = (1 : Byte).toNat ∧
      started.mst.templates[(1 : Fin 32)] = some (template 9 (.exclusive ⟨0, false, 0, ⟨0, 0⟩⟩) 32 2) ∧
      started.gpc.tilted = false ∧ started.gpc.game = .inPlay ∧ started.gpc.current = some (0 + 1) ∧
      (∀ y : Fin 12, started.standingKey? y ≠ some (0 + 1, 1))) ∧ ModeLaw started ∧ TimerLaw started ∧
    (started.mst.slots[(0 : Fin 12)] = none ∧ ∀ y, y < (0 : Fin 12) → started.mst.slots[y] ≠ none) ∧
    (started.runningKey? 2 = some (0 + 1, 2) ∧ started.slotPriority 2 < 9 ∧
      started.mst.slots[(2 : Fin 12)] = some (context .running 0 (some 0)) ∧
      started.tmu.timers[(0 : Fin 16)] = some (timer (.context 2))) ∧
    (∀ y : Fin 12, started.runningKey? y = some (0 + 1, 2) → started.slotPriority y < 9) ∧
    (started.tmu.timers[(1 : Fin 16)] = none ∧ ∀ v, v < (1 : Fin 16) → started.tmu.timers[v] ≠ none) ∧
    said (.startMode [1]) started = (.ok, [0]) :=
  ⟨by decide, started_modeLaw, started_timerLaw, by decide, by decide, by decide, by decide, by decide⟩

/-- Every slot holds a standing context. -/
def fullSlots : State := { base with mst := { base.mst with slots := .replicate 12 (some (context .parked 0 none)) } }

theorem test_no_slot_is_left : (∀ y : Fin 12, fullSlots.isStanding y = true) ∧
    said (.startMode [1]) fullSlots = (.noSlot, []) ∧ said (.startMode [3]) (allTimers base) = (.noTimer, []) := by decide

theorem witness_ModesAreRetiredAndAdjusted :
    modes.glk.waiting = false ∧ 12 ≤ (12 : Byte).toNat ∧ (11 : Fin 12).val = (11 : Byte).toNat ∧
    modes.mst.slots[(11 : Fin 12)] = none ∧ modes.isStanding 0 = true ∧
    modes.mst.slots[(2 : Fin 12)] = some (context (.ended .aborted) 1 none) ∧
    ([(4 : Byte), 15, 1, 0, 1, 0, 0, 11, 80, 0].length = 10 ∧ 15 = byteAt [4, 15, 1, 0, 1, 0, 0, 11, 80, 0] 1 ∧
      (4 : Fin 12).val = byteAt [4, 15, 1, 0, 1, 0, 0, 11, 80, 0] 0 ∧ (15 : Nat).testBit 3 = true ∧
      modes.mst.slots[(4 : Fin 12)] = some (context .running 2 (some 1)) ∧
      1000 = max (1 * 10 ^ 3) (min (1 * 10 ^ 0) (1 * 10 ^ 4)) ∧ 10 = max 1 (min 11 10) ∧
      modes.tmu.timers[(1 : Fin 16)] = some ⟨.running, .periodic, 100, none, 1, true, .hurry 4⟩) ∧
    16 ≤ byteAt [4, 16] 1 ∧ 9999 < numberAt [4, 2, 0, 0, 0x10, 0x27] 4 2 ∧
    (modes.mst.slots[(1 : Fin 12)] = some (context .parked 3 none) ∧ (context .parked 3 none).phase = .parked) ∧
    said (.adjustMode [4, 15, 1, 0, 1, 0, 0, 11, 80, 0]) modes = (.clamped, [2, 0, 0xE8, 3, 0, 0, 0, 10]) ∧
    said (.retireMode [2]) modes = (.ok, []) ∧ said (.retireMode [0]) modes = (.notEnded, []) := by decide

/-! ### The course of a game -/

theorem witness_LineEventsAct :
    19999 < 20000 ∧ 20000 ≤ 20000 ∧
    (State.lineState { saved base with gpc := { base.gpc with tiltPin := true } } = .tilted ∧
      (saved base).lineState ≠ .tilted ∧ base.gpc.game = .inPlay ∧ base.gpc.tilted = false ∧
      (saved base).tmu.timers[(3 : Fin 16)] = some (.oneShotFor .ballSave 9)) ∧
    (State.lineState { base with gpc := { base.gpc with playenPin := false } } = .held) ∧
    (State.lineState { base with gpc := { base.gpc with playenPin := false, tiltPin := true } } = .slam ∧
      base.gpc.game ≠ .idle ∧ base.gpc.game ≠ .gameOver) ∧
    (after (.lineEvent .tilt true 20000) (saved base)).ballSaveActive = false ∧
    (after (.lineEvent .tilt true 20000) (saved base)).gpc.tilted = true := by decide

theorem witness_StartGameAndAddPlayer :
    (idle.glk.waiting = false ∧ idle.bdt.devices[(0 : Fin 6)] = trough) ∧
    (base.gpc.game ≠ .idle ∧ base.gpc.game ≠ .gameOver) ∧
    (idle.gpc.game = .idle ∧ idle.lineState ≠ .slam ∧ idle.bdt.tracking = .ok ∧ trough.faulted = false ∧
      trough.definition = some ⟨.trough, 6, 60, 61, 150⟩ ∧ trough.ejectPending < trough.occupancy) ∧
    State.reset.bdt.tracking ≠ .ok ∧ ({ trough with occupancy := 0 } : Device).occupancy ≤ trough.ejectPending ∧
    (base.gpc.ballNumber = 1 ∧ base.ptb.players.length < base.gpc.params.maxPlayers ∧
      (State.gpc { base with gpc := { base.gpc with ballNumber := 2 } }).ballNumber ≠ 1) ∧
    said (.startGame []) idle = (.ok, []) ∧ said (.startGame []) base = (.wrongState, []) ∧
    said (.addPlayer []) base = (.ok, [3]) := by decide

/-- Player 1's ball is over; slot 1 is PARKED. -/
def drained : State :=
  gameAt .ballOver { base with mst := { base.mst with slots := base.mst.slots.set 1 (some (context .parked 3 none)) } }

theorem drained_modeLaw : ModeLaw drained := ⟨by decide, by decide, by decide⟩
theorem drained_timerLaw : TimerLaw drained := ⟨by decide, by decide, by decide⟩

theorem witness_NextBallChoosesThePlayer :
    (drained.glk.waiting = false ∧ base.gpc.game ≠ .ballOver ∧ drained.gpc.game = .ballOver ∧ drained.gpc.current = some (0 + 1) ∧
      drained.ptb.players[0]? = some .created ∧ drained.bdt.devices[(0 : Fin 6)] = trough) ∧ ModeLaw drained ∧ TimerLaw drained ∧
    (Player.created.extraBalls = 0 ∧ 0 + 1 < drained.ptb.players.length ∧ drained.gpc.ballNumber ≤ drained.gpc.params.ballsPerGame) ∧
    (0 < ({ Player.created with extraBalls := 1 } : Player).extraBalls ∧
      drained.mst.slots[(1 : Fin 12)] = some (context .parked 3 none) ∧ (context .parked 3 none).owner = 0 + 1 ∧
      drained.mst.templates[(3 : Fin 32)] = some (template 4 (.exclusive ⟨500, true, 3, ⟨2, 5⟩⟩) 128 0)) ∧
    (State.gpc { drained with gpc := { drained.gpc with params := ⟨0, 4, 4, 0⟩ } }).params.ballsPerGame < drained.gpc.ballNumber ∧
    said (.nextBall []) drained = (.ok, [2, 1, 1, 0]) :=
  ⟨by decide, drained_modeLaw, drained_timerLaw, by decide, by decide, by decide, by decide⟩

theorem witness_GamesEndAndClear :
    (modes.glk.waiting = false ∧ idle.gpc.game = .idle ∧ modes.gpc.game ≠ .idle ∧ modes.gpc.game ≠ .gameOver) ∧
    ModeLaw modes ∧ TimerLaw modes ∧
    (modes.isStanding 2 = false ∧ modes.isStanding 0 = true ∧
      modes.mst.slots[(0 : Fin 12)] = some (context .running 0 (some 0)) ∧
      modes.tmu.timers[(5 : Fin 16)] = some ⟨.idle, .oneShot, 300, some 200, 300, true, .user⟩) ∧
    (gameAt .gameOver base).gpc.game = .gameOver ∧
    said (.endGame []) base = (.ok, []) ∧ said (.clearGame []) (gameAt .gameOver base) = (.ok, []) :=
  ⟨by decide, modes_modeLaw, modes_timerLaw, by decide, by decide, by decide, by decide⟩

/-! ### Writes and definitions -/

theorem witness_PlayerRecordsAreWritten :
    (base.glk.waiting = false ∧ idle.gpc.game = .idle ∧ base.gpc.game ≠ .idle ∧ base.gpc.game ≠ .gameOver) ∧
    ([(1 : Byte), 7, 0, 0xE1, 0xF5, 5, 0, 10].length = 8 ∧ byteAt [1, 7, 0, 0xE1, 0xF5, 5, 0, 10] 0 = 0 + 1 ∧
      base.ptb.players[0]? = some .created ∧ byteAt [1, 7, 0, 0xE1, 0xF5, 5, 0, 10] 1 < 8 ∧
      said (.writePlayer [1, 7, 0, 0xE1, 0xF5, 5, 0, 10]) base = (.clamped, []) ∧
      ((after (.writePlayer [1, 7, 0, 0xE1, 0xF5, 5, 0, 10]) base).ptb.players[0]?).map
        (fun r => (r.bonus, r.bonusMult, r.extraBalls)) = some (99999999, 1, 9)) ∧
    (6 < 7 ∧ base.ptb.players.length < 3 ∧ 8 ≤ 8) ∧
    ([(12 : Byte), 0xB8, 0x0B].length = 3 ∧ numberAt [12, 0xB8, 0x0B] 1 2 = 3000 ∧ base.gpc.current = some (0 + 1) ∧
      base.tmu.timers[(0 : Fin 16)] = none ∧ said (.setPlayfieldMult [12, 0xB8, 0x0B]) base = (.clamped, []) ∧
      (after (.setPlayfieldMult [12, 0xB8, 0x0B]) base).tmu.timers[(0 : Fin 16)] =
        some ⟨.running, .oneShot, 3000, none, 3000, true, .pfMult⟩) ∧
    (base.withTimer 5 (some (.oneShotFor .pfMult 1800))).tmu.timers[(5 : Fin 16)] = some (.oneShotFor .pfMult 1800) ∧
    (gameAt .ballOver base).gpc.game ≠ .inPlay ∧ (∀ w : Fin 16, (allTimers base).tmu.timers[w] ≠ none) ∧
    ([(2 : Byte), 0, 0x0F, 0x27, 7].length = 5 ∧ numberAt [2, 0, 0x0F, 0x27, 7] 2 2 = 9999 ∧
      byteAt [2, 0, 0x0F, 0x27, 7] 4 ≤ 7 ∧ byteAt [2, 1, 0, 0, 0] 1 = 1 ∧ 9999 < 10000 ∧ 7 < 8) := by decide

theorem test_no_multiplier_timer (w : Fin 16) (k : Timer) (h : (allTimers base).tmu.timers[w] = some k) : k.binding ≠ .pfMult := by
  have key : ∀ w : Fin 16, ∀ k ∈ (allTimers base).tmu.timers[w], k.binding ≠ .pfMult := by decide
  exact key w k h

/-- A subtraction below the limit, threshold and flag as in the spec's figures (04, 4.9). -/
theorem test_adjust_score_subtracts :
    said (.adjustScore [1, 1, 1, 0, 6]) (base.withPlayer 0 { Player.created with
      score := 999999999999, scoreLimitReported := true }) = (.ok, numberBytes 5 999998999999) := by decide

theorem witness_CountersAreWrittenAndDefined :
    (counting.glk.waiting = false ∧ idle.gpc.game = .idle ∧ counting.gpc.game ≠ .idle ∧ counting.gpc.game ≠ .gameOver) ∧
    (1 < byteAt [2] 0 ∧ 16 ≤ byteAt [0, 16] 1 ∧ 32 ≤ byteAt [1, 32] 1) ∧
    (counting.ptb.playerDefs[(15 : Fin 16)] = ⟨3, 3, some 0, .repeats, .extraBall⟩ ∧ 2 = 3 - 1 ∧
      [(0 : Byte), 15, 1, 3, 0].length = 5 ∧ byteAt [0, 15, 1, 3, 0] 1 = (15 : Fin 16).val ∧
      counting.ptb.players[0]? = some .created ∧ said (.writeCounter [0, 15, 1, 3, 0]) counting = (.clamped, []) ∧
      said (.writeCounter [0, 15, 7, 3, 0]) counting = (.outOfRange, []) ∧
      said (.writeCounter [0, 15, 3, 3, 0]) counting = (.wrongState, [])) ∧
    (counting.ptb.commonDefs[(31 : Fin 32)] = ⟨2, 2, none, .hold, .lightLock⟩ ∧
      said (.writeCounter [1, 31, 0, 2, 0]) counting = (.ok, []) ∧
      [(1 : Byte), 31, 6, 0].length = 4 ∧ said (.stageTarget [1, 31, 6, 0]) counting = (.ok, []) ∧
      (after (.stageTarget [1, 31, 6, 0]) counting).ptb.commonDefs[(31 : Fin 32)] = ⟨2, 2, some 6, .hold, .lightLock⟩) ∧
    ([(1 : Byte), 7, 10, 0, 1, 1, 2].length = 7 ∧ AfterReach.hold.code.toNat = byteAt [1, 7, 10, 0, 1, 1, 2] 4 ∧
      (2 : Fin 4).val = byteAt [1, 7, 10, 0, 1, 1, 2] 6 ∧
      (after (.defineCounter [1, 7, 10, 0, 1, 1, 2]) idle).ptb.commonDefs[(7 : Fin 32)] = ⟨10, 10, none, .hold, .notify 2⟩) ∧
    (5 < 6 ∧ 3 < byteAt [0, 0, 0, 0, 0, 1, 4] 6 ∧ 31 < byteAt [0, 0, 0, 0, 0, 3, 32] 6) := by decide

theorem witness_RulesReadBackAsDefined :
    (idle.glk.waiting = false ∧ idle.gpc.game = .idle ∧ idle.ruleAgrees 127 (.scoring .close 15 []) = true ∧
      idle.ruleAgrees 60 (.scoring .close 15 []) = false) ∧
    ([(127 : Byte), 0, 9, 9, 9, 1, 9, 9, 9, 9, 9].length = 6 + 5 * 1 ∧ 128 ≤ byteAt [128] 0 ∧ 4 ≤ byteAt [0, 4] 1 ∧
      4 < byteAt [0, 1, 0, 0, 0, 5] 5 ∧ byteAt [127, 0, 9, 9, 9, 1, 9, 9, 9, 9, 9] 1 = 0) ∧
    (1 < byteAt [5, 1, 0, 2] 3 ∧ 15 < byteAt [5, 2, 0, 1, 16] 4 ∧ 5 < byteAt [5, 3, 6] 2 ∧ 0 < byteAt [61, 3, 0, 0, 0, 1] 5 ∧
      31 < byteAt [127, 1, 0, 1, 0, 1, 6, 32, 0, 0, 0] (6 + 5 * 0 + 1)) ∧
    said (.defineRule [127, 1, 0, 1, 0, 1, 6, 32, 0, 0, 0]) idle = (.outOfRange, []) ∧
    said (.defineRule [127, 0, 9, 9, 9, 1, 9, 9, 9, 9, 9]) idle = (.ok, []) ∧
    said (.readRule [23]) base = (.ok, Rule.bytes (.scoring .close 5 [.score ⟨5, 4⟩ true])) := by decide

theorem witness_rule_in_range : Rule.InRange (.scoring .close 15 [.bonusMult 9, .score ⟨9999, 7⟩ true]) := by
  refine ⟨by decide, fun a h => ?_⟩
  rcases List.mem_cons.mp h with rfl | h
  · exact ⟨by decide, by decide⟩
  · obtain rfl := List.mem_singleton.mp h; rfl

/-- The payload of a HURRY template: priority 15, claim set 4, start 5 × 10^6, floor 1 × 10^6, decay 26, unit exponent 4. -/
def hurryBytes : List Byte :=
  [31, 1, 15, 2, 16, 0, 5, 0, 6, 1, 1, 0, 0, 0, 0, 0, 0, 0, 255, 0, 7, 1, 1, 0, 1, 0, 6, 26, 4, 100, 0]

/-- The template it stands for. -/
def hurryTemplate : Template :=
  ⟨15, .hurry ⟨⟨1, 6⟩, 26, 4, 100⟩, 16, ⟨5, 6⟩, 1, true, none, some 0, 7, true, true, true⟩

theorem witness_DefineTemplateReplacesTheTemplate :
    (idle.glk.waiting = false ∧ idle.gpc.game = .idle ∧ hurryBytes.length = 31) ∧
    ((31 : Fin 32).val = byteAt hurryBytes 0 ∧ byteAt hurryBytes 1 = 1 ∧ byteAt hurryBytes 3 = 2 ∧
      (∀ g : Fin 16, hurryTemplate.claims.getLsbD g.val = (numberAt hurryBytes 4 2).testBit g.val) ∧
      1 * 10 ^ 6 ≤ 5 * 10 ^ 6) ∧ 1 < byteAt [0, 2] 1 ∧ 15 < byteAt [0, 1, 16] 2 ∧
    (after (.defineTemplate hurryBytes) idle).mst.templates[(31 : Fin 32)] = some hurryTemplate ∧
    (after (.defineTemplate (0 :: 0 :: hurryBytes.drop 2)) idle).mst.templates[(0 : Fin 32)] = none := by decide

theorem witness_ParametersAndThresholdsReadBack :
    (idle.glk.waiting = false ∧ idle.gpc.game = .idle) ∧
    ([(10 : Byte), 6, 12, 1, 2].length = 5 ∧ byteAt [10, 6, 12, 1, 2] 0 ≤ 10 ∧ byteAt [11] 0 = 11 ∧
      said (.setGameParams [10, 6, 12, 1, 2]) idle = (.ok, []) ∧ said (.setGameParams [11, 6, 12, 1, 2]) idle = (.outOfRange, [])) ∧
    ([(6 : Byte), 4, 6, 1, 0, 1, 1, 0, 6, 5, 0, 5, 1, 0, 6].length = 15 ∧ 4 ≤ idle.gpc.params.installed ∧
      (⟨1, 6⟩ : PointValue).inRange = true ∧
      said (.setLockParams [6, 4, 6, 1, 0, 1, 1, 0, 6, 5, 0, 5, 1, 0, 6]) idle = (.ok, []) ∧
      said (.setLockParams [6, 5, 6, 1, 0, 1, 1, 0, 6, 5, 0, 5, 1, 0, 6]) idle = (.outOfRange, [])) ∧
    3 ≤ (3 : Byte).toNat ∧
    ((∀ th ∈ ([⟨5000000, false⟩, ⟨999999999999, true⟩] : List Threshold), th.value ≤ 999999999999) ∧
      ([⟨5000000, false⟩, ⟨999999999999, true⟩] : List Threshold).Pairwise (fun a b => a.value < b.value) ∧
      said (.defineThresholds (thresholdBytes [⟨5000000, false⟩, ⟨999999999999, true⟩])) idle = (.ok, [])) ∧
    (¬ ([⟨5, false⟩, ⟨5, true⟩] : List Threshold).Pairwise (fun a b => a.value < b.value) ∧
      1 < byteAt [1, 0, 0, 0, 0, 0, 2] (6 * 0 + 6)) := by decide

/-! ### One step of the commands not met above; the answers are those of R184 to R189, R201 to R207 -/

theorem test_switch_report :
    (after (.switchReport 0x97 true) base).swi.queue = [⟨23, .scoring, 1⟩] ∧
    (after (.switchReport 0x97 false) base).swi.queue = [] ∧ (after (.switchReport 0x17 true) base).swi.queue = [] := by decide

theorem test_ticks : ((after .tmuTick modes).tmu.timers[(0 : Fin 16)]).map Timer.remaining = some 1799 ∧
    ((after .bdtTick (dev 0 { trough with ejectTimer := some 150, ejectPending := 1 } base)).bdt.devices[(0 : Fin 6)]).ejectTimer =
      some 149 := by decide

/-- The first expiry of the spec's jammed lock (06, 6.8), and the third. -/
theorem test_eject_expiry :
    (after (.ejectExpiry 1) (ejectDue 1 (dev 1 { lock with occupancy := 1, ejectPending := 1, ejectTimer := some 1 } base))).bdt.devices[(1 : Fin 6)] =
      { lock with occupancy := 1, ejectPending := 1, ejectTimer := some 100, retries := 1 } := by decide

theorem test_third_eject_expiry :
    (after (.ejectExpiry 1)
      (ejectDue 1 (dev 1 { lock with occupancy := 1, ejectPending := 1, ejectTimer := some 1, retries := 2 } base))).bdt.devices[(1 : Fin 6)] =
      { lock with occupancy := 1, retries := 3, faulted := true, replaced := 1 } := by decide

theorem test_short_frame_answer : (after (.shortFrame [0x31]) base).glk.response = ⟨0x31, .badLength, []⟩ := by decide
theorem test_unknown_request_answer : (after (.unknownRequest 0x68 [9]) base).glk.response = ⟨0x68, .unknownRequest, []⟩ := by
  decide
theorem test_nop : said (.nop []) base = (.ok, []) ∧ said (.nop [0]) base = (.badLength, []) := by decide

theorem test_read_game :
    said (.readGame []) base = (.ok, [2, 0, 2, 1, 1, 3, 0, 0, 0, 0, 0, 0, 0, 0, 1, 1]) := by decide
theorem test_read_queue : said (.readQueue []) (crowded 23 1) = (.ok, [24, 2, 0]) := by decide
theorem test_read_stack : said (.readStack []) modes = (.ok, [2, 0, 4, 1, 2]) := by decide
theorem test_read_counter : said (.readCounter [0, 15, 1]) counting = (.ok, [0, 0, 3, 0, 1, 0, 0, 0, 4, 0, 0]) := by decide
theorem test_read_player : said (.readPlayer [3]) base = (.wrongState, []) ∧
    (said (.readPlayer [2]) base).2.length = 48 := by decide
theorem test_read_device : said (.readDevice [1]) (claims base) =
    (.ok, [1, 2, 3, 62, 63, 100, 0, 1, 1, 2, 0, 0, 0, 0, 0, 0, 1, 4, 1, 2, 1, 2]) := by decide
theorem test_read_timer : said (.readTimer [5]) modes = (.ok, [5, 1, 0, 0x2C, 1, 200, 0, 0x2C, 1, 1, 4, 0xFF, 0]) := by decide
theorem test_read_params : said (.readParams [0]) base = (.ok, [3, 4, 4, 0, 0]) ∧
    said (.readParams [1]) base = (.ok, [3, 3, 1, 0, 0, 0, 1, 0, 6, 5, 0, 5, 1, 0, 7]) := by decide

theorem test_inject_switch : said (.injectSwitch [24]) (crowded 3 254) = (.ok, [4, 1]) ∧
    said (.injectSwitch [0]) base = (.undefined, [0, 0]) ∧ said (.injectSwitch [23]) (crowded 23 1) = (.queueFull, [24, 0]) := by
  decide

theorem test_recount : said (.recount [3, 0, 0, 0, 0, 0, 1]) base = (.ok, []) ∧
    said (.recount [3, 0, 0, 0, 0, 0, 2]) base = (.outOfRange, []) := by decide
theorem test_clear_device_fault : said (.clearDeviceFault [1]) base = (.wrongState, []) ∧
    (after (.clearDeviceFault [1]) (dev 1 { lock with faulted := true, retries := 3, replaced := 1 } base)).bdt.devices[(1 : Fin 6)] =
      lock := by decide
theorem test_add_ball : said (.addBall []) base = (.wrongState, []) ∧ said (.addBall []) (multiball base) = (.ok, []) := by decide

theorem test_user_timers : said (.allocTimer [2, 0x2C, 1, 1]) modes = (.ok, [2]) ∧
    said (.stopTimer [5]) modes = (.ok, [0x2C, 1]) ∧ said (.freeTimer [5]) modes = (.ok, []) ∧
    said (.stagePeriod [5, 0, 0]) modes = (.outOfRange, []) ∧ said (.stagePeriod [0, 1, 0]) modes = (.wrongState, []) := by decide

theorem test_notices : said (.ackNotice [97]) noticed = (.ok, [100]) ∧ said (.ackNotice [96]) noticed = (.notPending, []) ∧
    said (.ackNotice [0]) noticed = (.outOfRange, []) ∧ said (.setNoticeEnable [0x3F]) noticed = (.ok, [0x3F]) ∧
    (after (.setNoticeEnable [0x5E]) noticed).attnLow = false := by decide

/-- The bonus of a ball that ends, with bonus 200,000 and multiplier 2 over a score of 1,000,000 (09, 9.13). -/
theorem test_bonus_at_ball_end :
    ((State.bonusCredit (base.withPlayer 0 { Player.created with score := 1000000, bonus := 200000, bonusMult := 2 }) 1).ptb.players[0]?).map
      Player.score = some 1400000 := by decide

end Sys2Proof.Tests
end

section
/-! PROOFS. Switch intake (02): the place of a report in the event queue, and what INJECT_SWITCH makes of it. -/

namespace Sys2Proof.Machine

/-! ### The place of a report (R23 to R25) -/

/-- A scoring report coalesces exactly when the tail is a scoring entry of its switch with room in its count (R23). -/
theorem coalesces_iff {queue : List Entry} {sw : Fin 128} :
    coalesces queue sw = true ↔ ∃ init k, queue = init ++ [⟨sw, .scoring, k⟩] ∧ k < 255 := by
  rcases List.eq_nil_or_concat queue with rfl | ⟨init, ⟨sw', cls, k⟩, rfl⟩
  · simp [coalesces]
  · simp [coalesces, and_assoc]

/-- Coalescing raises the count of the tail and leaves what stands before it (R23). -/
@[simp] theorem coalesced_concat (init : List Entry) (e : Entry) :
    coalesced (init ++ [e]) = init ++ [{ e with count := e.count + 1 }] := by
  induction init with
  | nil => rfl
  | cons x init ih =>
    rw [List.cons_append, coalesced, ih, List.cons_append]
    simp

section
variable {queue : List Entry} {sw : Fin 128} {cls : EntryClass}

theorem place_scoring_coalesced {init : List Entry} {k : Nat} (hk : k < 255) :
    place (init ++ [⟨sw, .scoring, k⟩]) sw .scoring = .coalesced (init ++ [⟨sw, .scoring, k + 1⟩]) := by
  have hc : coalesces (init ++ [⟨sw, .scoring, k⟩]) sw = true := coalesces_iff.mpr ⟨init, k, rfl, hk⟩
  simp [place, hc]

/-- A tail that is of another switch or class, or whose count is at its limit, takes no report (R23). -/
theorem coalesces_eq_false (h : ∀ init k, queue = init ++ [⟨sw, .scoring, k⟩] → 255 ≤ k) :
    coalesces queue sw = false := by
  rw [Bool.eq_false_iff, ne_eq, coalesces_iff]
  rintro ⟨init, k, hq, hk⟩
  exact absurd (h init k hq) (by omega)

theorem place_scoring_appended (hc : coalesces queue sw = false) (hl : queue.length ≤ 23) :
    place queue sw .scoring = .appended (queue ++ [⟨sw, .scoring, 1⟩]) := by
  simp [place, hc, hl]

theorem place_scoring_dropped (hc : coalesces queue sw = false) (hl : 24 ≤ queue.length) :
    place queue sw .scoring = .dropped := by
  simp [place, hc, show ¬ queue.length ≤ 23 by omega]

theorem place_device_appended (hd : cls ≠ .scoring) (hl : queue.length ≤ 31) :
    place queue sw cls = .appended (queue ++ [⟨sw, cls, 1⟩]) := by
  simp [place, hd, hl]

theorem place_device_dropped (hd : cls ≠ .scoring) (hl : 32 ≤ queue.length) :
    place queue sw cls = .dropped := by
  simp [place, hd, show ¬ queue.length ≤ 31 by omega]

end

/-! ### INJECT_SWITCH (R29) -/

section
variable {s : State} {b : Byte} {sw : Fin 128} {cls : EntryClass} {q : List Entry}

/-- The switch an injected report names. -/
theorem injected_index (hs : sw.val = b.toNat) : index? 128 (byteAt [b] 0) = some sw := index?_eq_some.mpr hs

/-- A frame of one byte is SWI's to judge, in every game state. -/
theorem exec_injectSwitch (hw : s.glk.waiting = false) : exec (.injectSwitch [b]) s =
    .next ((injectSwitch [b] s).1.answer 0x09 (injectSwitch [b] s).2.status (injectSwitch [b] s).2.payload) :=
  takeRequest_owner hw rfl (by simp) (.inl rfl)

theorem exec_injectSwitch_outOfRange (hw : s.glk.waiting = false) (hb : 128 ≤ b.toNat) :
    exec (.injectSwitch [b]) s = .next (s.answer 0x09 .outOfRange [small s.swi.queue.length, 0]) := by
  have hi : index? 128 (byteAt [b] 0) = none := index?_eq_none.mpr hb
  simp only [exec_injectSwitch hw, injectSwitch, hi, State.injectAnswer]

theorem exec_injectSwitch_undefined (hw : s.glk.waiting = false) (hs : sw.val = b.toNat)
    (hr : (s.evl.rules[sw]).injectedClass = none) :
    exec (.injectSwitch [b]) s = .next (s.answer 0x09 .undefined [small s.swi.queue.length, 0]) := by
  simp only [exec_injectSwitch hw, injectSwitch, injected_index hs, hr, State.injectAnswer]

theorem exec_injectSwitch_coalesced (hw : s.glk.waiting = false) (hs : sw.val = b.toNat)
    (hr : (s.evl.rules[sw]).injectedClass = some cls) (hp : place s.swi.queue sw cls = .coalesced q) :
    exec (.injectSwitch [b]) s = .next ((s.setQueue q).answer 0x09 .ok [small q.length, 1]) := by
  simp only [exec_injectSwitch hw, injectSwitch, injected_index hs, hr, hp, State.injectAnswer, State.setQueue_swi]

theorem exec_injectSwitch_appended (hw : s.glk.waiting = false) (hs : sw.val = b.toNat)
    (hr : (s.evl.rules[sw]).injectedClass = some cls) (hp : place s.swi.queue sw cls = .appended q) :
    exec (.injectSwitch [b]) s = .next ((s.setQueue q).answer 0x09 .ok [small q.length, 2]) := by
  simp only [exec_injectSwitch hw, injectSwitch, injected_index hs, hr, hp, State.injectAnswer, State.setQueue_swi]

/-- Where a Switch Port report would be dropped, the injected one is refused and the state stands. -/
theorem exec_injectSwitch_queueFull (hw : s.glk.waiting = false) (hs : sw.val = b.toNat)
    (hr : (s.evl.rules[sw]).injectedClass = some cls) (hp : place s.swi.queue sw cls = .dropped) :
    exec (.injectSwitch [b]) s = .next (s.answer 0x09 .queueFull [small s.swi.queue.length, 0]) := by
  simp only [exec_injectSwitch hw, injectSwitch, injected_index hs, hr, hp, State.injectAnswer]

end

/-- A device rule gives an injected report its own class, which does not score. -/
theorem Rule.injectedClass_device {r : Rule} {d : Fin 6} {cls : EntryClass}
    (h : (r = .deviceExit d ∧ cls = .deviceExit) ∨ ∃ g l, r = .deviceEntry d g l ∧ cls = .deviceEntry) :
    r.injectedClass = some cls ∧ cls ≠ .scoring := by
  rcases h with ⟨rfl, rfl⟩ | ⟨g, l, rfl, rfl⟩ <;> exact ⟨rfl, nofun⟩

/-- Settles O23: each clause is one outcome of INJECT_SWITCH, at the place the queue gives the report. -/
theorem injectedReportsAreAdmitted : Obligations.InjectedReportsAreAdmitted := by
  intro s b hw
  refine ⟨exec_injectSwitch_outOfRange hw, fun sw hs => ⟨?ignored, ?scoring, ?device⟩⟩
  case ignored =>
    intro hr
    exact exec_injectSwitch_undefined hw hs (by rw [hr]; rfl)
  case scoring =>
    intro e g l hr
    have hcls : (s.evl.rules[sw]).injectedClass = some .scoring := by rw [hr]; rfl
    refine ⟨fun init k hq hk => ?_, fun hfull => ?_⟩
    · have hp := place_scoring_coalesced (sw := sw) (init := init) hk
      rw [← hq] at hp
      simpa [hq, State.setQueue] using exec_injectSwitch_coalesced hw hs hcls hp
    · have hc := coalesces_eq_false hfull
      refine ⟨fun hl => ?_, fun hl => ?_⟩
      · simpa [State.setQueue] using exec_injectSwitch_appended hw hs hcls (place_scoring_appended hc hl)
      · exact exec_injectSwitch_queueFull hw hs hcls (place_scoring_dropped hc hl)
  case device =>
    intro d cls hr
    obtain ⟨hcls, hd⟩ := Rule.injectedClass_device hr
    refine ⟨fun hl => ?_, fun hl => ?_⟩
    · simpa [State.setQueue] using exec_injectSwitch_appended hw hs hcls (place_device_appended hd hl)
    · exact exec_injectSwitch_queueFull hw hs hcls (place_device_dropped hd hl)

end Sys2Proof.Machine
end

section
/-! PROOFS. Award evaluation (03): the records that touch only a player's record, BONUS, BONUS_MULT, EXTRA_BALL. -/

namespace Sys2Proof.Machine

/-! ### Player records: the current player, bonus, bonus_mult and extra balls (R49, R50, R54) -/

section
variable {s : State} {n : Nat} {r : Player}

theorem State.currentPlayer_eq (hc : s.gpc.current = some n) : s.currentPlayer = n := by
  simp [State.currentPlayer, hc]

theorem State.addBonus_present (points : Nat) (hr : s.ptb.players[n]? = some r) :
    s.addBonus (n + 1) points = s.withPlayer n { r with bonus := min (r.bonus + points) 99999999 } :=
  State.modifyPlayer_present _ hr

theorem State.raiseBonusMult_present (m : Nat) (hr : s.ptb.players[n]? = some r) :
    s.raiseBonusMult (n + 1) m = s.withPlayer n { r with bonusMult := min (r.bonusMult + m) 99 } :=
  State.modifyPlayer_present _ hr

/-- One more ball below the nine of R54. -/
theorem State.giveExtraBall_below (hr : s.ptb.players[n]? = some r) (h : r.extraBalls < 9) :
    s.giveExtraBall (n + 1) = (s.withPlayer n { r with extraBalls := r.extraBalls + 1 }).raise .extraBall := by
  simp only [State.giveExtraBall, State.player?, hr, if_pos h, State.modifyPlayer_present _ hr]

/-- No tenth ball, and no notice of one (R54). -/
theorem State.giveExtraBall_full (hr : s.ptb.players[n]? = some r) (h : 9 ≤ r.extraBalls) :
    s.giveExtraBall (n + 1) = s := by
  simp only [State.giveExtraBall, State.player?, hr, if_neg (Nat.not_lt.mpr h)]

end

/-! ### The gathering law of R50 -/

/-- Two changes of one record are their composite; a player without a record has neither. -/
theorem State.modifyPlayer_modifyPlayer (s : State) (p : Nat) (f g : Player → Player) :
    (s.modifyPlayer p f).modifyPlayer p g = s.modifyPlayer p (g ∘ f) := by
  cases p with
  | zero => rfl
  | succ n => simp only [State.modifyPlayer, List.modify_modify_eq]

/-- A cap reached early is the cap reached late: raises held at 99 one by one are held at 99 together. -/
theorem State.raiseBonusMult_raiseBonusMult (s : State) (p a b : Nat) :
    (s.raiseBonusMult p a).raiseBonusMult p b = s.raiseBonusMult p (a + b) := by
  have held (v : Nat) : min (min (v + a) 99 + b) 99 = min (v + (a + b)) 99 := by omega
  simp only [State.raiseBonusMult, State.modifyPlayer_modifyPlayer, Function.comp_def, held]

@[simp] theorem State.raiseBonusMult_currentPlayer (s : State) (p m : Nat) :
    (s.raiseBonusMult p m).currentPlayer = s.currentPlayer := by
  simp only [State.currentPlayer, State.raiseBonusMult, State.modifyPlayer_gpc]

/-- An entry of count k followed by one of count j raises bonus_mult as an entry that gathered both (R50). -/
theorem State.performAward_bonusMult_gathers (s : State) (k j m : Nat) :
    (s.performAward k (.bonusMult m)).performAward j (.bonusMult m) = s.performAward (k + j) (.bonusMult m) := by
  simp only [State.performAward, State.raiseBonusMult_currentPlayer, State.raiseBonusMult_raiseBonusMult, Nat.mul_add]

/-- Settles O28: each record is its change of the current player's record, and BONUS_MULT gathers. -/
theorem bonusAndExtraBallRecords : Obligations.BonusAndExtraBallRecords := by
  intro s n k m r hc hr
  have hp : s.currentPlayer = n + 1 := State.currentPlayer_eq hc
  refine ⟨fun v => ?bonus, ?bonusMult, fun j => s.performAward_bonusMult_gathers k j m, fun h => ?ball, fun h => ?full⟩
  case bonus => simp only [State.performAward, hp, State.addBonus_present _ hr, PointValue.worth]
  case bonusMult => simp only [State.performAward, hp, State.raiseBonusMult_present _ hr]
  case ball => simp only [State.performAward, hp, State.giveExtraBall_below hr h]
  case full => simp only [State.performAward, hp, State.giveExtraBall_full hr h]

end Sys2Proof.Machine
end

section
/-! PROOFS. Ball devices and timers (06, 08): the eject request, and what READ_DEVICE and READ_TIMER answer. -/

namespace Sys2Proof.Machine

/-! ### What an eject request adds (R116) -/

theorem Device.adds_ready {r : Device} {x : DeviceDef} (n : Nat) (hd : r.definition = some x)
    (hf : r.faulted = false) : r.adds n = min n (r.occupancy - r.ejectPending) := by
  simp [Device.adds, Device.present, hd, hf]

/-- Nothing is added exactly where R116 drops the request, asks for none or finds every ball asked for. -/
theorem Device.adds_eq_zero_iff {r : Device} {n : Nat} :
    r.adds n = 0 ↔ r.definition = none ∨ r.faulted = true ∨ n = 0 ∨ r.occupancy ≤ r.ejectPending := by
  cases hd : r.definition with
  | none => simp [Device.adds, Device.present, hd]
  | some x =>
    cases hf : r.faulted with
    | true => simp [Device.adds, hf]
    | false =>
      simp only [Device.adds_ready n hd hf, reduceCtorEq, Bool.false_eq_true, false_or]
      omega

theorem Device.timeout_present {r : Device} {x : DeviceDef} (hd : r.definition = some x) : r.timeout = x.timeout := by
  simp [Device.timeout, hd]

section
variable {s : State} {d : Fin 6} {n : Nat}

theorem State.requestEject_dropped (h : (s.device d).adds n = 0) : s.requestEject d n = (s, 0) := by
  rcases s.requestEject_cases d n with ⟨_, he⟩ | ⟨h0, _⟩ | ⟨h0, _⟩
  · exact he
  · omega
  · omega

/-- The first balls asked for start the timer and raise EJECT_REQ. -/
theorem State.requestEject_starts (h : 0 < (s.device d).adds n) (hp : (s.device d).ejectPending = 0) :
    s.requestEject d n =
      ((s.withDevice d { s.device d with
        ejectPending := (s.device d).adds n, retries := 0, ejectTimer := some (s.device d).timeout }).raise
          (.ejectReq d), (s.device d).adds n) := by
  rcases s.requestEject_cases d n with ⟨h0, _⟩ | ⟨_, _, he⟩ | ⟨_, hp', _⟩
  · omega
  · exact he
  · omega

/-- A device that is being asked keeps its timer and its retries, and raises nothing. -/
theorem State.requestEject_joins (h : 0 < (s.device d).adds n) (hp : (s.device d).ejectPending ≠ 0) :
    s.requestEject d n =
      (s.withDevice d { s.device d with ejectPending := (s.device d).ejectPending + (s.device d).adds n },
        (s.device d).adds n) := by
  rcases s.requestEject_cases d n with ⟨h0, _⟩ | ⟨_, hp', _⟩ | ⟨_, _, he⟩
  · omega
  · exact absurd hp' hp
  · exact he

end

/-- Settles O33: the request is dropped, starts the device or joins what it is asked for, by what the device adds. -/
theorem ejectRequestsAreClamped : Obligations.EjectRequestsAreClamped := by
  rintro s d n _ rfl
  refine ⟨fun h => State.requestEject_dropped (Device.adds_eq_zero_iff.mpr h), ?_⟩
  rintro x added hd hf rfl hpos
  have hadds := Device.adds_ready (r := s.device d) n hd hf
  have htime := Device.timeout_present (r := s.device d) hd
  rw [← State.device, ← hadds] at hpos ⊢
  refine ⟨fun hp => ?starts, fun hp => State.requestEject_joins hpos hp⟩
  case starts => rw [State.requestEject_starts hpos hp, htime]

/-! ### READ_DEVICE (R122, R207) -/

/-- The number a request of one byte carries names an entry of a table. -/
theorem index?_singleton {n : Nat} {i : Fin n} {b : Byte} (h : i.val = b.toNat) : index? n (byteAt [b] 0) = some i :=
  index?_eq_some.mpr h

/-- The byte of a number is read back as written, so an image opens with it. -/
theorem small_eq_of_toNat {v : Nat} {b : Byte} (h : v = b.toNat) : small v = b := by rw [h, small_byte]

section
variable {s : State} {b : Byte}

/-- READ_DEVICE of one byte is BDT's to judge, in every game state. -/
theorem exec_readDevice (hw : s.glk.waiting = false) : exec (.readDevice [b]) s =
    .next ((readDevice [b] s).1.answer 0x30 (readDevice [b] s).2.status (readDevice [b] s).2.payload) :=
  takeRequest_owner hw rfl (by simp) (.inl rfl)

theorem exec_readDevice_outOfRange (hw : s.glk.waiting = false) (hb : 6 ≤ b.toNat) :
    exec (.readDevice [b]) s = .next (s.answer 0x30 .outOfRange []) := by
  have hi : index? 6 (byteAt [b] 0) = none := index?_eq_none.mpr hb
  simp only [exec_readDevice hw, readDevice, hi, Reply.bare]

theorem exec_readDevice_image {d : Fin 6} (hw : s.glk.waiting = false) (hd : d.val = b.toNat) :
    exec (.readDevice [b]) s = .next (s.answer 0x30 .ok (s.deviceImage d)) := by
  simp only [exec_readDevice hw, readDevice, index?_singleton hd, Reply.ok]

/-! ### READ_TIMER (R160, R207) -/

/-- READ_TIMER of one byte is TMU's to judge, in every game state. -/
theorem exec_readTimer (hw : s.glk.waiting = false) : exec (.readTimer [b]) s =
    .next ((readTimer [b] s).1.answer 0x45 (readTimer [b] s).2.status (readTimer [b] s).2.payload) :=
  takeRequest_owner hw rfl (by simp) (.inl rfl)

theorem exec_readTimer_outOfRange (hw : s.glk.waiting = false) (hb : 16 ≤ b.toNat) :
    exec (.readTimer [b]) s = .next (s.answer 0x45 .outOfRange []) := by
  have hi : index? 16 (byteAt [b] 0) = none := index?_eq_none.mpr hb
  simp only [exec_readTimer hw, readTimer, hi, Reply.bare]

variable {u : Fin 16}

theorem exec_readTimer_free (hw : s.glk.waiting = false) (hu : u.val = b.toNat) (ht : s.tmu.timers[u] = none) :
    exec (.readTimer [b]) s = .next (s.answer 0x45 .ok (s.timerImage u)) := by
  simp only [exec_readTimer hw, readTimer, index?_singleton hu, ht, Reply.ok]

theorem exec_readTimer_bound {r : Timer} (hw : s.glk.waiting = false) (hu : u.val = b.toNat)
    (ht : s.tmu.timers[u] = some r) (hr : r.binding ≠ .user) :
    exec (.readTimer [b]) s = .next (s.answer 0x45 .wrongState []) := by
  simp only [exec_readTimer hw, readTimer, index?_singleton hu, ht, if_neg hr, Reply.bare]

theorem exec_readTimer_user {r : Timer} (hw : s.glk.waiting = false) (hu : u.val = b.toNat)
    (ht : s.tmu.timers[u] = some r) (hr : r.binding = .user) :
    exec (.readTimer [b]) s = .next (s.answer 0x45 .ok (s.timerImage u)) := by
  simp only [exec_readTimer hw, readTimer, index?_singleton hu, ht, if_pos hr, Reply.ok]

end

/-- The pause byte of the image: 1 exactly for a RUNNING timer that a pause of R148 holds still. -/
theorem flagByte_paused (s : State) (r : Timer) :
    flagByte (decide (r.state = .running) && s.pauseHolds r) =
      if r.state = .running ∧ r.pauses = true ∧
        (s.lineState = .held ∨ s.gpc.game ≠ .inPlay ∨ s.bdt.ballsInPlay = 0) then 1 else 0 := by
  simp [flagByte, State.pauseHolds, or_assoc]

/-- Settles O18: each clause is one outcome of the request; an image is read off the record it is of. -/
theorem readsOfDevicesAndTimers : Obligations.ReadsOfDevicesAndTimers := by
  refine ⟨fun s b hw => ⟨exec_readDevice_outOfRange hw, ?device⟩, fun s b hw => ⟨exec_readTimer_outOfRange hw, ?timer⟩⟩
  case device =>
    rintro d _ hd rfl
    rw [exec_readDevice_image hw hd, State.deviceImage, small_eq_of_toNat hd]
    simp only [Device.definitionBytes, State.device, State.claimsOf, absentMark]
    cases (s.bdt.devices[d]).definition with
    | none => simp
    | some x => cases hk : x.kind <;> simp [DeviceKind.lockBytes, absentMark, hk]
  case timer =>
    intro u hu
    refine ⟨fun ht => ?free, fun r ht hr => exec_readTimer_bound hw hu ht hr, fun r ht hr => ?user⟩
    case free => simp only [exec_readTimer_free hw hu ht, State.timerImage, ht, small_eq_of_toNat hu, absentMark]
    case user =>
      simp only [exec_readTimer_user hw hu ht hr, State.timerImage, ht, small_eq_of_toNat hu, hr, Binding.code,
        Binding.slotByte, absentMark, flagByte_paused]

end Sys2Proof.Machine
end

section
/-! PROOFS. Locks and multiball (07): lock lighting (R128), LIGHT_LOCK (R129) and ADD_BALL (R139). -/

namespace Sys2Proof.Machine

/-- A game is in progress in every game state but IDLE and GAME_OVER. -/
theorem GameState.inProgress_eq_false_iff {g : GameState} : g.inProgress = false ↔ g = .idle ∨ g = .gameOver := by
  cases g <;> simp [GameState.inProgress]

theorem GameState.inProgress_eq_true_iff {g : GameState} : g.inProgress = true ↔ g ≠ .idle ∧ g ≠ .gameOver := by
  rw [← Bool.not_eq_false, ne_eq, inProgress_eq_false_iff, not_or]

theorem State.withPlayer_player {s : State} {n : Nat} {r : Player} (r' : Player) (hr : s.ptb.players[n]? = some r) :
    (s.withPlayer n r').player? (n + 1) = some r' := by
  obtain ⟨hn, -⟩ := List.getElem?_eq_some_iff.mp hr
  simp [State.player?, State.withPlayer, hn]

/-- A notice leaves the players' records. -/
theorem State.raise_player (s : State) (x : Source) (p : Nat) : (s.raise x).player? p = s.player? p := by
  cases p <;> rfl

/-! ### Lock lighting for the current player (R128) -/

section
variable {s : State} {n : Nat} {r : Player}

/-- A lock can be lit while multiball is OFF and both limits leave room for one more. -/
theorem State.canLight_iff (hc : s.gpc.current = some (n + 1)) (hr : s.ptb.players[n]? = some r) :
    s.canLight = true ↔ s.lmc.multiball = false ∧ r.locksLit < s.lmc.params.litMax ∧
      r.locksLit + r.locksMade < s.lmc.params.mbLocks := by
  simp [State.canLight, State.player?, State.currentPlayer_eq hc, hr, and_assoc]

/-- None can be lit exactly during multiball or at one of the two limits. -/
theorem State.canLight_eq_false_iff (hc : s.gpc.current = some (n + 1)) (hr : s.ptb.players[n]? = some r) :
    s.canLight = false ↔ s.lmc.multiball = true ∨ s.lmc.params.litMax ≤ r.locksLit ∨
      s.lmc.params.mbLocks ≤ r.locksLit + r.locksMade := by
  rw [← Bool.not_eq_true, State.canLight_iff hc hr, not_and_or, not_and_or, Bool.not_eq_false, Nat.not_lt, Nat.not_lt]

theorem State.lightLock_lit (hc : s.gpc.current = some (n + 1)) (hr : s.ptb.players[n]? = some r)
    (hl : s.canLight = true) :
    s.lightLock = (s.withPlayer n { r with locksLit := r.locksLit + 1 }).raise .lockLit := by
  simp only [State.lightLock, if_pos hl, State.currentPlayer_eq hc, State.modifyPlayer_present _ hr]

theorem State.lightLock_ignored (hl : s.canLight = false) : s.lightLock = s := by simp [State.lightLock, hl]

/-! ### LIGHT_LOCK (R129) -/

/-- LIGHT_LOCK without a payload is LMC's to judge, in every game state. -/
theorem exec_lightLock (hw : s.glk.waiting = false) : exec (.lightLock []) s =
    .next ((lightLock s).1.answer 0x33 (lightLock s).2.status (lightLock s).2.payload) :=
  takeRequest_owner hw rfl (by simp) (.inl rfl)

theorem exec_lightLock_wrongState (hw : s.glk.waiting = false) (hg : s.gpc.game = .idle ∨ s.gpc.game = .gameOver) :
    exec (.lightLock []) s = .next (s.answer 0x33 .wrongState []) := by
  have hp : s.gpc.game.inProgress = false := GameState.inProgress_eq_false_iff.mpr hg
  simp only [exec_lightLock hw, lightLock, hp, Bool.false_eq_true, if_false, Reply.bare]

/-- The counts answered are those after the lighting. -/
theorem exec_lightLock_lit (hw : s.glk.waiting = false) (hg : s.gpc.game.inProgress = true)
    (hc : s.gpc.current = some (n + 1)) (hr : s.ptb.players[n]? = some r) (hl : s.canLight = true) :
    exec (.lightLock []) s =
      .next (((s.withPlayer n { r with locksLit := r.locksLit + 1 }).raise .lockLit).answer 0x33 .ok
        [small (r.locksLit + 1), small r.locksMade]) := by
  simp only [exec_lightLock hw, lightLock, if_pos hg, if_pos hl, State.lightLock_lit hc hr hl,
    State.currentPlayer_eq hc, State.raise_player, State.withPlayer_player _ hr, Option.map_some, Option.getD_some]

/-- Where no lock can be lit the state stands, and the counts are answered as they are. -/
theorem exec_lightLock_clamped (hw : s.glk.waiting = false) (hg : s.gpc.game.inProgress = true)
    (hc : s.gpc.current = some (n + 1)) (hr : s.ptb.players[n]? = some r) (hl : s.canLight = false) :
    exec (.lightLock []) s = .next (s.answer 0x33 .clamped [small r.locksLit, small r.locksMade]) := by
  have hp : s.player? s.currentPlayer = some r := by rw [State.currentPlayer_eq hc]; exact hr
  simp only [exec_lightLock hw, lightLock, if_pos hg, State.lightLock_ignored hl, hl, Bool.false_eq_true, if_false, hp,
    Option.map_some, Option.getD_some]

/-! ### ADD_BALL (R139) -/

/-- ADD_BALL without a payload is LMC's to judge, in every game state. -/
theorem exec_addBall (hw : s.glk.waiting = false) : exec (.addBall []) s =
    .next ((addBall s).1.answer 0x35 (addBall s).2.status (addBall s).2.payload) :=
  takeRequest_owner hw rfl (by simp) (.inl rfl)

theorem exec_addBall_wrongState (hw : s.glk.waiting = false) (hm : s.lmc.multiball = false) :
    exec (.addBall []) s = .next (s.answer 0x35 .wrongState []) := by
  simp only [exec_addBall hw, addBall, if_pos hm, Reply.bare]

theorem exec_addBall_noBall (hw : s.glk.waiting = false) (hm : s.lmc.multiball = true)
    (ht : (s.device 0).faulted = true ∨ (s.device 0).occupancy ≤ (s.device 0).ejectPending) :
    exec (.addBall []) s = .next (s.answer 0x35 .noBall []) := by
  simp only [exec_addBall hw, addBall, hm, reduceCtorEq, if_false, if_pos ht, Reply.bare]

theorem exec_addBall_ok (hw : s.glk.waiting = false) (hm : s.lmc.multiball = true)
    (ht : ¬ ((s.device 0).faulted = true ∨ (s.device 0).occupancy ≤ (s.device 0).ejectPending)) :
    exec (.addBall []) s = .next ((s.requestEject 0 1).1.answer 0x35 .ok []) := by
  simp only [exec_addBall hw, addBall, hm, reduceCtorEq, if_false, if_neg ht, Reply.bare]

/-- The second part of an eject request's answer is the number of balls the device adds (R116). -/
theorem State.requestEject_added (s : State) (d : Fin 6) (k : Nat) :
    (s.requestEject d k).2 = (s.device d).adds k := by
  rcases s.requestEject_cases d k with ⟨h0, he⟩ | ⟨_, _, he⟩ | ⟨_, _, he⟩
  · rw [he, h0]
  · rw [he]
  · rw [he]

/-- A ready device with a ball not yet asked for adds the one it is asked for. -/
theorem Device.adds_one {d : Device} (hd : d.definition ≠ none) (hf : d.faulted = false)
    (hp : d.ejectPending < d.occupancy) : d.adds 1 = 1 := by
  obtain ⟨x, hx⟩ := Option.ne_none_iff_exists'.mp hd
  rw [Device.adds_ready 1 hx hf]
  omega

end

/-- Settles O42: each clause is one outcome of LIGHT_LOCK, by whether a lock can be lit, or of ADD_BALL, by whether
the trough has a ball to give. -/
theorem lockLightingAndAddBall : Obligations.LockLightingAndAddBall := by
  intro s hw
  refine ⟨exec_lightLock_wrongState hw, fun n r hi ho hc hr => ⟨?lit, ?clamped⟩, exec_addBall_wrongState hw, ?addBall⟩
  case lit =>
    intro hm hmax hlocks
    exact exec_lightLock_lit hw (GameState.inProgress_eq_true_iff.mpr ⟨hi, ho⟩) hc hr
      ((State.canLight_iff hc hr).mpr ⟨hm, hmax, hlocks⟩)
  case clamped =>
    intro h
    exact exec_lightLock_clamped hw (GameState.inProgress_eq_true_iff.mpr ⟨hi, ho⟩) hc hr
      ((State.canLight_eq_false_iff hc hr).mpr h)
  case addBall =>
    rintro _ hm rfl
    refine ⟨exec_addBall_noBall hw hm, fun hf hp hd => ⟨exec_addBall_ok hw hm ?_, ?_⟩⟩
    · rintro (hfault | hnone)
      · exact absurd (hf.symm.trans hfault) (by decide)
      · exact absurd hp (Nat.not_lt.mpr hnone)
    · rw [State.requestEject_added]
      exact Device.adds_one hd hf hp

end Sys2Proof.Machine
end

section
/-! PROOFS. Game link and notifications (10): NOP and what MISO shifts out, PEEK_NOTICE and ATTN_N. -/

namespace Sys2Proof.Machine

/-! ### NOP (R186) and MISO (R183, R185) -/

/-- NOP without a payload is taken in every game state, and its owner leaves the state as it stands. -/
theorem exec_nop {s : State} (hw : s.glk.waiting = false) : exec (.nop []) s = .next (s.answer 0x00 .ok []) :=
  takeRequest_owner hw rfl (by simp) (.inl rfl)

/-- Settles O6: NOP's owner changes nothing, and MISO is read off its definition, case by case. -/
theorem nopAnswersOk : Obligations.NopAnswersOk := by
  refine ⟨fun s hw => exec_nop hw, fun s k => ⟨fun _ => ⟨?formed, ?early⟩, fun early => ?released⟩⟩
  case formed => rfl
  case early => rfl
  case released => rfl

/-! ### The highest number and the set of numbers below n that have a property -/

section
variable {n : Nat} {p : Fin n → Bool}

/-- The search from the last number down finds the highest one that has the property. -/
theorem find?_reverse_finRange {g : Fin n} (hg : p g = true) (habove : ∀ h, g < h → p h = false) :
    (List.finRange n).reverse.find? p = some g := by
  have hlt : n - 1 - g.val < (List.finRange n).reverse.length := by
    simp only [List.length_reverse, List.length_finRange]
    omega
  refine List.find?_eq_some_iff_getElem.mpr ⟨hg, n - 1 - g.val, hlt, Fin.ext ?found, fun j hj => ?before⟩
  case found =>
    simp only [List.getElem_reverse, List.length_finRange, List.getElem_finRange, Fin.val_cast]
    omega
  case before =>
    rw [Bool.not_eq_true']
    refine habove _ (Fin.lt_def.mpr ?_)
    simp only [List.getElem_reverse, List.length_finRange, List.getElem_finRange, Fin.val_cast]
    omega

/-- The sum of the powers of two of the numbers without a property is the number whose bits say so. -/
theorem sum_two_pow_eq_ofBits (p : Fin n → Bool) :
    ((List.finRange n).map fun i => if p i then 0 else 2 ^ i.val).sum = Nat.ofBits fun i => !p i := by
  induction n with
  | zero => rfl
  | succ n ih =>
    have hdouble (i : Fin n) : (if p i.succ then 0 else 2 ^ i.succ.val) = 2 * if p i.succ then 0 else 2 ^ i.val := by
      split <;> simp [Nat.pow_succ']
    rw [Nat.ofBits_succ, List.finRange_succ, List.map_cons, List.sum_cons, List.map_map]
    simp only [Function.comp_def, hdouble, List.sum_map_mul_left, ih]
    cases p 0 <;> simp [Nat.add_comm]

end

/-- A byte has the low eight bits of the number it is made of. -/
theorem small_getLsbD {v i : Nat} (hi : i < 8) : (small v).getLsbD i = v.testBit i := by
  rw [small, BitVec.getLsbD_ofNat, decide_eq_true hi, Bool.true_and]

/-! ### Vectors and the lists they are found in (R193, R196, R197) -/

theorem Source.index_lt (x : Source) : x.index < 16 := by
  cases x <;> simp only [Source.index] <;> omega

/-- A vector is one byte. -/
theorem Source.vector_lt (x : Source) : x.vector < 256 := by
  have hg := x.group.isLt
  have hi := x.index_lt
  simp only [Source.vector]
  omega

section
variable {n : Ntu} {g : Fin 7}

theorem Ntu.calls_eq_true_iff : n.calls g = true ↔ n.enabled.getLsbD g.val = true ∧ n.lists[g] ≠ [] := by
  simp [Ntu.calls]

/-- A group does not call exactly when being enabled would mean being empty. -/
theorem Ntu.calls_eq_false_iff : n.calls g = false ↔ (n.enabled.getLsbD g.val = true → n.lists[g] = []) := by
  rw [← Bool.not_eq_true, Ntu.calls_eq_true_iff, not_and, not_not]

/-- The head of the highest group that calls is the source found. -/
theorem Ntu.nextVector_head {x : Source} {l : List Source} (hg : n.calls g = true)
    (habove : ∀ h, g < h → n.calls h = false) (hl : n.lists[g] = x :: l) : n.nextVector = x.vector := by
  simp only [Ntu.nextVector, find?_reverse_finRange hg habove, hl]

/-- With no group calling no source is found. -/
theorem Ntu.nextVector_none (hnone : ∀ g, n.calls g = false) : n.nextVector = 0 := by
  have hfind : (List.finRange 7).reverse.find? n.calls = none := by simp [hnone]
  simp only [Ntu.nextVector, hfind]

/-- The group set is the number with a bit for each list that holds a source (R203). -/
theorem Ntu.groupSet_eq_ofBits (n : Ntu) : n.groupSet = Nat.ofBits fun g : Fin 7 => !(n.lists[g]).isEmpty :=
  sum_two_pow_eq_ofBits fun g => (n.lists[g]).isEmpty

theorem Ntu.groupSet_bit (n : Ntu) (g : Fin 7) : (small n.groupSet).getLsbD g.val = !(n.lists[g]).isEmpty := by
  rw [small_getLsbD (by omega), n.groupSet_eq_ofBits, Nat.testBit_ofBits_lt _ _ g.isLt]

theorem Ntu.groupSet_bit_seven (n : Ntu) : (small n.groupSet).getLsbD 7 = false := by
  rw [small_getLsbD (by decide), n.groupSet_eq_ofBits, Nat.testBit_ofBits_ge _ _ (Nat.le_refl 7)]

end

/-- ATTN_N is pulled low exactly when a group calls, with RESET_N high (R196). -/
theorem State.attnPulled_iff {s : State} : s.attnPulled true = true ↔ ∃ g, s.ntu.calls g = true := by
  simp [State.attnPulled, State.attnLow]

theorem State.attnPulled_eq_false_iff {s : State} : s.attnPulled true = false ↔ ∀ g, s.ntu.calls g = false := by
  simp [← Bool.not_eq_true, State.attnPulled_iff]

/-! ### PEEK_NOTICE (R197) -/

/-- PEEK_NOTICE without a payload is NTU's to answer, in every game state, and leaves the state as it stands. -/
theorem exec_peekNotice {s : State} (hw : s.glk.waiting = false) :
    exec (.peekNotice []) s = .next (s.answer 0x50 .ok [small s.ntu.nextVector, small s.ntu.groupSet]) :=
  takeRequest_owner hw rfl (by simp) (.inl rfl)

/-- Settles O21: the groups that call decide the source found and ATTN_N alike. -/
theorem peekFindsTheMostUrgentNotice : Obligations.PeekFindsTheMostUrgentNotice := by
  intro s hw
  refine ⟨_, _, exec_peekNotice hw, s.ntu.groupSet_bit, s.ntu.groupSet_bit_seven, ?urgent, ?none⟩
  case urgent =>
    intro g x l hen hl habove
    have hg : s.ntu.calls g = true := Ntu.calls_eq_true_iff.mpr ⟨hen, by simp [hl]⟩
    have hnext := Ntu.nextVector_head hg (fun h hgh => Ntu.calls_eq_false_iff.mpr (habove h hgh)) hl
    exact ⟨by rw [hnext, small_toNat x.vector_lt], State.attnPulled_iff.mpr ⟨g, hg⟩⟩
  case none =>
    intro hempty
    have hnone (g : Fin 7) : s.ntu.calls g = false := Ntu.calls_eq_false_iff.mpr (hempty g)
    exact ⟨by rw [Ntu.nextVector_none hnone]; rfl, State.attnPulled_eq_false_iff.mpr hnone⟩

end Sys2Proof.Machine
end

section
/-! PROOFS. Frame and record formats (11): the vectors of the notification sources. -/

namespace Sys2Proof.Machine

/-! ### The table of vectors, read backwards (R193, R208) -/

/-- Each row of the table reads back, over all the indices the row has. -/
theorem sourceOf?_vector (x : Source) : sourceOf? x.vector = some x := by
  cases x with
  | userTimer t => revert t; decide
  | threshold i => revert i; decide
  | counterNotify c => revert c; decide
  | modeEnded slot => revert slot; decide
  | ejectReq d => revert d; decide
  | ejectFailed d => revert d; decide
  | _ => rfl

/-- A row of the table with an index of its own names its source by that index. -/
theorem exists_of_map_index? {n i : Nat} {f : Fin n → Source} {x : Source} (h : (index? n i).map f = some x) :
    ∃ a : Fin n, a.val = i ∧ f a = x := by
  simpa only [Option.map_eq_some_iff, index?_eq_some] using h

/-- The upper half of a vector is the group's number and the lower half the index, group by group: a row with one
source has its index written in it, the others count up from the first index of the row. -/
theorem group_index_of_sourceOf? {v : Nat} {x : Source} (h : sourceOf? v = some x) :
    x.group.val + 1 = v / 16 ∧ x.index = v % 16 := by
  simp only [sourceOf?] at h
  split at h
  case h_1 hg =>
    obtain ⟨t, ht, rfl⟩ := exists_of_map_index? h
    exact ⟨hg.symm, ht⟩
  case h_2 hg =>
    split at h
    case h_4 hjackpot hextra hlimit =>
      split at h
      · obtain ⟨i, hi, rfl⟩ := exists_of_map_index? h
        exact ⟨hg.symm, hi⟩
      · obtain ⟨c, hc, rfl⟩ := exists_of_map_index? h
        rw [imp_false] at hjackpot hextra hlimit
        have hfrom : 11 + c.val = v % 16 := by omega
        exact ⟨hg.symm, hfrom⟩
    all_goals cases h; exact ⟨hg.symm, Eq.symm ‹v % 16 = _›⟩
  case h_3 hg =>
    split at h
    case h_3 =>
      obtain ⟨slot, hs, rfl⟩ := exists_of_map_index? h
      exact ⟨hg.symm, hs⟩
    all_goals cases h; exact ⟨hg.symm, Eq.symm ‹v % 16 = _›⟩
  case h_4 hg =>
    split at h <;> cases h
    all_goals exact ⟨hg.symm, Eq.symm ‹v % 16 = _›⟩
  case h_5 hg =>
    obtain ⟨d, hd, rfl⟩ := exists_of_map_index? h
    exact ⟨hg.symm, hd⟩
  case h_6 hg =>
    split at h <;> cases h
    all_goals exact ⟨hg.symm, Eq.symm ‹v % 16 = _›⟩
  case h_7 hg =>
    split at h
    case h_3 hfault hoverrun =>
      obtain ⟨d, hd, rfl⟩ := exists_of_map_index? h
      rw [imp_false] at hfault hoverrun
      have hfrom : 2 + d.val = v % 16 := by omega
      exact ⟨hg.symm, hfrom⟩
    all_goals cases h; exact ⟨hg.symm, Eq.symm ‹v % 16 = _›⟩
  case h_8 => cases h

/-- A vector names a source exactly when it is the source's own. -/
theorem sourceOf?_eq_some_iff {v : Nat} {x : Source} : sourceOf? v = some x ↔ x.vector = v := by
  constructor
  · intro h
    obtain ⟨hgroup, hindex⟩ := group_index_of_sourceOf? h
    rw [Source.vector, hgroup, hindex, Nat.div_add_mod']
  · rintro rfl
    exact sourceOf?_vector x

/-! ### The table row by row (R208) -/

/-- In group 2 the counter notifications follow the eight thresholds and the three sources after them. -/
theorem Source.counterNotify_vector (c : Fin 4) : (Source.counterNotify c).vector = 43 + c.val := by
  simp only [Source.vector, Source.group, Source.index]
  omega

/-- In group 7 the failed ejects follow the tracking fault and the queue overrun. -/
theorem Source.ejectFailed_vector (d : Fin 6) : (Source.ejectFailed d).vector = 114 + d.val := by
  simp only [Source.vector, Source.group, Source.index]
  omega

/-- Settles O20: every value is the group's number times 16 plus the index, and the table reads backwards. -/
theorem vectorsNameTheSources : Obligations.VectorsNameTheSources :=
  ⟨fun _ => rfl, fun _ => rfl, rfl, rfl, rfl, Source.counterNotify_vector, fun _ => rfl, rfl, rfl, rfl, rfl, rfl,
    fun _ => rfl, rfl, rfl, rfl, rfl, rfl, rfl, rfl, Source.ejectFailed_vector, fun _ _ => sourceOf?_eq_some_iff⟩

end Sys2Proof.Machine
end

section
/-! PROOFS. What the operations of play keep, said once for all of them: the ranges of the players' records, the
counters and the locks, the pending notices, the game record and the jackpot. -/

namespace Sys2Proof.Machine

/-! ### Pending lists (R193, R194) -/

/-- The law of the pending lists, as a property of NTU alone. -/
def Ntu.Lawful (n : Ntu) : Prop := ∀ g : Fin 7, (n.lists[g]).Nodup ∧ ∀ x ∈ n.lists[g], x.group = g

theorem noticeLaw_iff {s : State} : NoticeLaw s ↔ s.ntu.Lawful := Iff.rfl

/-- Notices have joined: the law is kept, the enable set stands, and what was pending still is. -/
structure Ntu.Grows (n m : Ntu) : Prop where
  lawful : n.Lawful → m.Lawful
  enabled : m.enabled = n.enabled
  pending : ∀ x : Source, x ∈ n.lists[x.group] → x ∈ m.lists[x.group]

theorem Ntu.Grows.refl (n : Ntu) : n.Grows n := ⟨id, rfl, fun _ => id⟩

theorem Ntu.Grows.trans {n m k : Ntu} (h : n.Grows m) (h' : m.Grows k) : n.Grows k :=
  ⟨h'.lawful ∘ h.lawful, h'.enabled.trans h.enabled, fun x => h'.pending x ∘ h.pending x⟩

theorem Ntu.raise_lists (n : Ntu) (x : Source) (g : Fin 7) :
    (n.raise x).lists[g] = if g = x.group ∧ x ∉ n.lists[x.group] then n.lists[g] ++ [x] else n.lists[g] := by
  unfold Ntu.raise
  by_cases hx : x ∈ n.lists[x.group]
  · rw [if_pos hx, if_neg fun h => h.2 hx]
  · rw [if_neg hx]
    by_cases hg : g = x.group
    · subst hg
      rw [if_pos ⟨rfl, hx⟩]
      exact Vector.getElem_set_self _
    · rw [if_neg fun h => hg h.1]
      exact Vector.getElem_set_ne x.group.isLt _ fun e => hg (Fin.ext e.symm)

@[simp] theorem Ntu.raise_enabled (n : Ntu) (x : Source) : (n.raise x).enabled = n.enabled := by
  unfold Ntu.raise; split <;> rfl

theorem Ntu.grows_raise (n : Ntu) (x : Source) : n.Grows (n.raise x) where
  lawful h g := by
    rw [n.raise_lists]
    split
    · next hg =>
      obtain ⟨rfl, hx⟩ := hg
      refine ⟨List.nodup_append'.mpr ⟨(h _).1, List.nodup_singleton x, List.disjoint_singleton.mpr hx⟩, fun y hy => ?_⟩
      rcases List.mem_append.mp hy with hy | hy
      · exact (h _).2 y hy
      · rw [List.mem_singleton.mp hy]
    · exact h g
  enabled := n.raise_enabled x
  pending y hy := by
    rw [n.raise_lists]
    split
    · exact List.mem_append_left _ hy
    · exact hy

/-! ### Players' records -/

/-- Lit and made locks within the parameters (R127). -/
def Player.LocksWithin (x : LockParams) (r : Player) : Prop :=
  r.locksLit ≤ x.litMax ∧ r.locksLit + r.locksMade ≤ x.mbLocks

/-- The counters of a record within their range, 0 where the counter is disabled (R8, R9). -/
def Player.CountersWithin (defs : Vector CounterDef 16) (r : Player) : Prop :=
  ∀ i : Fin 16, r.counters[i] ≤ 65535 ∧ ((defs[i]).target = 0 → r.counters[i] = 0)

/-- The counters' definitions and values within their ranges, a disabled counter at 0 (R8, R9, R13). -/
structure Ptb.CountersLawful (b : Ptb) : Prop where
  playerDefs : ∀ i : Fin 16, (b.playerDefs[i]).InRange
  players : ∀ r ∈ b.players, r.CountersWithin b.playerDefs
  common : ∀ i : Fin 32, (b.commonDefs[i]).InRange ∧ b.commonValues[i] ≤ 65535 ∧
    ((b.commonDefs[i]).target = 0 → b.commonValues[i] = 0)

theorem counterLaw_iff {s : State} : CounterLaw s ↔
    (s.gpc.game = .idle → s.ptb.players = [] ∧ ∀ i : Fin 32, s.ptb.commonValues[i] = 0) ∧ s.ptb.CountersLawful := by
  refine and_congr_right fun _ => ⟨fun ⟨hp, hc⟩ => ⟨fun i => (hp i).1, fun r hr i => (hp i).2 r hr, hc⟩,
    fun ⟨hd, hp, hc⟩ => ⟨fun i => ⟨hd i, fun r hr => hp r hr i⟩, hc⟩⟩

/-- A record q that takes the place of record r keeps what r keeps: the ranges, the locks and the counters. -/
structure Player.Follows (x : LockParams) (defs : Vector CounterDef 16) (r q : Player) : Prop where
  inRange : r.InRange → q.InRange
  locks : r.LocksWithin x → q.LocksWithin x
  counters : r.CountersWithin defs → q.CountersWithin defs

/-- What the operations of play keep, from state s to state t. -/
structure Keeps (s t : State) : Prop where
  queue : QueueLaw s → QueueLaw t
  notices : s.ntu.Grows t.ntu
  templates : t.mst.templates = s.mst.templates
  params : t.lmc.params = s.lmc.params
  count : t.ptb.players.length = s.ptb.players.length
  ranges : PlayerLaw s → PlayerLaw t
  locks : (∀ r ∈ s.ptb.players, r.LocksWithin s.lmc.params) → ∀ r ∈ t.ptb.players, r.LocksWithin t.lmc.params
  counters : s.ptb.CountersLawful → t.ptb.CountersLawful
  gpc : { t.gpc with game := s.gpc.game } = s.gpc
  idle : t.gpc.game = .idle ↔ s.gpc.game = .idle
  jackpot : JackpotLaw s → JackpotLaw t
  common : s.gpc.game = .idle → t.ptb.commonValues = s.ptb.commonValues
  pending : t.pending = s.pending

theorem Keeps.refl (s : State) : Keeps s s :=
  ⟨id, .refl _, rfl, rfl, rfl, id, id, id, rfl, Iff.rfl, id, fun _ => rfl, rfl⟩

theorem Keeps.trans {s t u : State} (h : Keeps s t) (h' : Keeps t u) : Keeps s u where
  queue := h'.queue ∘ h.queue
  notices := h.notices.trans h'.notices
  templates := h'.templates.trans h.templates
  params := h'.params.trans h.params
  count := h'.count.trans h.count
  ranges := h'.ranges ∘ h.ranges
  locks := h'.locks ∘ h.locks
  counters := h'.counters ∘ h.counters
  gpc := by rw [← h.gpc, ← h'.gpc]
  idle := h'.idle.trans h.idle
  jackpot := h'.jackpot ∘ h.jackpot
  common hi := (h'.common (h.idle.mpr hi)).trans (h.common hi)
  pending := h'.pending.trans h.pending

/-- An operation that leaves PTB, LMC and GPC alone. -/
theorem Keeps.of_frame {s t : State} (hs : t.swi = s.swi) (hn : s.ntu.Grows t.ntu) (hm : t.mst.templates = s.mst.templates)
    (hp : t.ptb = s.ptb) (hl : t.lmc = s.lmc) (hg : t.gpc = s.gpc) (hk : t.pending = s.pending := by simp) :
    Keeps s t where
  queue := by rw [QueueLaw, QueueLaw, hs]; exact id
  notices := hn
  templates := hm
  params := by rw [hl]
  count := by rw [hp]
  ranges := by rw [PlayerLaw, PlayerLaw, hp]; exact id
  locks := by rw [hp, hl]; exact id
  counters := by rw [hp]; exact id
  gpc := by rw [hg]
  idle := by rw [hg]
  jackpot := by rw [JackpotLaw, JackpotLaw, hl, hg]; exact id
  common _ := by rw [hp]
  pending := hk

/-! ### The updates the operations are made of -/

section
variable {s t : State}

/-- An operation after others. -/
theorem Keeps.raise {x : Source} (h : Keeps s t) : Keeps s (t.raise x) :=
  h.trans (.of_frame rfl (t.ntu.grows_raise x) rfl rfl rfl rfl)

theorem State.mem_modifyPlayer {p : Nat} {f : Player → Player} {q : Player}
    (hq : q ∈ (s.modifyPlayer p f).ptb.players) :
    q ∈ s.ptb.players ∨ ∃ r, s.player? p = some r ∧ q = f r := by
  cases p with
  | zero => exact .inl hq
  | succ n =>
    obtain ⟨i, hi⟩ := List.mem_iff_getElem?.mp hq
    simp only [State.modifyPlayer, List.getElem?_modify] at hi
    cases hr : s.ptb.players[i]? with
    | none => simp [hr] at hi
    | some r =>
      by_cases hn : n = i
      · subst hn
        exact .inr ⟨r, hr, by simpa [hr, eq_comm] using hi⟩
      · exact .inl (List.mem_iff_getElem?.mpr ⟨i, by simpa [hr, hn] using hi⟩)

theorem State.mem_of_player? {p : Nat} {r : Player} (h : s.player? p = some r) : r ∈ s.ptb.players := by
  cases p with
  | zero => cases h
  | succ n => exact List.mem_of_getElem? h

@[simp] theorem State.modifyPlayer_count (s : State) (p : Nat) (f : Player → Player) :
    (s.modifyPlayer p f).ptb.players.length = s.ptb.players.length := by
  cases p <;> simp [State.modifyPlayer]

@[simp] theorem State.modifyPlayer_tables (s : State) (p : Nat) (f : Player → Player) :
    (s.modifyPlayer p f).ptb.playerDefs = s.ptb.playerDefs ∧ (s.modifyPlayer p f).ptb.commonDefs = s.ptb.commonDefs ∧
    (s.modifyPlayer p f).ptb.commonValues = s.ptb.commonValues := by
  cases p <;> simp [State.modifyPlayer]

/-- One record changed to another that keeps what it keeps. -/
theorem Keeps.modifyPlayer {p : Nat} {f : Player → Player} (h : Keeps s t)
    (hf : ∀ r, t.player? p = some r → r.Follows t.lmc.params t.ptb.playerDefs (f r)) :
    Keeps s (t.modifyPlayer p f) := by
  refine h.trans
    { queue := by simp [QueueLaw], notices := ?notices, templates := by simp, params := by simp, count := by simp,
      ranges := fun hr q hq => ?ranges,
      locks := fun hr q hq => ?locks, counters := fun hr => ⟨?defs, fun q hq => ?counters, ?common⟩, gpc := by simp,
      idle := by simp, jackpot := by simp [JackpotLaw], common := fun _ => by simp, pending := by simp }
  case notices => simpa using .refl _
  case ranges =>
    rcases State.mem_modifyPlayer hq with hq | ⟨r, hp, rfl⟩
    · exact hr q hq
    · exact (hf r hp).inRange (hr r (State.mem_of_player? hp))
  case locks =>
    rcases State.mem_modifyPlayer hq with hq | ⟨r, hp, rfl⟩
    · simpa using hr q hq
    · simpa using (hf r hp).locks (hr r (State.mem_of_player? hp))
  case counters =>
    rcases State.mem_modifyPlayer hq with hq | ⟨r, hp, rfl⟩
    · simpa using hr.players q hq
    · simpa using (hf r hp).counters (hr.players r (State.mem_of_player? hp))
  case defs => simpa using hr.playerDefs
  case common => simpa using hr.common

/-- An operation that leaves NTU, PTB, LMC and GPC alone, after others. -/
theorem Keeps.then_quiet {u : State} (h : Keeps s t) (hs : u.swi = t.swi := by simp)
    (hn : u.ntu = t.ntu := by simp)
    (hm : u.mst.templates = t.mst.templates := by simp) (hp : u.ptb = t.ptb := by simp)
    (hl : u.lmc = t.lmc := by simp) (hg : u.gpc = t.gpc := by simp) (hk : u.pending = t.pending := by simp) :
    Keeps s u :=
  h.trans (.of_frame hs (hn ▸ .refl _) hm hp hl hg hk)

theorem Keeps.ite {u : State} {c : Prop} [Decidable c] (h : Keeps s t) (h' : Keeps s u) :
    Keeps s (if c then t else u) := by split <;> assumption

theorem Keeps.setTimer {v : Fin 16} {r : Option Timer} (h : Keeps s t) : Keeps s (t.setTimer v r) :=
  h.then_quiet

theorem Keeps.modifyTimer {v : Fin 16} {f : Timer → Timer} (h : Keeps s t) :
    Keeps s (t.modifyTimer v f) := h.then_quiet

theorem Keeps.modifyHeld {v : Option (Fin 16)} {f : Timer → Timer} (h : Keeps s t) :
    Keeps s (t.modifyHeld v f) := h.then_quiet

theorem Keeps.amendTimer {v : Fin 16} {f : Timer → Timer} (h : Keeps s t) :
    Keeps s (t.amendTimer v f) := h.then_quiet

theorem Keeps.amendHeld {v : Option (Fin 16)} {f : Timer → Timer} (h : Keeps s t) :
    Keeps s (t.amendHeld v f) := h.then_quiet

theorem Keeps.releaseTimer {v : Fin 16} (h : Keeps s t) : Keeps s (t.releaseTimer v) := h.then_quiet

theorem Keeps.releaseHeld {v : Option (Fin 16)} (h : Keeps s t) : Keeps s (t.releaseHeld v) :=
  h.then_quiet

theorem Keeps.releaseBinding {b : Binding} (h : Keeps s t) : Keeps s (t.releaseBinding b) :=
  h.then_quiet

theorem Keeps.releaseBound (h : Keeps s t) : Keeps s t.releaseBound := h.then_quiet

theorem Keeps.giveBoundTimer {b : Binding} {n : Nat} (h : Keeps s t) :
    Keeps s (t.giveBoundTimer b n).1 := h.then_quiet

theorem Keeps.giveBallSave {n : Nat} (h : Keeps s t) : Keeps s (t.giveBallSave n) := h.then_quiet

theorem Keeps.setSlot {x : Fin 12} {c : Option Context} (h : Keeps s t) : Keeps s (t.setSlot x c) :=
  h.then_quiet

theorem Keeps.modifySlot {x : Fin 12} {f : Context → Context} (h : Keeps s t) :
    Keeps s (t.modifySlot x f) := h.then_quiet

theorem Keeps.leaveLists {x : Fin 12} (h : Keeps s t) : Keeps s (t.leaveLists x) := h.then_quiet

theorem Keeps.modifyDevice {d : Fin 6} {f : Device → Device} (h : Keeps s t) :
    Keeps s (t.modifyDevice d f) := h.then_quiet

theorem Keeps.device_update {b : Bdt} (h : Keeps s t) : Keeps s { t with bdt := b } := h.then_quiet

theorem Keeps.trackingFault (h : Keeps s t) : Keeps s t.trackingFault := h.device_update.raise

/-- The claim lists changed. -/
theorem Keeps.claims_update {l : Vector (List Nat) 6} (h : Keeps s t) :
    Keeps s { t with lmc := { t.lmc with claims := l } } :=
  h.trans ⟨id, .refl _, rfl, rfl, rfl, id, id, id, rfl, .rfl, id, fun _ => rfl, rfl⟩

theorem Keeps.setClaims {d : Fin 6} {l : List Nat} (h : Keeps s t) : Keeps s (t.setClaims d l) := h.claims_update

theorem Keeps.clearClaims (h : Keeps s t) : Keeps s t.clearClaims := h.claims_update

/-! ### Credits and the fields of a record (R54, R57 to R66) -/

theorem Player.Follows.refl (x : LockParams) (defs : Vector CounterDef 16) (r : Player) : r.Follows x defs r :=
  ⟨id, id, id⟩

/-- A record changed in its ranged fields only. -/
theorem Player.Follows.of_ranges {x : LockParams} {defs : Vector CounterDef 16} {r q : Player}
    (h : r.InRange → q.InRange) (hl : q.locksLit = r.locksLit) (hm : q.locksMade = r.locksMade)
    (hc : q.counters = r.counters) : r.Follows x defs q :=
  ⟨h, by rw [Player.LocksWithin, Player.LocksWithin, hl, hm]; exact id,
    by rw [Player.CountersWithin, Player.CountersWithin, hc]; exact id⟩

/-- A record changed in its locks only. -/
theorem Player.Follows.of_locks {x : LockParams} {defs : Vector CounterDef 16} {r : Player} {lit made : Nat}
    (h : r.LocksWithin x → lit ≤ x.litMax ∧ lit + made ≤ x.mbLocks) :
    r.Follows x defs { r with locksLit := lit, locksMade := made } := ⟨id, h, id⟩

theorem Keeps.giveExtraBall {p : Nat} (h : Keeps s t) : Keeps s (t.giveExtraBall p) := by
  unfold State.giveExtraBall
  split
  · split
    · next r hr hlt =>
      refine Keeps.raise (h.modifyPlayer fun r' hr' => .of_ranges ?_ rfl rfl rfl)
      obtain rfl : r = r' := Option.some.inj (hr.symm.trans hr')
      rintro ⟨h1, h2, h3, h4, h5, h6, h7, h8⟩
      exact ⟨h1, h2, h3, h4, h5, h6, h7, hlt⟩
    · exact h
  · exact h

theorem Keeps.crossThreshold {p : Nat} {i : Fin 8} {th : Threshold} (h : Keeps s t) :
    Keeps s (t.crossThreshold p i th) := by
  have hc : Keeps s (t.modifyPlayer p fun r => { r with crossed := r.crossed ||| BitVec.twoPow 8 i }) :=
    h.modifyPlayer fun r _ => .of_ranges id rfl rfl rfl
  exact .ite hc.raise.giveExtraBall hc.raise

theorem Keeps.checkThreshold {p old new : Nat} {i : Fin 8} (h : Keeps s t) :
    Keeps s (t.checkThreshold p old new i) := by
  unfold State.checkThreshold
  split
  · exact .ite h.crossThreshold h
  · exact h

theorem Keeps.thresholdCheck {p old new : Nat} (h : Keeps s t) :
    Keeps s (t.thresholdCheck p old new) :=
  foldl_keeps (Keeps s) _ (fun _ _ => Keeps.checkThreshold) _ _ h

theorem Keeps.addTotal {x : Fin 12} {n : Nat} (h : Keeps s t) : Keeps s (t.addTotal x n) := by
  unfold State.addTotal
  split
  · exact h.then_quiet
  · exact h

theorem Keeps.addPayer {x : Option (Fin 12)} {n : Nat} (h : Keeps s t) : Keeps s (t.addPayer x n) := by
  cases x with
  | none => exact h
  | some x => exact h.addTotal

theorem State.player?_modifyPlayer_same {p : Nat} {r : Player} (f : Player → Player) (h : s.player? p = some r) :
    (s.modifyPlayer p f).player? p = some (f r) := by
  cases p with
  | zero => cases h
  | succ n =>
    have hn : s.ptb.players[n]? = some r := h
    simp [State.player?, State.modifyPlayer, hn]

/-- The score rises to its limit at most, and the flag is set only at the limit (R57, R58). -/
theorem Keeps.credit {p points : Nat} {x : Option (Fin 12)} (h : Keeps s t) :
    Keeps s (t.credit p points x) := by
  unfold State.credit
  split
  · exact h
  · next r hr =>
    refine Keeps.thresholdCheck (Keeps.addPayer ?limit)
    have hscore : Keeps s (t.modifyPlayer p fun r' => { r' with score := min (r.score + points) scoreMax }) := by
      refine h.modifyPlayer fun r' hr' => .of_ranges ?_ rfl rfl rfl
      obtain rfl : r = r' := Option.some.inj (hr.symm.trans hr')
      rintro ⟨h1, h2, hrest⟩
      refine ⟨Nat.min_le_right _ _, fun hf => ?_, hrest⟩
      have := h2 hf
      simp only; omega
    unfold State.limitCheck
    split
    · next hlim =>
      refine Keeps.raise (hscore.modifyPlayer fun r' hr' => .of_ranges ?_ rfl rfl rfl)
      rw [State.player?_modifyPlayer_same _ hr] at hr'
      cases hr'
      rintro ⟨h1, -, hrest⟩
      exact ⟨h1, fun _ => Nat.min_eq_right (Nat.le_of_lt hlim.1), hrest⟩
    · exact hscore

theorem Keeps.subtractScore {p worth : Nat} (h : Keeps s t) : Keeps s (t.subtractScore p worth) := by
  refine h.modifyPlayer fun r _ => .of_ranges ?_ rfl rfl rfl
  rintro ⟨h1, h2, hrest⟩
  refine ⟨by simp only; omega, fun hf => ?_, hrest⟩
  simp only at hf ⊢
  split at hf
  · cases hf
  · omega

theorem Keeps.addBonus {p points : Nat} (h : Keeps s t) : Keeps s (t.addBonus p points) := by
  refine h.modifyPlayer fun r _ => .of_ranges ?_ rfl rfl rfl
  rintro ⟨h1, h2, h3, hrest⟩
  exact ⟨h1, h2, Nat.min_le_right _ _, hrest⟩

theorem Keeps.raiseBonusMult {p n : Nat} (h : Keeps s t) : Keeps s (t.raiseBonusMult p n) := by
  refine h.modifyPlayer fun r _ => .of_ranges ?_ rfl rfl rfl
  rintro ⟨h1, h2, h3, h4, h5, hrest⟩
  exact ⟨h1, h2, h3, by simp only; omega, Nat.min_le_right _ _, hrest⟩

theorem Keeps.bonusCredit {p : Nat} (h : Keeps s t) : Keeps s (t.bonusCredit p) := by
  unfold State.bonusCredit
  split
  · exact h
  · refine (Keeps.ite h h.credit).modifyPlayer fun r _ => .of_ranges ?_ rfl rfl rfl
    rintro ⟨h1, h2, h3, h4, h5, hrest⟩
    exact ⟨h1, h2, Nat.zero_le _, Nat.le_refl 1, by simp only; omega, hrest⟩

/-! ### The mode stack (R79 to R96) -/

theorem Keeps.enterRunning {x : Fin 12} (h : Keeps s t) : Keeps s (t.enterRunning x) :=
  h.then_quiet (hm := by rw [State.enterRunning_mst])

theorem Keeps.enterPaused {x : Fin 12} (h : Keeps s t) : Keeps s (t.enterPaused x) :=
  h.then_quiet (hm := by rw [State.enterPaused_mst])

theorem Keeps.returnPaused {p : Nat} {g : Fin 8} (h : Keeps s t) : Keeps s (t.returnPaused p g) := by
  unfold State.returnPaused
  split
  · exact h
  · split
    · exact h.enterRunning
    · exact h

theorem Keeps.enterEnded {x : Fin 12} {r : EndReason} {n : Nat} (h : Keeps s t) : Keeps s (t.enterEnded x r n) :=
  h.trans (.of_frame rfl (t.ntu.grows_raise _) rfl rfl rfl rfl)

theorem Keeps.endContext {x : Fin 12} {r : EndReason} {b : Bool} (h : Keeps s t) : Keeps s (t.endContext x r b) := by
  unfold State.endContext
  split
  · exact h
  · split
    · exact (Keeps.ite h.releaseHeld.leaveLists.returnPaused h.releaseHeld.leaveLists).enterEnded
    · exact h

theorem Keeps.endAll {w : State → Fin 12 → Bool} {r : EndReason} (h : Keeps s t) : Keeps s (t.endAll w r) :=
  foldl_keeps (Keeps s) _ (fun _ _ h => h.endContext.ite h) _ _ h

theorem Keeps.takeTimer {x : Fin 12} {tm : Template} {v : Option (Fin 16)} {n : Nat} (h : Keeps s t) :
    Keeps s (t.takeTimer x tm v n) := by
  cases v with
  | none => exact h
  | some v => exact h.setTimer.modifySlot

theorem Keeps.resumeByStart {x : Fin 12} {c : Context} {tm : Template} (h : Keeps s t) :
    Keeps s (t.resumeByStart x c tm).1 := by
  unfold State.resumeByStart
  split
  · exact h.endContext
  · dsimp only
    split
    · exact h.takeTimer.enterRunning.raise
    · split
      · exact h.takeTimer.enterPaused.raise
      · exact h.takeTimer.enterPaused.enterRunning.raise

theorem Keeps.startStanding {x : Fin 12} {c : Context} {tm : Template} (h : Keeps s t) :
    Keeps s (t.startStanding x c tm).1 := by
  unfold State.startStanding
  split
  · exact h.resumeByStart
  · split
    · exact h.modifyHeld
    · exact h

theorem Keeps.setUp {x : Fin 12} {v : Option (Fin 16)} {i : Fin 32} {tm : Template} (h : Keeps s t) :
    Keeps s (t.setUp x v i tm) := by
  have hended : Keeps s { t with mst := { t.mst with ended := t.mst.ended.erase x } } := h.then_quiet
  exact hended.setSlot.takeTimer.enterRunning.raise

theorem Keeps.startNew {i : Fin 32} {tm : Template} (h : Keeps s t) : Keeps s (t.startNew i tm).1 := by
  unfold State.startNew
  split
  · exact h
  · split
    · exact h
    · split
      · exact h.setUp
      · split
        · exact h
        · exact h.enterPaused.setUp

theorem Keeps.startMode {i : Fin 32} (h : Keeps s t) : Keeps s (t.startMode i).1 := by
  unfold State.startMode
  split
  · exact h
  · split
    · exact h
    · split
      · exact h
      · split
        · exact h
        · split
          · split
            · exact h.startStanding
            · exact h
          · exact h.startNew

theorem Keeps.autoStart {i : Fin 32} (h : Keeps s t) : Keeps s (t.autoStart i) := by
  have hs : Keeps s (t.startMode i).1 := h.startMode
  unfold State.autoStart
  split <;> simp only [*] at hs
  · exact hs.raise
  · exact hs

theorem Keeps.startNext {i : Option (Fin 32)} (h : Keeps s t) : Keeps s (t.startNext i) := by
  cases i with
  | none => exact h
  | some i => exact h.autoStart

theorem Keeps.payContext {x : Fin 12} {c : Context} {tm : Template} {w k : Nat} (h : Keeps s t) :
    Keeps s (t.payContext x c tm w k) := h.credit

theorem Keeps.complete {x : Fin 12} {c : Context} {tm : Template} {f : ShotFields} (h : Keeps s t) :
    Keeps s (t.complete x c tm f) := h.payContext.endContext.startNext

theorem Keeps.claimShot {x : Fin 12} {c : Context} {tm : Template} {f : ShotFields} {k : Nat} (h : Keeps s t) :
    Keeps s (t.claimShot x c tm f k) :=
  .ite h.payContext.modifySlot.complete (.ite h.payContext.modifySlot.modifyHeld h.payContext.modifySlot)

theorem Keeps.collect {x : Fin 12} {c : Context} {tm : Template} {k : Nat} (h : Keeps s t) :
    Keeps s (t.collect x c tm k) := h.payContext.modifySlot.endContext.startNext

theorem Keeps.claimHit {x : Fin 12} {k : Nat} (h : Keeps s t) : Keeps s (t.claimHit x k).1 := by
  unfold State.claimHit
  split
  · split
    · exact h.claimShot
    · exact h.claimShot
    · exact h.collect
  · exact h

theorem Keeps.walk {g : Fin 16} {k : Nat} {alive l : List (Fin 12)} (h : Keeps s t) :
    Keeps s (t.walk g k alive l).1 := by
  induction l generalizing t alive with
  | nil => exact h
  | cons x l ih =>
    unfold State.walk
    split
    · split
      · exact h.claimHit
      · exact ih h.claimHit
    · exact ih h

theorem Keeps.contextTimeout {x : Fin 12} (h : Keeps s t) : Keeps s (t.contextTimeout x) := by
  unfold State.contextTimeout
  split
  · exact h.endContext.startNext
  · exact h

theorem Keeps.hurryExpiry {x : Fin 12} {v : Fin 16} (h : Keeps s t) : Keeps s (t.hurryExpiry x v) := by
  unfold State.hurryExpiry
  split
  · split
    · exact .ite h.modifySlot.modifyTimer h.endContext.startNext
    · exact h
  · exact h

theorem Keeps.park {x : Fin 12} (h : Keeps s t) : Keeps s (t.park x) := by
  unfold State.park
  split
  · exact h
  · exact h.releaseHeld.leaveLists.modifySlot

theorem Keeps.parkOrEnd {x : Fin 12} (h : Keeps s t) : Keeps s (t.parkOrEnd x) := by
  unfold State.parkOrEnd
  split
  · exact h
  · exact .ite h.endContext (.ite h.endContext (.ite h.park h.endContext))

theorem Keeps.parkAll (h : Keeps s t) : Keeps s t.parkAll :=
  foldl_keeps (Keeps s) _ (fun _ _ h => h.parkOrEnd.ite h) _ _ h

theorem Keeps.resumeOne {l : List (Fin 8)} {x : Fin 12} (h : Keeps s t) : Keeps s (t.resumeOne l x).1 := by
  unfold State.resumeOne
  split
  · split
    · exact h.endContext
    · dsimp only
      split
      · exact h.takeTimer.enterPaused
      · exact h.takeTimer.enterRunning
  · exact h

theorem Keeps.resumeAll {p : Nat} (h : Keeps s t) : Keeps s (t.resumeAll p) :=
  foldl_keeps (fun a : State × List (Fin 8) => Keeps s a.1) _ (fun _ _ h => h.resumeOne) _ (t, []) h

theorem Keeps.returnsPaused {l : List (Fin 8)} (h : Keeps s t) :
    Keeps s (l.foldl (fun u g => u.returnPaused u.currentPlayer g) t) :=
  foldl_keeps (Keeps s) _ (fun _ _ h => h.returnPaused) _ _ h

theorem Keeps.freeUse {n : Nat} (h : Keeps s t) : Keeps s { t with freeUse := n } := h.then_quiet

theorem Keeps.endMbOnly (h : Keeps s t) : Keeps s t.endMbOnly := h.endAll.returnsPaused.freeUse

/-! ### Locks lit and counters (R11 to R14, R128) -/

theorem Keeps.lightLock (h : Keeps s t) : Keeps s t.lightLock := by
  unfold State.lightLock
  split
  · next hc =>
    refine Keeps.raise (h.modifyPlayer fun r hr => ⟨id, fun _ => ?_, id⟩)
    simp only [State.canLight, hr, Bool.and_eq_true, decide_eq_true_eq] at hc
    exact ⟨hc.1.2, by simp only; omega⟩
  · exact h

theorem Keeps.counterAction {a : CounterAction} (h : Keeps s t) : Keeps s (t.counterAction a) := by
  cases a with
  | none => exact h
  | notify c => exact h.raise
  | lightLock => exact h.lightLock
  | startMode i => exact h.autoStart
  | extraBall => exact h.giveExtraBall
  | bonusMult => exact h.raiseBonusMult

theorem Keeps.counterActions {a : CounterAction} {n : Nat} (h : Keeps s t) : Keeps s (t.counterActions a n) := by
  induction n generalizing t with
  | zero => exact h
  | succ n ih => exact ih h.counterAction

/-- The value an advance leaves is a two-byte number, 0 where the target becomes 0, and the targets are two-byte
numbers (R11, R12). -/
structure Advanced.InRange (a : Advanced) : Prop where
  value : a.value ≤ 65535
  target : a.target ≤ 65535
  staged : ∀ n ∈ a.staged, n ≤ 65535
  disabled : a.target = 0 → a.value = 0

theorem advanceHold_inRange {v target k : Nat} {staged : Option Nat} (ht : target ≤ 65535)
    (hs : ∀ n ∈ staged, n ≤ 65535) (h0 : 0 < target) : (advanceHold v target staged k).InRange := by
  unfold advanceHold
  split
  · exact ⟨ht, ht, hs, by simp⟩
  · split
    · exact ⟨by simp only; omega, ht, hs, by simp only; omega⟩
    · split
      · next n =>
        have hn : n ≤ 65535 := hs n rfl
        exact ⟨by simp only; omega, hn, nofun, by simp only; omega⟩
      · exact ⟨ht, ht, nofun, by simp⟩

/-- With a pass for every unit of n the passes end below the target, or at a target of 0. -/
theorem repeatPasses_inRange (fuel : Nat) : ∀ (n target : Nat) (staged : Option Nat) (done : Nat), n < fuel →
    target ≤ 65535 → (∀ m ∈ staged, m ≤ 65535) → 0 < target → (repeatPasses fuel n target staged done).InRange := by
  induction fuel with
  | zero => intro n target staged done hn; omega
  | succ fuel ih =>
    intro n target staged done hn ht hs h0
    unfold repeatPasses
    split
    · exact ⟨by simp only; omega, ht, hs, by simp only; omega⟩
    · split
      · exact ⟨Nat.zero_le _, Nat.zero_le _, nofun, fun _ => rfl⟩
      · next m hm => exact ih _ _ _ _ (by omega) (hs m rfl) nofun (Nat.pos_of_ne_zero fun e => hm (e ▸ rfl))
      · exact ih _ _ _ _ (by omega) ht nofun h0

theorem CounterDef.advance_inRange {d : CounterDef} {v k : Nat} (hd : d.InRange) (h0 : d.target ≠ 0) :
    (d.advance v k).InRange := by
  obtain ⟨-, ht, hs⟩ := hd
  unfold CounterDef.advance
  split
  · exact advanceHold_inRange ht hs (by omega)
  · exact repeatPasses_inRange _ _ _ _ _ (by omega) ht hs (by omega)

/-- The player and counter tables changed to tables that keep what these keep. -/
theorem Keeps.then_ptb {u : State} (h : Keeps s t) (hlen : u.ptb.players.length = t.ptb.players.length)
    (hr : ∀ q ∈ u.ptb.players, ∃ r ∈ t.ptb.players,
      (r.InRange → q.InRange) ∧ q.locksLit = r.locksLit ∧ q.locksMade = r.locksMade)
    (hc : t.ptb.CountersLawful → u.ptb.CountersLawful)
    (hv : s.gpc.game = .idle → u.ptb.commonValues = t.ptb.commonValues) (hs : u.swi = t.swi := by simp)
    (hn : u.ntu = t.ntu := by simp) (hm : u.mst = t.mst := by simp)
    (hl : u.lmc = t.lmc := by simp) (hg : u.gpc = t.gpc := by simp) (hk : u.pending = t.pending := by simp) :
    Keeps s u :=
  h.trans
    { queue := by rw [QueueLaw, QueueLaw, hs]; exact id, notices := hn ▸ .refl _, templates := by rw [hm],
      params := by rw [hl], count := hlen, common := fun hi => hv (h.idle.mp hi),
      pending := hk,
      ranges := fun hs q hq => by
        obtain ⟨r, hmem, hin, -⟩ := hr q hq
        exact hin (hs r hmem)
      locks := fun hs q hq => by
        obtain ⟨r, hmem, -, hlit, hmade⟩ := hr q hq
        simpa [Player.LocksWithin, hlit, hmade, hl] using hs r hmem
      counters := hc, gpc := by rw [hg], idle := by rw [hg], jackpot := by rw [JackpotLaw, JackpotLaw, hl, hg]; exact id }

/-- A record with a counter's value written, under the definition that now stands. -/
theorem Player.CountersWithin.write {defs : Vector CounterDef 16} {r : Player} {i : Fin 16} {d : CounterDef} {v : Nat}
    (h : r.CountersWithin defs) (hv : v ≤ 65535) (h0 : d.target = 0 → v = 0) :
    Player.CountersWithin (defs.set i.val d i.isLt) { r with counters := r.counters.set i.val v i.isLt } := by
  intro j
  by_cases hij : i.val = j.val
  · obtain rfl := Fin.ext hij
    simpa using ⟨hv, h0⟩
  · simpa [Vector.getElem_set_ne _ _ hij] using h j

/-- A record whose counter keeps its value while its definition changes to one that is not disabled. -/
theorem Player.CountersWithin.redefine {defs : Vector CounterDef 16} {r : Player} {i : Fin 16} {d : CounterDef}
    (h : r.CountersWithin defs) (h0 : d.target ≠ 0) : Player.CountersWithin (defs.set i.val d i.isLt) r := by
  intro j
  by_cases hij : i.val = j.val
  · obtain rfl := Fin.ext hij
    exact ⟨(h i).1, fun e => absurd (by simpa using e) h0⟩
  · simpa [Vector.getElem_set_ne _ _ hij] using h j

/-- The table of an advance written: the value, the definition and, where the target became 0, every value 0. -/
def State.storeAdvance (s : State) (c : CounterRef) (d : CounterDef) (v : Nat) : State :=
  if d.target = 0 then ((s.setCounterValue c s.currentPlayer v).setCounterDef c d).disableCounter c
  else (s.setCounterValue c s.currentPlayer v).setCounterDef c d

/-- The definition an advance leaves. -/
def CounterDef.advanced (d : CounterDef) (a : Advanced) : CounterDef := { d with target := a.target, staged := a.staged }

/-- An advance is ignored at target 0; else the table is written, then the completions act (R9, R11 to R14). -/
theorem State.advanceCounter_eq (s : State) (c : CounterRef) (k : Nat) : s.advanceCounter c k =
    if (s.counterDef c).target = 0 then s
    else (s.storeAdvance c ((s.counterDef c).advanced ((s.counterDef c).advance (s.counterValue c s.currentPlayer) k))
      ((s.counterDef c).advance (s.counterValue c s.currentPlayer) k).value).counterActions (s.counterDef c).action
        ((s.counterDef c).advance (s.counterValue c s.currentPlayer) k).completions := rfl

/-- A record of the page after an advance: one that stood there, its counter's value written, set to 0 or left. -/
theorem State.mem_storeAdvance_player {i : Fin 16} {d : CounterDef} {v : Nat} {q : Player}
    (hq : q ∈ (s.storeAdvance (.player i) d v).ptb.players) :
    ∃ r ∈ s.ptb.players, ((r.InRange → q.InRange) ∧ q.locksLit = r.locksLit ∧ q.locksMade = r.locksMade) ∧
      (v ≤ 65535 → (d.target = 0 → v = 0) → r.CountersWithin s.ptb.playerDefs →
        q.CountersWithin (s.ptb.playerDefs.set i.val d i.isLt)) := by
  unfold State.storeAdvance at hq
  split at hq
  · simp only [State.disableCounter, State.setCounterDef, List.mem_map] at hq
    obtain ⟨q', hq', rfl⟩ := hq
    rcases State.mem_modifyPlayer hq' with hmem | ⟨r, hr, rfl⟩
    · exact ⟨q', hmem, ⟨id, rfl, rfl⟩, fun _ _ hc => hc.write (Nat.zero_le _) fun _ => rfl⟩
    · refine ⟨r, State.mem_of_player? hr, ⟨id, rfl, rfl⟩, fun _ _ hc => ?_⟩
      simpa using hc.write (i := i) (d := d) (Nat.zero_le _) fun _ => rfl
  · next hd =>
    rcases State.mem_modifyPlayer hq with hmem | ⟨r, hr, rfl⟩
    · exact ⟨q, hmem, ⟨id, rfl, rfl⟩, fun _ _ hc => hc.redefine hd⟩
    · exact ⟨r, State.mem_of_player? hr, ⟨id, rfl, rfl⟩, fun hv h0 hc => hc.write hv h0⟩

theorem State.storeAdvance_player_tables (s : State) (i : Fin 16) (d : CounterDef) (v : Nat) :
    (s.storeAdvance (.player i) d v).ptb.players.length = s.ptb.players.length ∧
    (s.storeAdvance (.player i) d v).ptb.playerDefs = s.ptb.playerDefs.set i.val d i.isLt ∧
    (s.storeAdvance (.player i) d v).ptb.commonDefs = s.ptb.commonDefs ∧
    (s.storeAdvance (.player i) d v).ptb.commonValues = s.ptb.commonValues := by
  unfold State.storeAdvance
  split <;> simp [State.disableCounter, State.setCounterDef, State.setCounterValue]

theorem State.storeAdvance_common_tables (s : State) (i : Fin 32) (d : CounterDef) (v : Nat) :
    (s.storeAdvance (.common i) d v).ptb = { s.ptb with
      commonDefs := s.ptb.commonDefs.set i.val d i.isLt
      commonValues := s.ptb.commonValues.set i.val (if d.target = 0 then 0 else v) i.isLt } := by
  unfold State.storeAdvance
  split <;> simp [State.disableCounter, State.setCounterDef, State.setCounterValue]

@[simp] theorem State.storeAdvance_frame (s : State) (c : CounterRef) (d : CounterDef) (v : Nat) :
    (s.storeAdvance c d v).ntu = s.ntu ∧ (s.storeAdvance c d v).mst = s.mst ∧ (s.storeAdvance c d v).lmc = s.lmc ∧
    (s.storeAdvance c d v).gpc = s.gpc ∧ (s.storeAdvance c d v).tmu = s.tmu ∧ (s.storeAdvance c d v).bdt = s.bdt ∧
    (s.storeAdvance c d v).swi = s.swi ∧ (s.storeAdvance c d v).evl = s.evl ∧ (s.storeAdvance c d v).scu = s.scu ∧
    (s.storeAdvance c d v).glk = s.glk ∧ (s.storeAdvance c d v).freeUse = s.freeUse ∧
    (s.storeAdvance c d v).pending = s.pending := by
  unfold State.storeAdvance
  split <;> simp

theorem InRange_set {n : Nat} {defs : Vector CounterDef n} {d : CounterDef} {i : Fin n}
    (h : ∀ j : Fin n, (defs[j]).InRange) (hd : d.InRange) (j : Fin n) : ((defs.set i.val d i.isLt)[j]).InRange := by
  by_cases hij : i.val = j.val
  · obtain rfl := Fin.ext hij
    simpa using hd
  · simpa [Vector.getElem_set_ne _ _ hij] using h j

theorem Keeps.storeAdvance {c : CounterRef} {d : CounterDef} {v : Nat} (h : Keeps s t) (hs : s.gpc.game ≠ .idle)
    (hd : t.ptb.CountersLawful → d.InRange ∧ v ≤ 65535 ∧ (d.target = 0 → v = 0)) : Keeps s (t.storeAdvance c d v) := by
  cases c with
  | player i =>
    obtain ⟨hlen, hp, hc, hv⟩ := t.storeAdvance_player_tables i d v
    refine h.then_ptb hlen (fun q hq => ?_) (fun hl => ⟨?_, fun q hq => ?_, ?_⟩)
      fun hi => absurd hi hs
    · obtain ⟨r, hr, hrange, -⟩ := State.mem_storeAdvance_player hq
      exact ⟨r, hr, hrange⟩
    · rw [hp]
      exact InRange_set hl.playerDefs (hd hl).1
    · obtain ⟨r, hr, -, hw⟩ := State.mem_storeAdvance_player hq
      rw [hp]
      exact hw (hd hl).2.1 (hd hl).2.2 (hl.players r hr)
    · rw [hc, hv]
      exact hl.common
  | common i =>
    have ht := t.storeAdvance_common_tables i d v
    refine h.then_ptb (by rw [ht]) (fun q hq => ⟨q, by rwa [ht] at hq, id, rfl, rfl⟩) (fun hl => ?_)
      fun hi => absurd hi hs
    rw [ht]
    refine ⟨hl.playerDefs, hl.players, fun j => ?_⟩
    by_cases hij : i.val = j.val
    · obtain rfl := Fin.ext hij
      have hrange := hd hl
      simp only [Fin.getElem_fin, Vector.getElem_set_self]
      exact ⟨hrange.1, by split <;> omega, fun h0 => if_pos h0⟩
    · simpa [Vector.getElem_set_ne _ _ hij] using hl.common j

theorem Ptb.CountersLawful.counterDef (h : s.ptb.CountersLawful) (c : CounterRef) : (s.counterDef c).InRange := by
  cases c with
  | player i => exact h.playerDefs i
  | common i => exact (h.common i).1

theorem Keeps.advanceCounter {c : CounterRef} {k : Nat} (h : Keeps s t) (hs : s.gpc.game ≠ .idle) :
    Keeps s (t.advanceCounter c k) := by
  rw [State.advanceCounter_eq]
  split
  · exact h
  · next h0 =>
    refine Keeps.counterActions (h.storeAdvance hs fun hl => ?_)
    have hdef := hl.counterDef c
    have ha := CounterDef.advance_inRange (v := t.counterValue c t.currentPlayer) (k := k) hdef h0
    exact ⟨⟨hdef.1, ha.target, ha.staged⟩, ha.value, ha.disabled⟩

/-! ### The ends of multiball and of a ball (R140, R141, R171) -/

/-- A change of the game state between states other than IDLE, and what keeps the rest after it. -/
theorem Keeps.of_setGame {g : GameState} {u : State} (h : Keeps (t.setGame g) u) (hg : g ≠ .idle)
    (ht : t.gpc.game ≠ .idle) (hj : JackpotLaw t → JackpotLaw u) : Keeps t u where
  queue := h.queue
  notices := h.notices
  templates := h.templates
  params := h.params
  count := h.count
  ranges := h.ranges
  locks := h.locks
  counters := h.counters
  gpc := congrArg (fun x : Gpc => { x with game := t.gpc.game }) h.gpc
  idle := ⟨fun e => absurd (h.idle.mp e) hg, fun e => absurd e ht⟩
  jackpot := hj
  common e := absurd e ht
  pending := h.pending

/-- Multiball OFF. -/
theorem Keeps.multiballOff (h : Keeps s t) : Keeps s { t with lmc := { t.lmc with multiball := false } } :=
  h.trans ⟨id, .refl _, rfl, rfl, rfl, id, id, id, rfl, .rfl, fun hj => ⟨hj.1, nofun⟩, fun _ => rfl, rfl⟩

theorem Keeps.stopMultiball (h : Keeps s t) : Keeps s t.stopMultiball := .ite h.multiballOff.raise h

theorem Keeps.endMultiball (h : Keeps s t) : Keeps s t.endMultiball := h.multiballOff.endMbOnly.raise

theorem Keeps.multiballCheck (h : Keeps s t) : Keeps s t.multiballCheck := .ite h.endMultiball h

@[simp] theorem State.endMultiball_lmc (s : State) : s.endMultiball.lmc = { s.lmc with multiball := false } := by
  simp [State.endMultiball]

/-- The end of a ball leaves multiball OFF and nothing else of LMC changed. -/
@[simp] theorem State.ballEnd_lmc (s : State) : s.ballEnd.lmc = { s.lmc with multiball := false } := by
  have hoff : ∀ x : Lmc, x.multiball = false → x = { x with multiball := false } := by rintro ⟨⟩ rfl; rfl
  cases hm : s.lmc.multiball <;> cases hk : s.lmc.params.litKeeps <;>
    simp [State.ballEnd, hm, hk, ← hoff]

/-- Locks treated by lit_carry. -/
theorem Keeps.clearLit {p : Nat} (h : Keeps s t) : Keeps s (t.modifyPlayer p fun r => { r with locksLit := 0 }) :=
  h.modifyPlayer fun r _ => .of_locks (made := r.locksMade) fun hl => ⟨Nat.zero_le _, by have := hl.2; omega⟩

theorem Keeps.resetPfMult {p : Nat} (h : Keeps s t) : Keeps s (t.modifyPlayer p fun r => { r with pfMult := 1 }) := by
  refine h.modifyPlayer fun r _ => .of_ranges ?_ rfl rfl rfl
  rintro ⟨h1, h2, h3, h4, h5, -, -, h8⟩
  exact ⟨h1, h2, h3, h4, h5, Nat.le_refl 1, by simp only; omega, h8⟩

theorem State.ballEnd_keeps (hg : t.gpc.game ≠ .idle) : Keeps t t.ballEnd := by
  have h0 : Keeps (t.setGame .ballOver) ((t.setGame .ballOver).bonusCredit (t.setGame .ballOver).currentPlayer) :=
    (Keeps.refl _).bonusCredit
  have h1 := h0.endMultiball.ite (c := ((t.setGame .ballOver).bonusCredit
    (t.setGame .ballOver).currentPlayer).lmc.multiball = true) h0
  refine Keeps.of_setGame (g := .ballOver) ?_ nofun hg fun hj => ⟨?_, ?_⟩
  · exact (h1.ite h1.clearLit).parkAll.resetPfMult.releaseBinding.releaseBinding.raise
  · rw [State.ballEnd_lmc]
    exact hj.1
  · simp

theorem Keeps.ballEnd (h : Keeps s t) (hg : t.gpc.game ≠ .idle) : Keeps s t.ballEnd := h.trans (State.ballEnd_keeps hg)

/-- The end of a game by request or slam (R179). -/
theorem Keeps.endGame (h : Keeps s t) (hg : t.gpc.game ≠ .idle) : Keeps s t.endGame := by
  have h0 : Keeps (t.setGame .gameOver) ((t.setGame .gameOver).endAll State.isStanding .gameEnded) :=
    (Keeps.refl _).endAll
  refine h.trans (.of_setGame (g := .gameOver) h0.stopMultiball.releaseBound.raise nofun hg fun hj => ⟨?_, ?_⟩)
  · rw [show t.endGame.lmc.params = t.lmc.params from (h0.stopMultiball.releaseBound.raise (x := .gameOver)).params]
    exact hj.1
  · intro hm
    have hoff : t.endGame.lmc.multiball = false := by
      simp only [State.endGame, State.raise_lmc, State.releaseBound_lmc, State.stopMultiball]
      split
      · rfl
      · next hn => simpa using hn
    rw [hoff] at hm
    cases hm

theorem Keeps.ballEndCheck (h : Keeps s t) (hg : t.gpc.game ≠ .idle) : Keeps s t.ballEndCheck := .ite (h.ballEnd hg) h

theorem Keeps.ballEndCheckInPlay (h : Keeps s t) : Keeps s t.ballEndCheckInPlay := by
  unfold State.ballEndCheckInPlay
  split
  · next hg => exact h.ballEndCheck (by rw [hg]; nofun)
  · exact h

/-! ### Locks made, multiball started, the jackpot (R130 to R143) -/

theorem Keeps.requestEject {d : Fin 6} {n : Nat} (h : Keeps s t) : Keeps s (t.requestEject d n).1 := by
  rcases t.requestEject_cases d n with ⟨-, he⟩ | ⟨-, -, he⟩ | ⟨-, -, he⟩ <;> rw [he]
  · exact h
  · exact h.device_update.raise
  · exact h.device_update

theorem Keeps.kickOut {d : Fin 6} (h : Keeps s t) : Keeps s (t.kickOut d) := h.requestEject

theorem Keeps.loseLock {d : Fin 6} {p : Nat} (h : Keeps s t) : Keeps s (t.loseLock d p) := by
  unfold State.loseLock
  split
  · refine Keeps.raise (h.modifyPlayer fun r _ => .of_locks (lit := r.locksLit) fun hl => ⟨hl.1, ?_⟩)
    have := hl.2
    omega
  · exact h

/-- What the sourcing of balls leaves alone: all but the devices, the claims, the players' locks and the notices. -/
structure State.SameButBalls (s t : State) : Prop where
  swi : t.swi = s.swi
  evl : t.evl = s.evl
  scu : t.scu = s.scu
  mst : t.mst = s.mst
  tmu : t.tmu = s.tmu
  gpc : t.gpc = s.gpc
  glk : t.glk = s.glk
  freeUse : t.freeUse = s.freeUse
  pending : t.pending = s.pending
  lmc : t.lmc = { s.lmc with claims := t.lmc.claims }

theorem State.SameButBalls.refl (s : State) : s.SameButBalls s :=
  ⟨rfl, rfl, rfl, rfl, rfl, rfl, rfl, rfl, rfl, rfl⟩

theorem State.SameButBalls.trans {s t u : State} (h : s.SameButBalls t) (h' : t.SameButBalls u) : s.SameButBalls u :=
  ⟨h'.swi.trans h.swi, h'.evl.trans h.evl, h'.scu.trans h.scu, h'.mst.trans h.mst, h'.tmu.trans h.tmu,
    h'.gpc.trans h.gpc, h'.glk.trans h.glk, h'.freeUse.trans h.freeUse, h'.pending.trans h.pending, by
      rw [h'.lmc, h.lmc]⟩

theorem State.sameButBalls_requestEject (s : State) (d : Fin 6) (n : Nat) : s.SameButBalls (s.requestEject d n).1 :=
  ⟨by simp, by simp, by simp, by simp, by simp, by simp, by simp, by simp, by simp, by simp⟩

theorem State.sameButBalls_loseLock (s : State) (d : Fin 6) (p : Nat) : s.SameButBalls (s.loseLock d p) :=
  ⟨by simp, by simp, by simp, by simp, by simp, by simp, by simp, by simp, by simp, by simp⟩

theorem State.sameButBalls_claims (s : State) (l : Vector (List Nat) 6) :
    s.SameButBalls { s with lmc := { s.lmc with claims := l } } :=
  ⟨rfl, rfl, rfl, rfl, rfl, rfl, rfl, rfl, rfl, rfl⟩

theorem Sourcing.takeClaims_sameButBalls (d : Fin 6) (p : Nat) (mine : Bool) (l : List Nat) (x : Sourcing) :
    x.state.SameButBalls (x.takeClaims d p mine l).1.state := by
  induction l generalizing x with
  | nil => exact .refl _
  | cons o l ih =>
    unfold Sourcing.takeClaims
    split
    · refine State.SameButBalls.trans ?_ (ih _)
      cases mine
      · exact (State.sameButBalls_loseLock ..).trans (State.sameButBalls_requestEject ..)
      · exact State.sameButBalls_requestEject ..
    · exact ih x

theorem Sourcing.claimsStep_sameButBalls (p : Nat) (mine : Bool) (x : Sourcing) (d : Fin 6) :
    x.state.SameButBalls (x.claimsStep p mine d).state :=
  (Sourcing.takeClaims_sameButBalls d p mine _ x).trans (State.sameButBalls_claims ..)

theorem Sourcing.stockStep_sameButBalls (x : Sourcing) (d : Fin 6) : x.state.SameButBalls (x.stockStep d).state := by
  unfold Sourcing.stockStep
  dsimp only
  split
  · exact State.sameButBalls_requestEject ..
  · exact .refl _

theorem Sourcing.troughStep_sameButBalls (x : Sourcing) : x.state.SameButBalls x.troughStep.state := by
  unfold Sourcing.troughStep
  split
  · exact State.sameButBalls_requestEject ..
  · exact .refl _

theorem State.source_sameButBalls (s : State) (p n : Nat) : s.SameButBalls (s.source p n).state := by
  have fold : ∀ (f : Sourcing → Fin 6 → Sourcing), (∀ (x : Sourcing) d, x.state.SameButBalls (f x d).state) →
      ∀ x : Sourcing, s.SameButBalls x.state → s.SameButBalls (lockDevices.foldl f x).state :=
    fun f hf x hx => foldl_keeps (fun x : Sourcing => s.SameButBalls x.state) f (fun x d h => h.trans (hf x d)) _ x hx
  have h1 := fold _ (Sourcing.claimsStep_sameButBalls p true) ⟨s, n, 0⟩ (.refl s)
  have h2 := fold _ Sourcing.stockStep_sameButBalls _ h1
  have h3 := fold _ (Sourcing.claimsStep_sameButBalls p false) _ h2
  exact (h3.trans (Sourcing.troughStep_sameButBalls _)).trans (State.sameButBalls_claims ..)

theorem Sourcing.takeClaims_keeps (d : Fin 6) (p : Nat) (mine : Bool) (l : List Nat) (x : Sourcing)
    (h : Keeps s x.state) : Keeps s (x.takeClaims d p mine l).1.state := by
  induction l generalizing x with
  | nil => exact h
  | cons o l ih =>
    unfold Sourcing.takeClaims
    split
    · refine ih _ (Keeps.requestEject ?_)
      cases mine
      · exact h.loseLock
      · exact h
    · exact ih _ h

theorem Sourcing.claimsStep_keeps (p : Nat) (mine : Bool) (x : Sourcing) (d : Fin 6) (h : Keeps s x.state) :
    Keeps s (x.claimsStep p mine d).state :=
  (Sourcing.takeClaims_keeps d p mine _ x h).setClaims

theorem Sourcing.stockStep_keeps (x : Sourcing) (d : Fin 6) (h : Keeps s x.state) : Keeps s (x.stockStep d).state := by
  unfold Sourcing.stockStep
  dsimp only
  split
  · exact h.requestEject
  · exact h

theorem Sourcing.troughStep_keeps (x : Sourcing) (h : Keeps s x.state) : Keeps s x.troughStep.state := by
  unfold Sourcing.troughStep
  split
  · exact h.requestEject
  · exact h

theorem Keeps.source {p n : Nat} (h : Keeps s t) : Keeps s (t.source p n).state := by
  have fold : ∀ (f : Sourcing → Fin 6 → Sourcing), (∀ (x : Sourcing) d, Keeps s x.state → Keeps s (f x d).state) →
      ∀ x : Sourcing, Keeps s x.state → Keeps s (lockDevices.foldl f x).state :=
    fun f hf x hx => foldl_keeps (fun x : Sourcing => Keeps s x.state) f hf _ x hx
  have h1 := fold _ (Sourcing.claimsStep_keeps p true) ⟨t, n, 0⟩ h
  have h2 := fold _ Sourcing.stockStep_keeps _ h1
  have h3 := fold _ (Sourcing.claimsStep_keeps p false) _ h2
  exact (Sourcing.troughStep_keeps _ h3).claims_update

theorem Keeps.completeStart {p : Nat} (h : Keeps s t) (hg : t.gpc.game = .inPlay) : Keeps s (t.completeStart p) := by
  have h1 : Keeps s (t.modifyPlayer p fun r => { r with locksMade := 0, locksLit := 0 }) :=
    h.modifyPlayer fun r _ => ⟨id, fun _ => ⟨Nat.zero_le _, Nat.zero_le _⟩, id⟩
  have h2 : Keeps s { (t.modifyPlayer p fun r => { r with locksMade := 0, locksLit := 0 }) with
      lmc := { t.lmc with multiball := true, jackpot := t.lmc.params.jackpotBase.worth } } :=
    h1.trans ⟨id, .refl _, rfl, by simp, rfl, id, by simp, id, rfl, .rfl, fun hj => by simpa [JackpotLaw, hg] using hj.1,
      fun _ => rfl, rfl⟩
  unfold State.completeStart
  simp only [State.modifyPlayer_lmc]
  exact (h2.giveBallSave.ite h2).raise

theorem Keeps.startMultiball {p : Nat} (h : Keeps s t) (hg : t.gpc.game = .inPlay) :
    Keeps s (t.startMultiball p).1 :=
  h.source.completeStart (by rw [(t.source_sameButBalls p _).gpc, hg])

theorem Keeps.collectJackpot {b : Bool} (h : Keeps s t) : Keeps s (t.collectJackpot b) := by
  unfold State.collectJackpot
  split
  · have hc : ∀ p n x, Keeps s ((t.credit p n x).raise .jackpot) := fun p n x => h.credit.raise
    refine (hc _ _ _).trans ⟨id, .refl _, rfl, rfl, rfl, id, id, id, rfl, .rfl,
      fun hj => ⟨hj.1, fun hm => ⟨(hj.2 hm).1, Nat.min_le_right _ _⟩⟩, fun _ => rfl, rfl⟩
  · exact h

/-- A lock made by the current player, who has one lit (R130). -/
theorem Keeps.lockCounted {p : Nat} (h : Keeps s t) (hlit : ∀ r, t.player? p = some r → 0 < r.locksLit) :
    Keeps s (t.modifyPlayer p fun r => { r with locksLit := r.locksLit - 1, locksMade := r.locksMade + 1 }) :=
  h.modifyPlayer fun r hr => .of_locks fun hl => by
    have := hlit r hr
    have := hl.1
    have := hl.2
    omega

theorem State.scores_iff : s.scores = true ↔ s.gpc.game = .inPlay ∧ s.gpc.tilted = false := by
  simp [State.scores]

theorem Keeps.afterLock {d : Fin 6} {p : Nat} (h : Keeps s t) (hg : t.gpc.game = .inPlay) :
    Keeps s (t.afterLock d p) := by
  unfold State.afterLock
  split
  · exact h.startMultiball hg
  · split
    · exact h.kickOut
    · split
      · exact .ite (h.requestEject.ballEndCheck (by simp [hg])) h.requestEject
      · exact h

theorem Keeps.lockEntry {d : Fin 6} (h : Keeps s t) : Keeps s (t.lockEntry d) := by
  unfold State.lockEntry
  split
  · next hm =>
    simp only [State.makesLock, Bool.and_eq_true, decide_eq_true_eq] at hm
    have hlit : ∀ r, t.player? t.currentPlayer = some r → 0 < r.locksLit := fun r hr => by simpa [hr] using hm.2
    exact (h.setClaims.lockCounted hlit).raise.afterLock (by simpa using (State.scores_iff.mp hm.1.1.1).1)
  · split
    · exact h
    · exact h.ballEndCheckInPlay.ite h.kickOut

/-! ### Balls entering and leaving devices (R109 to R119) -/

theorem Keeps.accountEntry {d : Fin 6} (h : Keeps s t) : Keeps s (t.accountEntry d).1 := by
  unfold State.accountEntry
  split
  · exact h.trackingFault
  · split
    · exact h.modifyDevice.device_update
    · exact h.modifyDevice.trackingFault

theorem Keeps.saveStep (h : Keeps s t) : Keeps s t.saveStep :=
  .ite (.ite h.requestEject.raise h.requestEject.raise.releaseBinding) h

theorem Keeps.drain (h : Keeps s t) (hg : t.gpc.game = .inPlay) : Keeps s t.drain :=
  h.saveStep.multiballCheck.ballEndCheck (by simp [hg])

theorem Keeps.handleEntry {d : Fin 6} (h : Keeps s t) : Keeps s (t.handleEntry d) := by
  unfold State.handleEntry
  split
  · split
    · next hg => exact h.drain hg
    · exact h
  · exact h.lockEntry
  · exact h.ite (h.ballEndCheckInPlay.ite h.kickOut)
  · exact h

theorem Keeps.enterDevice {d : Fin 6} (h : Keeps s t) : Keeps s (t.enterDevice d) :=
  h.accountEntry.handleEntry.ite h.accountEntry

theorem Keeps.confirmEject {d : Fin 6} (h : Keeps s t) : Keeps s (t.confirmEject d) :=
  h.modifyDevice.ite h.modifyDevice.raise

theorem Keeps.cancelLaunch (h : Keeps s t) : Keeps s t.cancelLaunch := h.ite h.modifyDevice

theorem Keeps.confirmExit {d : Fin 6} (h : Keeps s t) : Keeps s (t.confirmExit d) :=
  h.confirmEject.ite (h.modifyDevice.cancelLaunch.ite h)

theorem Keeps.claimCheck {d : Fin 6} (h : Keeps s t) : Keeps s (t.claimCheck d) := by
  unfold State.claimCheck
  split
  · exact h.setClaims.loseLock.ite h
  · exact h

theorem Keeps.troughStep {d : Fin 6} (h : Keeps s t) : Keeps s (t.troughStep d) := by
  unfold State.troughStep
  split
  · next hs =>
    have hne : t.gpc.game ≠ .idle := by rw [hs.2]; nofun
    have h1 : Keeps (t.setGame .inPlay) (t.setGame .inPlay) := .refl _
    have h2 : ∀ u, Keeps (t.setGame .inPlay) u → u.lmc = t.lmc → Keeps s u := fun u hu hl =>
      h.trans (.of_setGame hu nofun hne fun hj => by
        refine ⟨by rw [hl]; exact hj.1, fun hm => ?_⟩
        rw [hl] at hm
        exact absurd (hs.2.symm.trans (hj.2 hm).1) nofun)
    dsimp only
    split
    · exact h2 _ h1.giveBallSave (by simp)
    · exact h2 _ h1 rfl
  · exact h

theorem Keeps.accountExit {d : Fin 6} (h : Keeps s t) : Keeps s (t.accountExit d) :=
  h.modifyDevice.device_update.ite h.modifyDevice.trackingFault

theorem Keeps.exitDevice {d : Fin 6} (h : Keeps s t) : Keeps s (t.exitDevice d) :=
  h.trackingFault.troughStep.ite h.accountExit.claimCheck.confirmExit.troughStep

theorem Keeps.faultDevice {d : Fin 6} (h : Keeps s t) : Keeps s (t.faultDevice d) :=
  (Keeps.ite h.modifyDevice.raise h.modifyDevice.raise.requestEject.modifyDevice).ballEndCheckInPlay

theorem Keeps.ejectExpiry {d : Fin 6} (h : Keeps s t) : Keeps s (t.ejectExpiry d) :=
  h.faultDevice.ite h.modifyDevice.raise

/-! ### The award evaluation (R41 to R54) -/

theorem Keeps.performAward {k : Nat} {a : Award} (h : Keeps s t) (hs : s.gpc.game ≠ .idle) : Keeps s (t.performAward k a) := by
  cases a with
  | score v pf => exact h.credit
  | bonus v => exact h.addBonus
  | bonusMult n => exact h.raiseBonusMult
  | advance c => exact h.advanceCounter hs
  | jackpot pf => exact h.collectJackpot
  | lightLock => exact h.lightLock
  | startMode i => exact h.autoStart
  | extraBall => exact h.giveExtraBall

theorem Keeps.baseAwards {k : Nat} {l : List Award} (h : Keeps s t) (hs : s.gpc.game ≠ .idle) :
    Keeps s (t.baseAwards k l) :=
  foldl_keeps (Keeps s) _ (fun _ _ h => h.performAward hs) _ _ h

theorem Keeps.scoreHit {g : Fin 16} {k : Nat} {l : List Award} {st : List (Fin 12)} (h : Keeps s t)
    (hs : s.gpc.game ≠ .idle) : Keeps s (t.scoreHit g k l st) := h.walk.ite (h.walk.baseAwards hs)

theorem Keeps.ne_idle_of_scores (h : Keeps s t) (hs : t.scores = true) : s.gpc.game ≠ .idle := fun hi =>
  absurd ((h.idle.mpr hi).symm.trans (State.scores_iff.mp hs).1) nofun

theorem Keeps.evaluate {e : Entry} (h : Keeps s t) : Keeps s (t.evaluate e) := by
  unfold State.evaluate
  split
  · split
    · next hs => exact h.scoreHit (h.ne_idle_of_scores hs)
    · exact h
  · dsimp only
    split
    · next hs => exact h.enterDevice.scoreHit (h.enterDevice.ne_idle_of_scores hs)
    · exact h.enterDevice
  · exact h.exitDevice
  · exact h
  · exact h.trackingFault
  · exact h.trackingFault

/-! ### Timer expiries (R149, R150) -/

theorem Keeps.userExpiry {v : Fin 16} {r : Timer} (h : Keeps s t) : Keeps s (t.userExpiry v r) := by
  unfold State.userExpiry
  split
  · exact h.raise.modifyTimer
  · exact h.modifyTimer.raise
  · exact h.modifyTimer.raise

theorem Keeps.expire {v : Fin 16} {r : Timer} (h : Keeps s t) : Keeps s (t.expire v r) := by
  unfold State.expire
  split
  · exact h.releaseTimer.contextTimeout
  · exact h.hurryExpiry
  · exact h.releaseTimer
  · exact h.releaseTimer.resetPfMult
  · exact h.userExpiry

theorem Keeps.takeExpiry {v : Fin 16} {r : Timer} (h : Keeps s t) : Keeps s (t.takeExpiry v r) :=
  h.setTimer.expire.ite h.setTimer

end

end Sys2Proof.Machine
end

section
/-! PROOFS. What every command keeps, and the laws that follow: the event queue and the notices, the players, counters
and locks, the game record and the jackpot (O10, O11, O12). -/

namespace Sys2Proof.Machine

/-! ### Commands that keep what play keeps -/

section
variable {s t : State}

theorem Keeps.answer {e : Byte} {st : Status} {p : List Byte} (h : Keeps s t) : Keeps s (t.answer e st p) := h.then_quiet

theorem Keeps.glk {g : Glk} (h : Keeps s t) : Keeps s { t with glk := g } := h.then_quiet

/-- What a transaction makes of the state: it is waited out, refused by GLK, or answered by its owner (R187, R192). -/
theorem takeRequest_cases {code : Byte} {config : Bool} {takes : Nat} {owner : State → State × Reply} {p : List Byte}
    (h : takeRequest code config takes owner p s = .next t) :
    t = { s with glk := { s.glk with waiting := false } } ∨ (∃ st, t = s.answer code st []) ∨
    ((config = true → s.gpc.game = .idle) ∧ t = (owner s).1.answer code (owner s).2.status (owner s).2.payload) := by
  cases hw : s.glk.waiting with
  | true =>
    rw [takeRequest_waiting hw] at h
    exact .inl (Host.Outcome.next.inj h).symm
  | false =>
    by_cases hl : 62 < p.length ∨ p.length ≠ takes
    · rw [takeRequest_badLength hw hl] at h
      exact .inr (.inl ⟨_, (Host.Outcome.next.inj h).symm⟩)
    · obtain ⟨h62, hlen⟩ : p.length ≤ 62 ∧ p.length = takes := by omega
      by_cases hg : config = true ∧ s.gpc.game ≠ .idle
      · obtain ⟨rfl, hg⟩ := hg
        rw [takeRequest_inGame hw hlen h62 hg] at h
        exact .inr (.inl ⟨_, (Host.Outcome.next.inj h).symm⟩)
      · have hidle : config = true → s.gpc.game = .idle := fun hc => Classical.not_not.mp fun hn => hg ⟨hc, hn⟩
        rw [takeRequest_owner hw hlen h62 (by cases config <;> simp_all)] at h
        exact .inr (.inr ⟨hidle, (Host.Outcome.next.inj h).symm⟩)

/-- A request whose owner keeps what play keeps. -/
theorem Keeps.of_request {code : Byte} {config : Bool} {takes : Nat} {owner : State → State × Reply} {p : List Byte}
    (ho : Keeps s (owner s).1) (h : takeRequest code config takes owner p s = .next t) : Keeps s t := by
  rcases takeRequest_cases h with rfl | ⟨st, rfl⟩ | ⟨-, rfl⟩
  · exact (Keeps.refl s).glk
  · exact (Keeps.refl s).answer
  · exact ho.answer

/-! ### Switch intake (R20 to R29) -/

/-- The place of a report keeps the queue within its length and its counts (R20, R23 to R25). -/
theorem place_keeps_law {q q' : List Entry} {sw : Fin 128} {cls : EntryClass}
    (hp : place q sw cls = .coalesced q' ∨ place q sw cls = .appended q')
    (hlaw : q.length ≤ 32 ∧ ∀ e ∈ q, 1 ≤ e.count ∧ e.count ≤ 255 ∧ (e.cls ≠ .scoring → e.count = 1)) :
    q'.length ≤ 32 ∧ ∀ e ∈ q', 1 ≤ e.count ∧ e.count ≤ 255 ∧ (e.cls ≠ .scoring → e.count = 1) := by
  obtain ⟨hlen, hcount⟩ := hlaw
  have append : q.length ≤ 31 → (q ++ [(⟨sw, cls, 1⟩ : Entry)]).length ≤ 32 ∧ ∀ e ∈ q ++ [(⟨sw, cls, 1⟩ : Entry)],
      1 ≤ e.count ∧ e.count ≤ 255 ∧ (e.cls ≠ .scoring → e.count = 1) := by
    intro h
    refine ⟨by rw [List.length_append]; exact Nat.succ_le_succ h, fun e he => ?_⟩
    rcases List.mem_append.mp he with he | he
    · exact hcount e he
    · obtain rfl := List.mem_singleton.mp he
      exact ⟨Nat.le_refl 1, by simp only; omega, fun _ => rfl⟩
  by_cases hcls : cls = .scoring
  · subst hcls
    by_cases hc : coalesces q sw = true
    · obtain ⟨init, k, rfl, hk⟩ := coalesces_iff.mp hc
      rw [place_scoring_coalesced hk] at hp
      obtain rfl : init ++ [⟨sw, .scoring, k + 1⟩] = q' := by simpa using hp
      refine ⟨by simpa using hlen, fun e he => ?_⟩
      rcases List.mem_append.mp he with he | he
      · exact hcount e (List.mem_append_left _ he)
      · obtain rfl := List.mem_singleton.mp he
        exact ⟨by simp, by simp only; omega, fun hn => absurd rfl hn⟩
    · rw [Bool.not_eq_true] at hc
      rcases Nat.lt_or_ge 23 q.length with hl | hl
      · rw [place_scoring_dropped hc hl] at hp
        rcases hp with hp | hp <;> cases hp
      · rw [place_scoring_appended hc hl] at hp
        obtain rfl : q ++ [⟨sw, .scoring, 1⟩] = q' := by simpa using hp
        exact append (by omega)
  · rcases Nat.lt_or_ge 31 q.length with hl | hl
    · rw [place_device_dropped hcls hl] at hp
      rcases hp with hp | hp <;> cases hp
    · rw [place_device_appended hcls hl] at hp
      obtain rfl : q ++ [⟨sw, cls, 1⟩] = q' := by simpa using hp
      exact append hl

theorem Keeps.swi {x : Swi} (h : Keeps s t) (hq : QueueLaw t → QueueLaw { t with swi := x }) :
    Keeps s { t with swi := x } :=
  h.trans ⟨hq, .refl _, rfl, rfl, rfl, id, id, id, rfl, .rfl, id, fun _ => rfl, rfl⟩

theorem State.setQueue_keeps {q : List Entry} {sw : Fin 128} {cls : EntryClass}
    (hp : place s.swi.queue sw cls = .coalesced q ∨ place s.swi.queue sw cls = .appended q) :
    Keeps s (s.setQueue q) :=
  (Keeps.refl s).swi (place_keeps_law hp)

theorem State.arrive_keeps (s : State) (sw : Fin 128) (cls : EntryClass) : Keeps s (s.arrive sw cls) := by
  have overrun : ∀ {t}, Keeps s t → Keeps s t.setOverrun := fun h => h.swi id
  unfold State.arrive
  split
  · next hp => exact State.setQueue_keeps (.inl hp)
  · next hp => exact State.setQueue_keeps (.inr hp)
  · exact .ite (.ite (.refl s) (overrun (Keeps.refl s).raise)) (overrun (Keeps.refl s).trackingFault.raise)

theorem injectSwitch_keeps (s : State) (p : List Byte) : Keeps s (injectSwitch p s).1 := by
  unfold injectSwitch
  split
  · exact .refl s
  · split
    · exact .refl s
    · split
      · next hp => exact State.setQueue_keeps (.inl hp)
      · next hp => exact State.setQueue_keeps (.inr hp)
      · exact .refl s

theorem State.takeHead_keeps {e : Entry} {rest : List Entry} (hq : s.swi.queue = e :: rest) :
    Keeps s (s.takeHead rest) := by
  refine (Keeps.refl s).swi fun ⟨hlen, hc⟩ => ⟨?_, fun x hx => hc x (by rw [hq]; exact List.mem_cons_of_mem _ hx)⟩
  rw [hq, List.length_cons] at hlen
  exact Nat.le_of_succ_le hlen

/-! ### Requests that write records of play -/

theorem adjustScore_keeps (s : State) (p : List Byte) : Keeps s (adjustScore p s).1 := by
  unfold adjustScore
  split
  · split
    · exact .refl s
    · split
      · exact (Keeps.refl s).subtractScore.ite (Keeps.refl s).credit
      · exact .refl s
  · exact .refl s

theorem writePlayer_keeps (s : State) (p : List Byte) : Keeps s (writePlayer p s).1 := by
  unfold writePlayer
  split
  · split
    · exact .refl s
    · split
      · exact .refl s
      · refine (Keeps.refl s).modifyPlayer fun r _ => .of_ranges ?_ rfl rfl rfl
        rintro ⟨h1, h2, h3, h4, h5, h6, h7, h8⟩
        refine ⟨h1, h2, ?_, ?_, ?_, h6, h7, ?_⟩ <;> simp only [Player.written] <;> split <;> omega
  · exact .refl s

theorem setPlayfieldMult_keeps (s : State) (p : List Byte) : Keeps s (setPlayfieldMult p s).1 := by
  have hset : ∀ q m, Keeps s (s.modifyPlayer q fun r => { r with pfMult := heldPfMult m }) := by
    refine fun q m => (Keeps.refl s).modifyPlayer fun r _ => .of_ranges ?_ rfl rfl rfl
    rintro ⟨h1, h2, h3, h4, h5, -, -, h8⟩
    exact ⟨h1, h2, h3, h4, h5, by simp only [heldPfMult]; omega, by simp only [heldPfMult]; omega, h8⟩
  unfold setPlayfieldMult
  split
  · dsimp only
    split
    · exact (hset _ _).releaseBinding
    · exact (hset _ _).giveBoundTimer
  · exact .refl s

theorem CounterDef.bound_le (d : CounterDef) : d.bound ≤ d.target := by
  unfold CounterDef.bound; split <;> omega

/-- A counter's value written within its target: 0 where the counter is disabled (R16). -/
theorem State.setCounterValue_keeps (s : State) (c : CounterRef) (p v : Nat) (hv : v ≤ (s.counterDef c).target)
    (hs : s.gpc.game ≠ .idle) : Keeps s (s.setCounterValue c p v) := by
  cases c with
  | player i =>
    simp only [State.counterDef] at hv
    refine (Keeps.refl s).then_ptb (by simp [State.setCounterValue]) (fun q hq => ?_)
      (fun hl => ⟨?_, fun q hq => ?_, ?_⟩) fun hi => absurd hi hs
    · rcases State.mem_modifyPlayer hq with hq | ⟨r, hr, rfl⟩
      · exact ⟨q, hq, id, rfl, rfl⟩
      · exact ⟨r, State.mem_of_player? hr, id, rfl, rfl⟩
    · simpa [State.setCounterValue] using hl.playerDefs
    · have htarget := (hl.playerDefs i).2.1
      rcases State.mem_modifyPlayer hq with hq | ⟨r, hr, rfl⟩
      · simpa [State.setCounterValue] using hl.players q hq
      · have hw := (hl.players r (State.mem_of_player? hr)).write (i := i) (d := s.ptb.playerDefs[i]) (v := v)
          (by omega) (by omega)
        simpa [State.setCounterValue] using hw
    · simpa [State.setCounterValue] using hl.common
  | common i =>
    simp only [State.counterDef] at hv
    refine (Keeps.refl s).then_ptb rfl (fun q hq => ⟨q, hq, id, rfl, rfl⟩)
      (fun hl => ⟨hl.playerDefs, hl.players, fun j => ?_⟩) fun hi => absurd hi hs
    have htarget := (hl.common i).1.2.1
    refine ⟨(hl.common j).1, ?_⟩
    by_cases hij : i.val = j.val
    · obtain rfl := Fin.ext hij
      simp only [State.setCounterValue, Fin.getElem_fin, Vector.getElem_set_self] at hv htarget ⊢
      omega
    · simpa [State.setCounterValue, Vector.getElem_set_ne _ _ hij] using (hl.common j).2

theorem writeCounter_keeps (s : State) (p : List Byte) : Keeps s (writeCounter p s).1 := by
  unfold writeCounter
  split
  · next hg =>
    split
    · exact .refl s
    · split
      · exact .refl s
      · exact s.setCounterValue_keeps _ _ _ (Nat.le_trans (Nat.min_le_right _ _) (CounterDef.bound_le _))
          fun hi => by rw [hi] at hg; cases hg
  · exact .refl s

/-- A definition whose target comes into force only on a disabled counter, whose value is 0 (R15). -/
theorem State.setCounterDef_keeps (s : State) (c : CounterRef) (d : CounterDef)
    (hd : s.ptb.CountersLawful → d.InRange) (ht : d.target = 0 → (s.counterDef c).target = 0) :
    Keeps s (s.setCounterDef c d) := by
  cases c with
  | player i =>
    refine (Keeps.refl s).then_ptb rfl (fun q hq => ⟨q, hq, id, rfl, rfl⟩) (fun hl =>
      ⟨InRange_set hl.playerDefs (hd hl), fun q hq j => ?_, hl.common⟩) fun _ => rfl
    have hq := hl.players q hq j
    by_cases hij : i.val = j.val
    · obtain rfl := Fin.ext hij
      exact ⟨hq.1, fun h0 => hq.2 (ht (by simpa [State.setCounterDef] using h0))⟩
    · simpa [State.setCounterDef, Vector.getElem_set_ne _ _ hij] using hq
  | common i =>
    refine (Keeps.refl s).then_ptb rfl (fun q hq => ⟨q, hq, id, rfl, rfl⟩) (fun hl => ⟨hl.playerDefs, hl.players,
      fun j => ⟨InRange_set (fun j => (hl.common j).1) (hd hl) j, (hl.common j).2.1, fun h0 => ?_⟩⟩) fun _ => rfl
    by_cases hij : i.val = j.val
    · obtain rfl := Fin.ext hij
      exact (hl.common i).2.2 (ht (by simpa [State.setCounterDef] using h0))
    · exact (hl.common j).2.2 (by simpa [State.setCounterDef, Vector.getElem_set_ne _ _ hij] using h0)

theorem stageTarget_keeps (s : State) (p : List Byte) : Keeps s (stageTarget p s).1 := by
  unfold stageTarget
  split
  · split
    · exact .refl s
    · next c _ =>
      have hn : numberAt p 2 2 ≤ 65535 := Nat.le_of_lt_succ (numberAt_lt p 2 2)
      dsimp only
      refine s.setCounterDef_keeps c _ (fun hl => ?_) ?_
      · obtain ⟨h1, h2, h3⟩ := hl.counterDef c
        split
        · exact ⟨h1, h2, fun m hm => Option.some.inj hm ▸ hn⟩
        · exact ⟨h1, hn, nofun⟩
      · split <;> intro h0
        · exact h0
        · omega
  · exact .refl s

theorem lightLock_keeps (s : State) : Keeps s (Machine.lightLock s).1 := by
  unfold Machine.lightLock
  split
  · exact (Keeps.refl s).lightLock
  · exact .refl s

theorem startMultiball_keeps (s : State) : Keeps s (Machine.startMultiball s).1 := by
  unfold Machine.startMultiball
  split
  · next h =>
    dsimp only
    exact (Keeps.refl s).startMultiball (State.scores_iff.mp h.1).1
  · exact .refl s

theorem addBall_keeps (s : State) : Keeps s (addBall s).1 := by
  unfold addBall
  split
  · exact .refl s
  · split
    · exact .refl s
    · exact (Keeps.refl s).requestEject

theorem startModeRequest_keeps (s : State) (p : List Byte) : Keeps s (startModeRequest p s).1 := by
  unfold startModeRequest
  split
  · exact .refl s
  · next i _ =>
    have h : Keeps s (s.startMode i).1 := (Keeps.refl s).startMode
    split <;> simp only [*] at h <;> exact h

theorem stopMode_keeps (s : State) (p : List Byte) : Keeps s (stopMode p s).1 := by
  unfold stopMode
  split
  · exact .refl s
  · split
    · exact (Keeps.refl s).endContext
    · exact .refl s

theorem retireMode_keeps (s : State) (p : List Byte) : Keeps s (retireMode p s).1 := by
  unfold retireMode
  split
  · exact .refl s
  · split
    · exact (Keeps.refl s).then_quiet
    · exact .refl s

theorem State.applyAdjustment_keeps (s : State) (x : Fin 12) (c : Context) (tm : Template) (a : Adjustment) :
    Keeps s (s.applyAdjustment x c tm a) := by
  have htime : ∀ n, Keeps s (s.addTime x c n) := fun n => .ite (Keeps.refl s).modifySlot (Keeps.refl s).amendHeld
  have h1 : Keeps s (match a.ticks with | some n => s.addTime x c n | none => s) := by
    split
    · exact htime _
    · exact .refl s
  unfold State.applyAdjustment
  dsimp only
  cases a.value <;> cases a.multiplier <;> cases a.period
  · exact h1
  · exact h1.amendHeld
  · exact h1.modifySlot
  · exact h1.modifySlot.amendHeld
  · exact h1.modifySlot
  · exact h1.modifySlot.amendHeld
  · exact h1.modifySlot.modifySlot
  · exact h1.modifySlot.modifySlot.amendHeld

theorem adjustMode_keeps (s : State) (p : List Byte) : Keeps s (adjustMode p s).1 := by
  unfold adjustMode
  split
  · split
    · split
      · exact .refl s
      · split
        · exact .refl s
        · dsimp only
          split
          · exact s.applyAdjustment_keeps _ _ _ _
          · exact .refl s
    · exact .refl s
  · exact .refl s

theorem allocTimer_keeps (s : State) (p : List Byte) : Keeps s (allocTimer p s).1 := by
  unfold allocTimer
  split
  · dsimp only
    split
    · exact .refl s
    · split
      · exact (Keeps.refl s).setTimer
      · exact .refl s
  · exact .refl s

theorem startTimer_keeps (s : State) (p : List Byte) : Keeps s (startTimer p s).1 := by
  unfold startTimer
  split
  · exact .refl s
  · split
    · exact (Keeps.refl s).setTimer
    · exact .refl s

theorem stopTimer_keeps (s : State) (p : List Byte) : Keeps s (stopTimer p s).1 := by
  unfold stopTimer
  split
  · exact .refl s
  · exact (Keeps.refl s).setTimer

theorem freeTimer_keeps (s : State) (p : List Byte) : Keeps s (freeTimer p s).1 := by
  unfold freeTimer
  split
  · exact .refl s
  · exact (Keeps.refl s).releaseTimer

theorem stagePeriod_keeps (s : State) (p : List Byte) : Keeps s (stagePeriod p s).1 := by
  unfold stagePeriod
  split
  · exact .refl s
  · split
    · exact .refl s
    · exact (Keeps.refl s).amendTimer

theorem clearDeviceFault_keeps (s : State) (p : List Byte) : Keeps s (clearDeviceFault p s).1 := by
  unfold clearDeviceFault
  split
  · exact .refl s
  · split
    · exact .refl s
    · split
      · exact .refl s
      · dsimp only
        exact (Keeps.refl s).modifyDevice

theorem recount_keeps (s : State) (p : List Byte) : Keeps s (recount p s).1 := by
  unfold recount
  split
  · have h : ∀ b l, Keeps s { s with bdt := b, lmc := { s.lmc with claims := l } } := fun b l =>
      Keeps.claims_update (t := { s with bdt := b }) (Keeps.refl s).device_update
    dsimp only
    split
    · next hg => exact (h _ _).multiballCheck.ballEndCheck (by simpa using by rw [hg]; nofun)
    · exact h _ _
  · exact .refl s

theorem Keeps.agreeRules (h : Keeps s t) : Keeps s t.agreeRules := h.then_quiet

theorem defineDevice_keeps (s : State) (p : List Byte) : Keeps s (defineDevice p s).1 := by
  unfold defineDevice
  split
  · exact .refl s
  · split
    · exact .refl s
    · exact (Keeps.refl s).modifyDevice.setClaims.device_update.agreeRules

theorem defineRule_keeps (s : State) (p : List Byte) : Keeps s (defineRule p s).1 := by
  unfold defineRule
  split
  · split
    · exact (Keeps.refl s).then_quiet
    · exact .refl s
  · exact .refl s

theorem defineThresholds_keeps (s : State) (p : List Byte) : Keeps s (defineThresholds p s).1 := by
  unfold defineThresholds
  split
  · exact .refl s
  · split
    · split
      · exact (Keeps.refl s).then_quiet
      · exact .refl s
    · exact .refl s

end

end Sys2Proof.Machine
end

section
/-! PROOFS. The laws right after power-on (10.6, 11.4). -/

namespace Sys2Proof.Machine

/-! ### The laws of the part with no game, no balls, no context and no timer -/

theorem queueLaw_reset : QueueLaw State.reset := ⟨by decide, nofun⟩

theorem noticeLaw_reset : NoticeLaw State.reset := fun g => by simp [State.reset]

theorem counterLaw_reset : CounterLaw State.reset := by
  have hp : ∀ i : Fin 16, State.reset.ptb.playerDefs[i] = .powerOn := fun i => by simp [State.reset]
  have hc : ∀ i : Fin 32, State.reset.ptb.commonDefs[i] = .powerOn := fun i => by simp [State.reset]
  have hv : ∀ i : Fin 32, State.reset.ptb.commonValues[i] = 0 := fun i => by simp [State.reset]
  have hdef : CounterDef.powerOn.InRange := ⟨by decide, by decide, nofun⟩
  refine ⟨fun _ => ⟨rfl, hv⟩, fun i => ⟨?_, nofun⟩, fun i => ⟨?_, by rw [hv]; omega, fun _ => hv i⟩⟩
  · rw [hp]; exact hdef
  · rw [hc]; exact hdef

theorem deviceLaw_reset : DeviceLaw State.reset := by
  refine ⟨by decide, fun d => ?_⟩
  simp [State.device, State.claimsOf, State.reset, Device.absent, Device.capacity]

theorem modeLaw_reset : ModeLaw State.reset := by
  have hslot : ∀ x, State.reset.slot? x = none := fun x => by simp [State.slot?, State.reset]
  refine ⟨⟨.nil, .nil, .nil, ?_, ?_, ?_, .nil⟩, ⟨fun _ => hslot, ?_⟩, ?_⟩
  · intro x; simp [State.phase?, hslot, show State.reset.mst = ⟨_, _, [], [], []⟩ from rfl]
  · intro x; simp [State.phase?, hslot, show State.reset.mst = ⟨_, _, [], [], []⟩ from rfl]
  · intro x; simp [State.isEnded, hslot, show State.reset.mst = ⟨_, _, [], [], []⟩ from rfl]
  · intro x; simp [hslot, State.isLive]
  · intro x y _; simp [State.standingKey?, State.isStanding, State.runningKey?, State.isRunning, hslot]

theorem timerLaw_reset : TimerLaw State.reset := by
  have hslot : ∀ x, State.reset.slot? x = none := fun x => by simp [State.slot?, State.reset]
  have htimer : ∀ t : Fin 16, State.reset.tmu.timers[t] = none := fun t => by simp [State.reset]
  refine ⟨fun x => ⟨?_, ?_⟩, fun t r hr => ?_, fun t u _ r hr => ?_⟩
  · simp [State.slotTimer?, State.needsTimer, State.isLive, hslot]
  · simp [State.slotTimer?, hslot]
  · rw [htimer t] at hr; cases hr
  · rw [htimer t] at hr; cases hr

theorem countLaw_reset : CountLaw State.reset := by
  have hslot : ∀ x, State.reset.slot? x = none := fun x => by simp [State.slot?, State.reset]
  refine ⟨fun t r hr => ?_, fun i tm ht => ?_, fun x c hc => ?_, by decide, by decide⟩
  · simp [State.reset] at hr
  · simp [State.reset] at ht
  · rw [hslot x] at hc; cases hc

/-- Settles O9: with empty tables the laws of the tables say nothing, and the parameters are read off. -/
theorem lawsHoldAtReset : Obligations.LawsHoldAtReset :=
  ⟨queueLaw_reset, noticeLaw_reset, nofun, ⟨by decide, by decide, fun _ => ⟨rfl, rfl, rfl, rfl⟩, fun h => absurd rfl h⟩,
    counterLaw_reset, deviceLaw_reset, nofun, ⟨fun _ => rfl, nofun⟩, ⟨by decide, nofun⟩, modeLaw_reset, timerLaw_reset,
    countLaw_reset⟩

end Sys2Proof.Machine
end

section
/-! PROOFS. What every step keeps: the laws of the queue, the notices, the players, the counters, the locks, the game
record and the jackpot. -/

namespace Sys2Proof.Machine

/-! ### The laws kept from one state to the next -/

/-- Each of these laws is kept on its own. -/
structure KeepsLaws (s t : State) : Prop where
  queue : QueueLaw s → QueueLaw t
  notices : NoticeLaw s → NoticeLaw t
  players : PlayerLaw s → PlayerLaw t
  counters : CounterLaw s → CounterLaw t
  locks : LockLaw s → LockLaw t
  game : GameLaw s → GameLaw t
  jackpot : JackpotLaw s → JackpotLaw t

section
variable {s t : State}

theorem KeepsLaws.refl (s : State) : KeepsLaws s s := ⟨id, id, id, id, id, id, id⟩

theorem KeepsLaws.trans {u : State} (h : KeepsLaws s t) (h' : KeepsLaws t u) : KeepsLaws s u :=
  ⟨h'.queue ∘ h.queue, h'.notices ∘ h.notices, h'.players ∘ h.players, h'.counters ∘ h.counters, h'.locks ∘ h.locks,
    h'.game ∘ h.game, h'.jackpot ∘ h.jackpot⟩

/-- In IDLE there are no players before an operation of play, and none after it; the common values are read off. -/
theorem Keeps.laws (h : Keeps s t) : KeepsLaws s t where
  queue := h.queue
  notices := h.notices.lawful
  players := h.ranges
  counters hs := by
    rw [counterLaw_iff] at hs ⊢
    refine ⟨fun hi => ?_, h.counters hs.2⟩
    have hidle := h.idle.mp hi
    obtain ⟨hp, hv⟩ := hs.1 hidle
    exact ⟨List.length_eq_zero_iff.mp (by rw [h.count, hp]; rfl), by rw [h.common hidle]; exact hv⟩
  locks hs := by
    refine ⟨fun hi => ?_, h.locks hs.2⟩
    exact List.length_eq_zero_iff.mp (by rw [h.count, hs.1 (h.idle.mp hi)]; rfl)
  game := by
    rintro ⟨h1, h2, h3, h4⟩
    have hparams : t.gpc.params = s.gpc.params :=
      congrArg (Gpc.params) (a₁ := { t.gpc with game := s.gpc.game }) h.gpc
    have hcurrent : t.gpc.current = s.gpc.current :=
      congrArg (Gpc.current) (a₁ := { t.gpc with game := s.gpc.game }) h.gpc
    have hball : t.gpc.ballNumber = s.gpc.ballNumber :=
      congrArg (Gpc.ballNumber) (a₁ := { t.gpc with game := s.gpc.game }) h.gpc
    have htilt : t.gpc.tilted = s.gpc.tilted :=
      congrArg (Gpc.tilted) (a₁ := { t.gpc with game := s.gpc.game }) h.gpc
    refine ⟨by rwa [hparams], by rwa [hparams], fun hi => ?_, fun hi => ?_⟩
    · obtain ⟨hp, hrest⟩ := h3 (h.idle.mp hi)
      refine ⟨List.length_eq_zero_iff.mp (by rw [h.count, hp]; rfl), ?_⟩
      rwa [hcurrent, hball, htilt]
    · simpa [State.currentPlayer, State.playerCount, hcurrent, h.count, hball, hparams] using
        h4 (fun e => hi (h.idle.mpr e))
  jackpot := h.jackpot

/-! ### Commands that keep what play keeps -/

/-- The commands whose effect is an operation of play: all but the resets, the line events, the requests of NTU, those
that change the roster or the game's course, and the definitions of counters, templates and parameters. -/
def isPlay : Instr → Bool
  | .lineEvent _ _ _ | .reset _ _ _ _ | .ackNotice _ | .setNoticeEnable _ | .startGame _ | .addPlayer _ | .nextBall _
  | .clearGame _ | .softReset _ | .defineCounter _ | .defineTemplate _ | .setGameParams _ | .setLockParams _ => false
  | _ => true

/-- An owner that only reads. -/
theorem Keeps.of_read {code : Byte} {config : Bool} {takes : Nat} {owner : State → State × Reply} {p : List Byte}
    (ho : (owner s).1 = s) (h : takeRequest code config takes owner p s = .next t) : Keeps s t :=
  .of_request (by rw [ho]; exact .refl s) h

theorem readPlayer_state (p : List Byte) (s : State) : (readPlayer p s).1 = s := by
  unfold readPlayer; split <;> rfl

theorem readCounter_state (p : List Byte) (s : State) : (readCounter p s).1 = s := by
  unfold readCounter
  split
  · rfl
  · split <;> rfl

theorem readRule_state (p : List Byte) (s : State) : (readRule p s).1 = s := by
  unfold readRule; split <;> rfl

theorem readMode_state (p : List Byte) (s : State) : (readMode p s).1 = s := by
  unfold readMode; split <;> rfl

theorem readDevice_state (p : List Byte) (s : State) : (readDevice p s).1 = s := by
  unfold readDevice; split <;> rfl

theorem readTimer_state (p : List Byte) (s : State) : (readTimer p s).1 = s := by
  unfold readTimer
  split
  · rfl
  · split
    · rfl
    · split <;> rfl

theorem readParams_state (p : List Byte) (s : State) : (readParams p s).1 = s := by
  unfold readParams; split <;> rfl

theorem execSwitchReport_keeps {b : Byte} {stop : Bool} (h : execSwitchReport b stop s = .next t) : Keeps s t := by
  obtain rfl := Host.Outcome.next.inj h
  split
  · exact .refl s
  · split
    · exact s.arrive_keeps _ _
    · exact .refl s

theorem execAwardEvaluation_keeps (h : execAwardEvaluation s = .next t) : Keeps s t := by
  obtain rfl := Host.Outcome.next.inj h
  split
  · next hq => exact (Keeps.refl s).ite (State.takeHead_keeps hq).evaluate
  · exact .refl s

theorem execTimerExpiry_keeps {v : Fin 16} (h : execTimerExpiry v s = .next t) : Keeps s t := by
  obtain rfl := Host.Outcome.next.inj h
  split
  · exact (Keeps.refl s).takeExpiry.ite (.refl s)
  · exact .refl s

theorem execEndGame_keeps {p : List Byte} (h : execEndGame p s = .next t) : Keeps s t := by
  refine .of_request ?_ h
  split
  · next hg => exact (Keeps.refl s).endGame fun hi => by rw [hi] at hg; cases hg
  · exact .refl s

theorem exec_keeps {i : Instr} (hi : isPlay i = true) (h : exec i s = .next t) : Keeps s t := by
  cases i with
  | switchReport b stop => exact execSwitchReport_keeps h
  | awardEvaluation => exact execAwardEvaluation_keeps h
  | tmuTick => obtain rfl := Host.Outcome.next.inj h; exact (Keeps.refl s).then_quiet
  | timerExpiry v => exact execTimerExpiry_keeps h
  | bdtTick => obtain rfl := Host.Outcome.next.inj h; exact (Keeps.refl s).then_quiet
  | ejectExpiry d => obtain rfl := Host.Outcome.next.inj h; exact (Keeps.refl s).ejectExpiry.ite (.refl s)
  | shortFrame b => obtain rfl := Host.Outcome.next.inj h; exact .ite (Keeps.refl s).glk (Keeps.refl s).answer
  | unknownRequest c p => obtain rfl := Host.Outcome.next.inj h; exact .ite (Keeps.refl s).glk (Keeps.refl s).answer
  | nop p => exact .of_read rfl h
  | readGame p => exact .of_read rfl h
  | readPlayer p => exact .of_read (readPlayer_state p s) h
  | writePlayer p => exact .of_request (writePlayer_keeps s p) h
  | adjustScore p => exact .of_request (adjustScore_keeps s p) h
  | readCounter p => exact .of_read (readCounter_state p s) h
  | writeCounter p => exact .of_request (writeCounter_keeps s p) h
  | stageTarget p => exact .of_request (stageTarget_keeps s p) h
  | readQueue p => exact .of_read rfl h
  | injectSwitch p => exact .of_request (injectSwitch_keeps s p) h
  | readRule p => exact .of_read (readRule_state p s) h
  | endGame p => exact execEndGame_keeps h
  | setPlayfieldMult p => exact .of_request (setPlayfieldMult_keeps s p) h
  | startMode p => exact .of_request (startModeRequest_keeps s p) h
  | stopMode p => exact .of_request (stopMode_keeps s p) h
  | readMode p => exact .of_read (readMode_state p s) h
  | retireMode p => exact .of_request (retireMode_keeps s p) h
  | adjustMode p => exact .of_request (adjustMode_keeps s p) h
  | readStack p => exact .of_read rfl h
  | readDevice p => exact .of_read (readDevice_state p s) h
  | recount p => exact .of_request (recount_keeps s p) h
  | clearDeviceFault p => exact .of_request (clearDeviceFault_keeps s p) h
  | lightLock p => exact .of_request (lightLock_keeps s) h
  | startMultiball p => exact .of_request (startMultiball_keeps s) h
  | addBall p => exact .of_request (addBall_keeps s) h
  | allocTimer p => exact .of_request (allocTimer_keeps s p) h
  | startTimer p => exact .of_request (startTimer_keeps s p) h
  | stopTimer p => exact .of_request (stopTimer_keeps s p) h
  | freeTimer p => exact .of_request (freeTimer_keeps s p) h
  | stagePeriod p => exact .of_request (stagePeriod_keeps s p) h
  | readTimer p => exact .of_read (readTimer_state p s) h
  | peekNotice p => exact .of_read rfl h
  | defineRule p => exact .of_request (defineRule_keeps s p) h
  | defineDevice p => exact .of_request (defineDevice_keeps s p) h
  | defineThresholds p => exact .of_request (defineThresholds_keeps s p) h
  | readParams p => exact .of_read (readParams_state p s) h
  | _ => cases hi

/-! ### The resets, the line events and the other requests -/

theorem KeepsLaws.answer (h : KeepsLaws s t) {e : Byte} {st : Status} {p : List Byte} :
    KeepsLaws s (t.answer e st p) :=
  h.trans ⟨id, id, id, id, id, id, id⟩

theorem KeepsLaws.of_request {code : Byte} {config : Bool} {takes : Nat} {owner : State → State × Reply} {p : List Byte}
    (ho : (config = true → s.gpc.game = .idle) → KeepsLaws s (owner s).1)
    (h : takeRequest code config takes owner p s = .next t) : KeepsLaws s t := by
  rcases takeRequest_cases h with rfl | ⟨st, rfl⟩ | ⟨hidle, rfl⟩
  · exact ⟨id, id, id, id, id, id, id⟩
  · exact (KeepsLaws.refl s).answer
  · exact (ho hidle).answer

theorem powerOn_keepsLaws (s : State) (a b c : Bool) : KeepsLaws s (s.powerOn a b c) := by
  obtain ⟨hq, hn, hp, hg, hc, -, -, hl, hj, -, -, -⟩ := lawsHoldAtReset
  exact ⟨fun _ => hq, fun _ => hn, fun _ => hp, fun _ => hc, fun _ => hl, fun _ => hg, fun _ => hj⟩

theorem setLine_keepsLaws (s : State) (l : GameLine) (b : Bool) : KeepsLaws s (s.setLine l b) := by
  cases l <;> exact ⟨id, id, id, id, id, id, id⟩

theorem tiltBall_keepsLaws (hg : s.gpc.game ≠ .idle) : KeepsLaws s s.tiltBall := by
  unfold State.tiltBall
  split
  · exact .refl s
  · exact ⟨id, id, id, id, id, fun h => ⟨h.1, h.2.1, fun hi => absurd hi hg, h.2.2.2⟩, id⟩

theorem actOnLine_keepsLaws (s : State) : KeepsLaws s s.actOnLine := by
  have tilt : ∀ g, s.gpc.game = g → g ≠ .idle → KeepsLaws s s.tiltBall := fun g h hg => tiltBall_keepsLaws (h ▸ hg)
  have slam : ∀ g, s.gpc.game = g → g ≠ .idle → KeepsLaws s s.endGame.clearClaims := fun g h hg =>
    ((Keeps.refl s).endGame (h ▸ hg)).clearClaims.laws
  unfold State.actOnLine
  split
  · next hg => exact tilt _ hg nofun
  · next hg => exact tilt _ hg nofun
  · next hg => exact slam _ hg nofun
  · next hg => exact slam _ hg nofun
  · next hg => exact slam _ hg nofun
  · exact .refl s

theorem Ntu.remove_lists (n : Ntu) (x : Source) (g : Fin 7) :
    (n.remove x).lists[g] = if g = x.group then n.lists[g].erase x else n.lists[g] := by
  unfold Ntu.remove
  by_cases hg : g = x.group
  · subst hg
    rw [if_pos rfl]
    exact Vector.getElem_set_self _
  · rw [if_neg hg]
    exact Vector.getElem_set_ne x.group.isLt _ fun e => hg (Fin.ext e.symm)

theorem Ntu.Lawful.remove {n : Ntu} (h : n.Lawful) (x : Source) : (n.remove x).Lawful := by
  intro g
  rw [n.remove_lists]
  split
  · exact ⟨(h g).1.erase x, fun y hy => (h g).2 y (List.mem_of_mem_erase hy)⟩
  · exact h g

theorem ackNotice_keepsLaws (s : State) (p : List Byte) : KeepsLaws s (ackNotice p s).1 := by
  unfold ackNotice
  split
  · exact .refl s
  · next x _ =>
    split
    · exact ⟨id, fun hn => Ntu.Lawful.remove hn x, id, id, id, id, id⟩
    · exact .refl s

/-! ### The course of a game (R168, R169, R174 to R176, R180, R181) -/

/-- For a new ball the flag is what the line says (R168, R175, R177). -/
theorem State.clearTilt_gpc (s : State) :
    s.clearTilt.gpc = { s.gpc with tilted := decide (s.lineState = .tilted) } := by
  have hl : ({ s with gpc := { s.gpc with tilted := false } } : State).lineState = s.lineState := rfl
  unfold State.clearTilt
  simp only [hl]
  by_cases h : s.lineState = .tilted
  · simp [State.tiltBall, h]
  · simp [h]

/-- The part as START_GAME leaves it before the launch (R168). -/
def State.gameBegun (s : State) : State :=
  let s := (({ s with ptb := { s.ptb with players := [Player.created] } }).clearCommon).restoreTargets
  let s := s.clearSlots.releaseBound.clearClaims
  let s := { s with lmc := { s.lmc with multiball := false, jackpot := 0 } }
  let s := { s with gpc := { s.gpc with current := some 1, ballNumber := 1 } }
  s.clearTilt.setGame .starting

theorem State.beginGame_eq (s : State) : s.beginGame = s.gameBegun.launch := rfl

theorem State.gameBegun_fields (s : State) :
    s.gameBegun.swi = s.swi ∧ s.gameBegun.ntu = s.ntu ∧
    s.gameBegun.ptb = ⟨[Player.created], mapTable CounterDef.restore s.ptb.playerDefs,
      mapTable CounterDef.restore s.ptb.commonDefs, .replicate 32 0⟩ ∧
    s.gameBegun.lmc = ⟨.replicate 6 [], s.lmc.params, false, 0⟩ ∧
    s.gameBegun.gpc = { s.gpc with
      game := .starting, current := some 1, ballNumber := 1, tilted := decide (s.lineState = .tilted) } := by
  refine ⟨by simp [State.gameBegun], by simp [State.gameBegun], by simp [State.gameBegun, State.restoreTargets],
    by simp [State.gameBegun], ?_⟩
  simp only [State.gameBegun, State.setGame, State.clearTilt_gpc]
  rfl

theorem CounterDef.InRange.restore {d : CounterDef} (h : d.InRange) : d.restore.InRange := ⟨h.1, h.1, nofun⟩

/-- The counters after a restore, with every value 0 (R8, R9, R18). -/
theorem Ptb.CountersLawful.restored {b b' : Ptb} (h : b.CountersLawful)
    (hp : b'.playerDefs = mapTable CounterDef.restore b.playerDefs)
    (hc : b'.commonDefs = mapTable CounterDef.restore b.commonDefs) (hv : b'.commonValues = .replicate 32 0)
    (hr : ∀ r ∈ b'.players, r = Player.created) : b'.CountersLawful := by
  refine ⟨fun i => ?_, fun r hmem i => ?_, fun i => ⟨?_, ?_, fun _ => ?_⟩⟩
  · rw [hp, mapTable_getElem]
    exact (h.playerDefs i).restore
  · rw [hr r hmem]
    simp [Player.created]
  · rw [hc, mapTable_getElem]
    exact (h.common i).1.restore
  · simp [hv]
  · simp [hv]

theorem Player.created_inRange : Player.created.InRange := by decide

theorem beginGame_keepsLaws (s : State) : KeepsLaws s s.beginGame := by
  obtain ⟨hs, hn, hp, hl, hg⟩ := s.gameBegun_fields
  have hne : s.gameBegun.gpc.game ≠ .idle := by rw [hg]; nofun
  have hmem : ∀ r ∈ s.gameBegun.ptb.players, r = Player.created := by rw [hp]; simp
  have hbegun : KeepsLaws s s.gameBegun :=
    { queue := by rw [QueueLaw, QueueLaw, hs]; exact id
      notices := by rw [noticeLaw_iff, noticeLaw_iff, hn]; exact id
      players := fun _ r hr => hmem r hr ▸ Player.created_inRange
      counters := fun h => by
        rw [counterLaw_iff] at h ⊢
        exact ⟨fun hi => absurd hi hne,
          h.2.restored (by simp only [hp]) (by simp only [hp]) (by simp only [hp]) hmem⟩
      locks := fun _ => ⟨fun hi => absurd hi hne, fun r hr => by
        rw [hmem r hr]
        exact ⟨Nat.zero_le _, Nat.zero_le _⟩⟩
      game := fun h => by
        refine ⟨by rw [hg]; exact h.1, by rw [hg]; exact h.2.1, fun hi => absurd hi hne, fun _ => ?_⟩
        simp only [State.currentPlayer, State.playerCount, hg, hp]
        exact ⟨nofun, Nat.le_refl 1, Nat.le_refl 1, by decide, Nat.le_refl 1, h.1⟩
      jackpot := fun h => ⟨by rw [hl]; exact h.1, fun hm => by rw [hl] at hm; cases hm⟩ }
  exact hbegun.trans (Keeps.requestEject (.refl _)).laws

theorem startGame_keepsLaws (s : State) : KeepsLaws s (startGame s).1 := by
  unfold startGame
  split
  · exact .refl s
  · exact beginGame_keepsLaws s

theorem addPlayer_keepsLaws (s : State) : KeepsLaws s (addPlayer s).1 := by
  unfold addPlayer
  split
  · next hg =>
    have hne : s.gpc.game ≠ .idle := fun hi => by rw [hi] at hg; cases hg.1
    split
    · exact .refl s
    · next hlt =>
      have mem : ∀ r ∈ s.ptb.players ++ [Player.created], r ∈ s.ptb.players ∨ r = Player.created := by simp
      refine ⟨id, id, fun h r hr => ?_, fun h => ?_, fun h => ⟨fun hi => absurd hi hne, fun r hr => ?_⟩, fun h => ?_, id⟩
      · rcases mem r hr with hr | rfl
        · exact h r hr
        · exact Player.created_inRange
      · rw [counterLaw_iff] at h ⊢
        refine ⟨fun hi => absurd hi hne, h.2.playerDefs, fun r hr => ?_, h.2.common⟩
        rcases mem r hr with hr | rfl
        · exact h.2.players r hr
        · intro i; simp [Player.created]
      · rcases mem r hr with hr | rfl
        · exact h.2 r hr
        · exact ⟨Nat.zero_le _, Nat.zero_le _⟩
      · obtain ⟨h1, h2, -, h4⟩ := h
        obtain ⟨hcur, hpos, hle, hsix, hball⟩ := h4 hne
        refine ⟨h1, h2, fun hi => absurd hi hne, fun _ => ⟨hcur, hpos, ?_, ?_, hball⟩⟩ <;>
          simp only [State.playerCount, State.currentPlayer, List.length_append, List.length_singleton] at hlt hle ⊢ <;>
          omega
  · exact .refl s

/-- With no ball in play multiball is OFF (R142). -/
theorem multiball_off (h : JackpotLaw s) (hg : s.gpc.game ≠ .inPlay) : s.lmc.multiball = false := by
  rw [← Bool.not_eq_true]
  exact fun hm => hg (h.2 hm).1

/-- A change to a state of the game without multiball keeps what play keeps. -/
theorem State.setGame_keeps {g : GameState} {u : State} (h : Keeps (s.setGame g) u) (hl : u.lmc = s.lmc)
    (hg : g ≠ .idle) (hs : s.gpc.game ≠ .idle) (hp : s.gpc.game ≠ .inPlay) : Keeps s u :=
  .of_setGame h hg hs fun hj => ⟨by rw [hl]; exact hj.1, fun hm => by rw [hl, multiball_off hj hp] at hm; cases hm⟩

theorem State.spendExtraBall_keeps (s : State) : Keeps s s.spendExtraBall := by
  refine (Keeps.refl s).modifyPlayer fun r _ => .of_ranges ?_ rfl rfl rfl
  rintro ⟨h1, h2, h3, h4, h5, h6, h7, h8⟩
  exact ⟨h1, h2, h3, h4, h5, h6, h7, by simp only; omega⟩

theorem finishGame_keeps (hg : s.gpc.game = .ballOver) : Keeps s s.finishGame := by
  have h : Keeps (s.setGame .gameOver) s.finishGame := (Keeps.refl _).endAll.raise
  refine State.setGame_keeps h ?_ nofun ?_ ?_
  · simp [State.finishGame, State.setGame]
  · rw [hg]; nofun
  · rw [hg]; nofun

/-- The rotation moved to player p and ball b, with the flag of the new ball (R175). -/
theorem rotate_keepsLaws {p b : Nat} (hg : s.gpc.game = .ballOver) (hp : GameLaw s → 1 ≤ p ∧ p ≤ s.playerCount)
    (hb : GameLaw s → 1 ≤ b ∧ b ≤ s.gpc.params.ballsPerGame) :
    KeepsLaws s ({ s with gpc := { s.gpc with current := some p, ballNumber := b } } : State).clearTilt := by
  have hne : s.gpc.game ≠ .idle := by rw [hg]; nofun
  have hgpc := State.clearTilt_gpc ({ s with gpc := { s.gpc with current := some p, ballNumber := b } } : State)
  refine ⟨by simp [QueueLaw], by simp [noticeLaw_iff], by simp [PlayerLaw], ?_, ?_, fun h => ?_, ?_⟩
  · rw [counterLaw_iff, counterLaw_iff, hgpc]
    simp
  · simp [LockLaw, hgpc]
  · obtain ⟨h1, h2, h3, h4⟩ := h
    have hp := hp ⟨h1, h2, h3, h4⟩
    have hb := hb ⟨h1, h2, h3, h4⟩
    obtain ⟨-, -, -, hsix, -⟩ := h4 hne
    refine ⟨by rw [hgpc]; exact h1, by rw [hgpc]; exact h2, fun hi => ?_, fun _ => ?_⟩
    · rw [hgpc] at hi
      exact absurd hi hne
    · simpa [State.currentPlayer, State.playerCount, hgpc] using ⟨hp.1, hp.2, hsix, hb⟩
  · simp [JackpotLaw, hgpc]

theorem continueGame_keepsLaws {p b : Nat} (hg : s.gpc.game = .ballOver)
    (hp : GameLaw s → 1 ≤ p ∧ p ≤ s.playerCount) (hb : GameLaw s → 1 ≤ b ∧ b ≤ s.gpc.params.ballsPerGame) :
    KeepsLaws s (s.continueGame p b) := by
  refine (rotate_keepsLaws hg hp hb).trans (Keeps.laws ?_)
  have hover : ({ s with gpc := { s.gpc with current := some p, ballNumber := b } } : State).clearTilt.gpc.game =
      .ballOver := by rw [State.clearTilt_gpc]; exact hg
  have hresumed := (Keeps.refl ({ s with gpc := { s.gpc with current := some p, ballNumber := b } } : State).clearTilt
    ).resumeAll (p := p)
  refine Keeps.requestEject (hresumed.trans (State.setGame_keeps (.refl _) rfl nofun ?_ ?_)) <;> simp [hover]

theorem nextBall_keepsLaws (s : State) : KeepsLaws s (nextBall s).1 := by
  unfold nextBall
  split
  · next hg =>
    have hspent := s.spendExtraBall_keeps
    have hgame : s.spendExtraBall.gpc = s.gpc := by simp [State.spendExtraBall]
    have hcount : s.spendExtraBall.playerCount = s.playerCount := hspent.count
    have hplayer : GameLaw s.spendExtraBall → 1 ≤ s.currentPlayer ∧ s.currentPlayer ≤ s.playerCount ∧
        1 ≤ s.gpc.ballNumber := fun h => by
      obtain ⟨-, h2, h3, -, h5, -⟩ := h.2.2.2 (by rw [hgame, hg]; nofun)
      simp only [State.currentPlayer, hgame, hcount] at h2 h3 h5
      exact ⟨h2, h3, h5⟩
    refine hspent.laws.trans ?_
    unfold State.nextBall
    dsimp only
    split
    · exact (finishGame_keeps (by rw [hgame, hg])).laws
    · next hb =>
      rw [hgame] at hb
      refine continueGame_keepsLaws (by rw [hgame, hg]) (fun h => ?_) fun h => ?_ <;> have hpl := hplayer h
      · rw [hcount]
        unfold State.chooseBall
        split
        · exact ⟨hpl.1, hpl.2.1⟩
        · split
          · exact ⟨Nat.le_add_left 1 _, by omega⟩
          · exact ⟨Nat.le_refl 1, by simp only; omega⟩
      · rw [hgame]
        refine ⟨?_, by omega⟩
        unfold State.chooseBall
        split
        · exact hpl.2.2
        · split
          · exact hpl.2.2
          · exact Nat.le_add_left 1 _
  · exact .refl s

/-- The record of IDLE: no players, every common value 0, multiball OFF (R163, R180, R181). -/
theorem KeepsLaws.of_idleRecord (hp : t.ptb.players = []) (hv : t.ptb.commonValues = .replicate 32 0)
    (hb : s.ptb.CountersLawful → t.ptb.CountersLawful) (hx : t.lmc.params = s.lmc.params)
    (hm : t.lmc.multiball = false) (hg : t.gpc = s.clearGameRecord.gpc) (hq : QueueLaw s → QueueLaw t)
    (hn : NoticeLaw s → NoticeLaw t) : KeepsLaws s t where
  queue := hq
  notices := hn
  players _ r hr := by rw [hp] at hr; cases hr
  counters h := by
    rw [counterLaw_iff] at h ⊢
    exact ⟨fun _ => ⟨hp, fun i => by simp [hv]⟩, hb h.2⟩
  locks _ := ⟨fun _ => hp, fun r hr => by rw [hp] at hr; cases hr⟩
  game h := by
    have hidle : t.gpc.game = .idle := by rw [hg]; rfl
    refine ⟨by rw [hg]; exact h.1, by rw [hg]; exact h.2.1, fun _ => ⟨hp, ?_⟩, fun hne => absurd hidle hne⟩
    rw [hg]
    exact ⟨rfl, rfl, rfl⟩
  jackpot h := ⟨by rw [hx]; exact h.1, fun hmb => by rw [hm] at hmb; cases hmb⟩

theorem clearGame_keepsLaws (s : State) : KeepsLaws s s.clearGame :=
  .of_idleRecord rfl rfl (fun h => ⟨h.playerDefs, fun _ hr => (by cases hr), fun i =>
    ⟨(h.common i).1, by simp [State.clearGame, State.clearGameRecord], fun _ => by
      simp [State.clearGame, State.clearGameRecord]⟩⟩) rfl rfl rfl id id

theorem softReset_keepsLaws (s : State) : KeepsLaws s s.softReset :=
  .of_idleRecord rfl rfl (fun h => h.restored rfl rfl rfl fun _ hr => by cases hr) rfl rfl rfl
    (fun _ => ⟨Nat.zero_le _, nofun⟩) fun _ g => (by simp [State.softReset])

/-! ### The configuration requests, taken in IDLE (R10, R75, R126, R166, R188) -/

theorem numberAt_two_le (p : List Byte) (i : Nat) : numberAt p i 2 ≤ 65535 := Nat.le_of_lt_succ (numberAt_lt p i 2)

theorem CounterLaw.of_definitions (hi : s.gpc.game = .idle)
    (hp : t.ptb.players = s.ptb.players) (hv : t.ptb.commonValues = s.ptb.commonValues)
    (hd : s.ptb.CountersLawful →
      (∀ i : Fin 16, (t.ptb.playerDefs[i]).InRange) ∧ ∀ i : Fin 32, (t.ptb.commonDefs[i]).InRange)
    (h : CounterLaw s) : CounterLaw t := by
  rw [counterLaw_iff] at h ⊢
  obtain ⟨hnone, hzero⟩ := h.1 hi
  obtain ⟨hplayer, hcommon⟩ := hd h.2
  refine ⟨fun _ => ⟨hp.trans hnone, by rwa [hv]⟩, hplayer, fun r hr => ?_, fun i => ⟨hcommon i, ?_, fun _ => ?_⟩⟩
  · rw [hp, hnone] at hr
    cases hr
  · rw [hv, hzero i]
    exact Nat.zero_le _
  · rw [hv, hzero i]

theorem defineCounter_keepsLaws (hi : s.gpc.game = .idle) (p : List Byte) : KeepsLaws s (defineCounter p s).1 := by
  unfold defineCounter
  split
  · next c a act _ _ _ =>
    have hd : CounterDef.InRange ⟨numberAt p 2 2, numberAt p 2 2, none, a, act⟩ :=
      ⟨numberAt_two_le p 2, numberAt_two_le p 2, nofun⟩
    cases c with
    | player i =>
      exact ⟨id, id, id, .of_definitions hi rfl rfl fun h =>
        ⟨InRange_set h.playerDefs hd, fun j => (h.common j).1⟩, id, id, id⟩
    | common i =>
      exact ⟨id, id, id, .of_definitions hi rfl rfl fun h =>
        ⟨h.playerDefs, InRange_set (fun j => (h.common j).1) hd⟩, id, id, id⟩
  · exact .refl s

theorem defineTemplate_keepsLaws (s : State) (p : List Byte) : KeepsLaws s (defineTemplate p s).1 := by
  unfold defineTemplate
  split <;> exact ⟨id, id, id, id, id, id, id⟩

theorem gameParams?_inRange {p : List Byte} {x : GameParams} (h : gameParams? p = some x) :
    1 ≤ x.ballsPerGame ∧ x.maxPlayers ≤ 6 ∧ x.ballSaveTicks ≤ 65535 := by
  unfold gameParams? at h
  split at h
  · next hr =>
    obtain rfl := Option.some.inj h
    exact ⟨hr.1, hr.2.2.2.1, numberAt_two_le p 3⟩
  · cases h

theorem setGameParams_keepsLaws (hi : s.gpc.game = .idle) (p : List Byte) : KeepsLaws s (setGameParams p s).1 := by
  unfold setGameParams
  split
  · next x hx =>
    obtain ⟨hballs, hplayers, -⟩ := gameParams?_inRange hx
    exact ⟨id, id, id, id, id, fun h => ⟨hballs, hplayers, h.2.2.1, fun hne => absurd hi hne⟩, id⟩
  · exact .refl s

theorem lockParams?_inRange {p : List Byte} {n : Nat} {x : LockParams} (h : lockParams? p n = some x) :
    x.jackpotBase.worth ≤ x.jackpotMax.worth ∧ x.mbSaveTicks ≤ 65535 := by
  unfold lockParams? at h
  split at h
  · split at h
    · next hr =>
      obtain rfl := Option.some.inj h
      obtain ⟨-, -, -, -, -, -, -, hworth⟩ := hr
      exact ⟨hworth, numberAt_two_le p 4⟩
    · cases h
  · cases h

theorem setLockParams_keepsLaws (hi : s.gpc.game = .idle) (p : List Byte) : KeepsLaws s (setLockParams p s).1 := by
  unfold setLockParams
  split
  · next x hx =>
    exact
      { KeepsLaws.refl s with
        locks := fun h => ⟨h.1, fun r hr => by rw [h.1 hi] at hr; cases hr⟩
        jackpot := fun h => ⟨(lockParams?_inRange hx).1, fun hm => by
          rw [multiball_off h (by rw [hi]; nofun)] at hm
          cases hm⟩ }
  · exact .refl s

theorem setNoticeEnable_keepsLaws (s : State) (p : List Byte) : KeepsLaws s (setNoticeEnable p s).1 := by
  unfold setNoticeEnable
  split
  · exact .refl s
  · exact ⟨id, id, id, id, id, id, id⟩

/-! ### Every command -/

theorem execLineEvent_keepsLaws {l : GameLine} {b : Bool} {n : Nat} (h : execLineEvent l b n s = .next t) :
    KeepsLaws s t := by
  obtain rfl := Host.Outcome.next.inj h
  split
  · exact .refl s
  · split
    · exact setLine_keepsLaws s l b
    · exact (setLine_keepsLaws s l b).trans (actOnLine_keepsLaws _)

theorem execReset_keepsLaws {n : Nat} {a b c : Bool} (h : execReset n a b c s = .next t) : KeepsLaws s t := by
  obtain rfl := Host.Outcome.next.inj h
  split
  · exact .refl s
  · exact powerOn_keepsLaws s a b c

theorem execClearGame_keepsLaws {p : List Byte} (h : execClearGame p s = .next t) : KeepsLaws s t := by
  refine .of_request (fun _ => ?_) h
  split
  · exact clearGame_keepsLaws s
  · exact .refl s

theorem exec_keepsLaws {i : Instr} (h : exec i s = .next t) : KeepsLaws s t := by
  by_cases hi : isPlay i = true
  · exact (exec_keeps hi h).laws
  cases i with
  | lineEvent l b n => exact execLineEvent_keepsLaws h
  | reset n a b c => exact execReset_keepsLaws h
  | ackNotice p => exact .of_request (fun _ => ackNotice_keepsLaws s p) h
  | setNoticeEnable p => exact .of_request (fun _ => setNoticeEnable_keepsLaws s p) h
  | startGame p => exact .of_request (fun _ => startGame_keepsLaws s) h
  | addPlayer p => exact .of_request (fun _ => addPlayer_keepsLaws s) h
  | nextBall p => exact .of_request (fun _ => nextBall_keepsLaws s) h
  | clearGame p => exact execClearGame_keepsLaws h
  | softReset p => exact .of_request (fun _ => softReset_keepsLaws s) h
  | defineCounter p => exact .of_request (fun hc => defineCounter_keepsLaws (hc rfl) p) h
  | defineTemplate p => exact .of_request (fun _ => defineTemplate_keepsLaws s p) h
  | setGameParams p => exact .of_request (fun hc => setGameParams_keepsLaws (hc rfl) p) h
  | setLockParams p => exact .of_request (fun hc => setLockParams_keepsLaws (hc rfl) p) h
  | _ => exact absurd rfl hi

/-- A step is the command at the front of the queue on a state that differs in the queue only, or nothing. -/
theorem step_cases (h : step s = .next t) :
    t = s ∨ ∃ i rest, s.pending = i :: rest ∧ exec i { s with pending := rest } = .next t := by
  unfold step at h
  split at h
  · next i rest hp => exact .inr ⟨i, rest, hp, h⟩
  · exact .inl (Host.Outcome.next.inj h).symm

theorem step_keepsLaws (h : step s = .next t) : KeepsLaws s t := by
  rcases step_cases h with rfl | ⟨i, rest, -, h⟩
  · exact .refl t
  · exact KeepsLaws.trans (t := { s with pending := rest }) ⟨id, id, id, id, id, id, id⟩ (exec_keepsLaws h)

end

/-- Settles O10: the queue and the pending lists are among the laws every command keeps. -/
theorem stepsKeepTheQueueAndNoticeLaws : Obligations.StepsKeepTheQueueAndNoticeLaws :=
  ⟨fun _ _ hq h => (step_keepsLaws h).queue hq, fun _ _ hn h => (step_keepsLaws h).notices hn⟩

/-- Settles O11: so are the players' ranges, the counters and the locks. -/
theorem stepsKeepPlayersCountersAndLocks : Obligations.StepsKeepPlayersCountersAndLocks :=
  ⟨fun _ _ hp h => (step_keepsLaws h).players hp, fun _ _ hc h => (step_keepsLaws h).counters hc,
    fun _ _ hl h => (step_keepsLaws h).locks hl⟩

/-- Settles O12: and the game record and the jackpot. -/
theorem stepsKeepTheGameRecord : Obligations.StepsKeepTheGameRecord :=
  ⟨fun _ _ hg h => (step_keepsLaws h).game hg, fun _ _ hj h => (step_keepsLaws h).jackpot hj⟩

end Sys2Proof.Machine
end

section
/-! PROOFS. The queue of commands, the resets and the frames (10): a step carries out the command at the front, every
command completes, what RESET and SOFT_RESET leave, and how a frame is read and judged. -/

namespace Sys2Proof.Machine

/-! ### Every command completes (log 1) -/

section
variable {s t : State}

/-- An owner that leaves the queue of commands alone answers a request that does. -/
theorem takeRequest_pending {code : Byte} {config : Bool} {takes : Nat} {owner : State → State × Reply} {p : List Byte}
    (ho : (owner s).1.pending = s.pending) (h : takeRequest code config takes owner p s = .next t) :
    t.pending = s.pending := by
  rcases takeRequest_cases h with rfl | ⟨st, rfl⟩ | ⟨-, rfl⟩
  · rfl
  · rfl
  · exact ho

theorem actOnLine_pending (s : State) : s.actOnLine.pending = s.pending := by
  unfold State.actOnLine
  split <;> simp

theorem execLineEvent_pending {l : GameLine} {b : Bool} {n : Nat} (h : execLineEvent l b n s = .next t) :
    t.pending = s.pending := by
  have hset : (s.setLine l b).pending = s.pending := by cases l <;> rfl
  obtain rfl := Host.Outcome.next.inj h
  split
  · rfl
  · split
    · exact hset
    · rw [actOnLine_pending, hset]

theorem execReset_pending {n : Nat} {a b c : Bool} (h : execReset n a b c s = .next t) : t.pending = s.pending := by
  obtain rfl := Host.Outcome.next.inj h
  split <;> rfl

theorem ackNotice_pending (p : List Byte) (s : State) : (ackNotice p s).1.pending = s.pending := by
  unfold ackNotice
  split
  · rfl
  · split <;> rfl

theorem setNoticeEnable_pending (p : List Byte) (s : State) : (setNoticeEnable p s).1.pending = s.pending := by
  unfold setNoticeEnable; split <;> rfl

theorem startGame_pending (s : State) : (startGame s).1.pending = s.pending := by
  unfold startGame
  split
  · rfl
  · simp [State.beginGame, State.restoreTargets, State.setGame]

theorem addPlayer_pending (s : State) : (addPlayer s).1.pending = s.pending := by
  unfold addPlayer
  split
  · split <;> rfl
  · rfl

theorem nextBall_pending (s : State) : (nextBall s).1.pending = s.pending := by
  unfold nextBall
  split
  · unfold State.nextBall
    dsimp only
    split
    · simp [State.finishGame, State.setGame, State.spendExtraBall]
    · simp [State.continueGame, State.setGame, State.spendExtraBall]
  · rfl

theorem clearGame_pending (s : State) :
    (if s.gpc.game = .gameOver then (s.clearGame, Reply.bare .ok) else (s, .bare .wrongState)).1.pending =
      s.pending := by
  split <;> rfl

theorem defineCounter_pending (p : List Byte) (s : State) : (defineCounter p s).1.pending = s.pending := by
  unfold defineCounter
  split
  · next c _ _ _ _ _ => cases c <;> rfl
  · rfl

theorem defineTemplate_pending (p : List Byte) (s : State) : (defineTemplate p s).1.pending = s.pending := by
  unfold defineTemplate; split <;> rfl

theorem setGameParams_pending (p : List Byte) (s : State) : (setGameParams p s).1.pending = s.pending := by
  unfold setGameParams; split <;> rfl

theorem setLockParams_pending (p : List Byte) (s : State) : (setLockParams p s).1.pending = s.pending := by
  unfold setLockParams; split <;> rfl

theorem exec_pending {i : Instr} (h : exec i s = .next t) : t.pending = s.pending := by
  by_cases hi : isPlay i = true
  · exact (exec_keeps hi h).pending
  cases i with
  | lineEvent l b n => exact execLineEvent_pending h
  | reset n a b c => exact execReset_pending h
  | ackNotice p => exact takeRequest_pending (ackNotice_pending p s) h
  | setNoticeEnable p => exact takeRequest_pending (setNoticeEnable_pending p s) h
  | startGame p => exact takeRequest_pending (startGame_pending s) h
  | addPlayer p => exact takeRequest_pending (addPlayer_pending s) h
  | nextBall p => exact takeRequest_pending (nextBall_pending s) h
  | clearGame p => exact takeRequest_pending (clearGame_pending s) h
  | softReset p => exact takeRequest_pending rfl h
  | defineCounter p => exact takeRequest_pending (defineCounter_pending p s) h
  | defineTemplate p => exact takeRequest_pending (defineTemplate_pending p s) h
  | setGameParams p => exact takeRequest_pending (setGameParams_pending p s) h
  | setLockParams p => exact takeRequest_pending (setLockParams_pending p s) h
  | _ => exact absurd rfl hi

/-- No command faults or is refused: each answers a next state by its definition. -/
theorem exec_completes (i : Instr) (s : State) : ∃ t, exec i s = .next t := by
  cases i <;> exact ⟨_, rfl⟩

end

/-- Settles O1: the two cases of the queue. -/
theorem stepRunsFrontCommand : Obligations.StepRunsFrontCommand :=
  ⟨fun s c rest h => by simp only [step, h], fun s h => by simp only [step, h]⟩

/-- Settles O2: every command completes, and none touches the queue of commands. -/
theorem everyCommandCompletes : Obligations.EveryCommandCompletes := by
  intro c s
  obtain ⟨t, h⟩ := exec_completes c s
  exact ⟨t, h, exec_pending h⟩

/-! ### The resets (R181, R191, R192, R210) -/

theorem replicate_getElem {α : Type} {n : Nat} (a : α) (i : Fin n) : (Vector.replicate n a)[i] = a := by simp

theorem powerOn_lineState (s : State) (playen tilt csN : Bool) : (s.powerOn playen tilt csN).lineState =
    if playen then (if tilt then .tilted else .normal) else (if tilt then .slam else .held) := by
  cases playen <;> cases tilt <;> rfl

/-- Settles O3: the records after power-on are those of State.reset, with the line state of the pins. -/
theorem resetGivesPowerOnRecords : Obligations.ResetGivesPowerOnRecords := by
  intro s lowNs playen tilt csN
  refine ⟨rfl, fun _ _ => rfl, fun h => ?short, fun h => ⟨s.powerOn playen tilt csN, ?long, ?records⟩⟩
  case short => simp only [exec, execReset, if_pos h]
  case long => simp only [exec, execReset, if_neg (Nat.not_lt.mpr h)]
  case records =>
    have quiet : State.reset.attnLow = false := by decide
    exact ⟨rfl, replicate_getElem _, rfl, replicate_getElem _,
      fun i => ⟨replicate_getElem _ i, replicate_getElem _ i⟩, rfl, replicate_getElem _, replicate_getElem _, rfl, rfl,
      rfl, fun d => ⟨replicate_getElem _ d, replicate_getElem _ d⟩, rfl, rfl, rfl, rfl, rfl,
      fun u => ⟨replicate_getElem _ u, replicate_getElem _ u⟩, replicate_getElem _, rfl, powerOn_lineState s _ _ _, rfl,
      replicate_getElem _, rfl, quiet, rfl⟩

/-- Settles O4: each record is the one SOFT_RESET writes, block by block. -/
theorem softResetClearsTheGame : Obligations.SoftResetClearsTheGame := by
  intro s hw
  exact ⟨_, takeRequest_owner hw rfl (by simp) (.inl rfl), rfl, rfl, rfl, rfl, replicate_getElem _,
    mapTable_getElem _ _, mapTable_getElem _ _, rfl, replicate_getElem _, rfl, rfl, rfl,
    fun d => ⟨mapTable_getElem _ _ d, replicate_getElem _ d⟩, rfl, rfl, rfl, rfl, rfl,
    fun u => ⟨replicate_getElem _ u, replicate_getElem _ u⟩, replicate_getElem _, rfl, replicate_getElem _, rfl,
    congrArg _ hw⟩

/-! ### Reading frames (R183, R184, R187, R201, R209) -/

/-- A command's frame names it by its code. -/
theorem requestOfCode_frame {i : Instr} {code : Byte} {p : List Byte} (hf : i.frame = some (code, p))
    (hu : i ≠ .unknownRequest code p) : requestOfCode code.toNat p = some i := by
  cases i <;> cases hf
  case unknownRequest => exact absurd rfl hu
  all_goals rfl

/-- Whether a code names a request does not hang on the payload. -/
theorem requestOfCode_isSome (code : Nat) (p q : List Byte) : (requestOfCode code p).isSome = (requestOfCode code q).isSome := by
  unfold requestOfCode
  split <;> rfl

/-- The frame of a payload of at most 62 bytes is whole, whatever follows it. -/
theorem decodeFrame_frame {code : Byte} {p : List Byte} (extra : List Byte) (h : p.length ≤ 62) :
    decodeFrame (code :: BitVec.ofNat 8 p.length :: (p ++ extra)) =
      (requestOfCode code.toNat p).getD (.unknownRequest code p) := by
  have hlen : (BitVec.ofNat 8 p.length).toNat = p.length := by simp; omega
  have hshort : frameIsShort (code :: BitVec.ofNat 8 p.length :: (p ++ extra)) = false := by
    simp only [frameIsShort, hlen, List.length_append]
    simp; omega
  simp only [decodeFrame, hshort, hlen, List.take_left, Bool.false_eq_true, if_false]

theorem decodeFrame_short {bytes : List Byte} (h : frameIsShort bytes = true) : decodeFrame bytes = .shortFrame bytes := by
  unfold decodeFrame
  split
  · rw [if_pos h]
  · rfl

/-- A well-formed frame is read back, with what follows it. -/
theorem decodeFrame_encoded {i : Instr} {code : Byte} {p : List Byte} (hf : i.frame = some (code, p))
    (hw : i.wellFormed = true) (extra : List Byte) :
    decodeFrame (code :: BitVec.ofNat 8 p.length :: (p ++ extra)) = i := by
  by_cases hu : i = .unknownRequest code p
  · subst hu
    simp only [Instr.wellFormed, Bool.and_eq_true, Bool.not_eq_true', decide_eq_true_eq] at hw
    have hnone : requestOfCode code.toNat p = none := by
      rw [← Option.not_isSome_iff_eq_none, requestOfCode_isSome _ p []]
      simpa [codeNamesRequest] using hw.1
    rw [decodeFrame_frame extra hw.2, hnone, Option.getD_none]
  · have hlen : p.length ≤ 62 := by
      unfold Instr.wellFormed at hw
      split at hw
      · cases hf
      · cases hf
        exact absurd rfl hu
      · simpa [hf] using hw
    rw [decodeFrame_frame extra hlen, requestOfCode_frame hf hu, Option.getD_some]

/-- Settles O5: short frames read as they stand, other commands by their code and declared length. -/
theorem framesReadBackAsTheirCommands : Obligations.FramesReadBackAsTheirCommands := by
  refine ⟨fun i bytes extra hw he => ?frames, by decide, by decide⟩
  case frames =>
    by_cases hs : ∃ b, i = .shortFrame b
    · obtain ⟨b, rfl⟩ := hs
      obtain rfl := Option.some.inj he
      exact ⟨decodeFrame_short hw, fun h => absurd rfl (h b)⟩
    · have hframe : ∃ c p, i.frame = some (c, p) ∧ bytes = c :: BitVec.ofNat 8 p.length :: p := by
        unfold encodeFrame at he
        split at he
        · exact absurd ⟨_, rfl⟩ hs
        · obtain ⟨⟨c, p⟩, hf, rfl⟩ := Option.map_eq_some_iff.mp he
          exact ⟨c, p, hf, rfl⟩
      obtain ⟨c, p, hf, rfl⟩ := hframe
      exact ⟨by simpa using decodeFrame_encoded hf hw [], fun _ => decodeFrame_encoded hf hw extra⟩

/-! ### Judging frames (R184, R187, R188, R192, R200) -/

/-- Every request is judged by its code's length and by whether its code is a configuration request's. -/
theorem exec_eq_takeRequest {i : Instr} {code : Byte} {p : List Byte} (hf : i.frame = some (code, p))
    (hu : i ≠ .unknownRequest code p) : ∃ (takes : Nat) (owner : State → State × Reply),
      requestLength code p = some takes ∧
        ∀ s, exec i s = takeRequest code (isConfiguration code) takes owner p s := by
  cases i <;> cases hf
  case unknownRequest => exact absurd rfl hu
  all_goals exact ⟨_, _, rfl, fun _ => rfl⟩

/-- A transaction that is not a short frame carries a code and a payload. -/
theorem isTransaction_frame {i : Instr} (hi : i.isTransaction = true) (hs : ∀ b, i ≠ .shortFrame b) :
    i.frame.isSome = true := by
  unfold Instr.isTransaction at hi
  split at hi
  · exact absurd rfl (hs _)
  · exact hi

/-- Settles O7: each answer is the definition's, outside a transaction that is waited out. -/
theorem discardedFramesChangeNothing : Obligations.DiscardedFramesChangeNothing := by
  intro s hw
  have judged (judge : State → State) : s.transaction judge = judge s := by simp [State.transaction, hw]
  exact ⟨congrArg _ (judged _), fun _ _ => congrArg _ (judged _), fun _ _ => congrArg _ (judged _)⟩

/-- Settles O8: the checks of R187 stand in its order before every owner. -/
theorem framesAreJudgedBeforeTheirOwners : Obligations.FramesAreJudgedBeforeTheirOwners := by
  refine ⟨fun s i code p n hw hf hn hu hlen => ?length, fun s i code p hw hf hc hu hn h62 hg => ?config,
    fun s i hw hi => ?waiting⟩
  case length =>
    obtain ⟨takes, owner, ht, he⟩ := exec_eq_takeRequest hf hu
    obtain rfl := Option.some.inj (hn.symm.trans ht)
    rw [he, takeRequest_badLength hw hlen.symm]
  case config =>
    obtain ⟨takes, owner, ht, he⟩ := exec_eq_takeRequest hf hu
    obtain rfl := Option.some.inj (hn.symm.trans ht)
    rw [he, hc, takeRequest_inGame hw rfl h62 hg]
  case waiting =>
    have out (judge : State → State) : s.transaction judge = { s with glk := ⟨s.glk.response, false⟩ } := by
      simp [State.transaction, hw]
    by_cases hs : ∃ b, i = .shortFrame b
    · obtain ⟨b, rfl⟩ := hs
      exact congrArg _ (out _)
    · obtain ⟨⟨code, p⟩, hf⟩ := Option.isSome_iff_exists.mp (isTransaction_frame hi fun b e => hs ⟨b, e⟩)
      by_cases hu : i = .unknownRequest code p
      · subst hu
        exact congrArg _ (out _)
      · obtain ⟨takes, owner, -, he⟩ := exec_eq_takeRequest hf hu
        rw [he, takeRequest_waiting hw]

end Sys2Proof.Machine
end

section
/-! PROOFS. Reads, notices and switch intake (01, 02, 05, 09, 10): what the reads answer, what ACK_NOTICE and
SET_NOTICE_ENABLE do, and where a Switch Port report goes. -/

namespace Sys2Proof.Machine

/-! ### Requests whose owner's answer is known -/

section
variable {s t : State} {code : Byte} {takes : Nat} {owner : State → State × Reply} {p q : List Byte} {st : Status}

/-- A request of the right length is answered by its owner. -/
theorem takeRequest_answers (hw : s.glk.waiting = false) (ho : owner s = (t, ⟨st, q⟩)) (hl : p.length = takes := by rfl)
    (h62 : takes ≤ 62 := by decide) : takeRequest code false takes owner p s = .next (t.answer code st q) := by
  rw [takeRequest_owner hw hl (hl ▸ h62) (.inl rfl), ho]

/-- A configuration request of the right length is answered by its owner in IDLE. -/
theorem takeRequest_configures (hw : s.glk.waiting = false) (hi : s.gpc.game = .idle) (ho : owner s = (t, ⟨st, q⟩))
    (hl : p.length = takes := by rfl) (h62 : takes ≤ 62 := by decide) :
    takeRequest code true takes owner p s = .next (t.answer code st q) := by
  rw [takeRequest_owner hw hl (hl ▸ h62) (.inr hi), ho]

end

/-! ### READ_MODE (R77, R101) -/

section
variable {s : State} {b : Byte}

theorem readMode_outOfRange (h : 12 ≤ b.toNat) : readMode [b] s = (s, .bare .outOfRange) := by
  have hi : index? 12 (byteAt [b] 0) = none := index?_eq_none.mpr h
  simp only [readMode, hi]

theorem readMode_image {x : Fin 12} (h : x.val = b.toNat) : readMode [b] s = (s, .ok (s.contextImage x)) := by
  simp only [readMode, index?_singleton h]

theorem State.contextImage_free {x : Fin 12} (hx : x.val = b.toNat) (h : s.mst.slots[x] = none) :
    s.contextImage x = [b, 0, 0xFF, 0, 0, 0, 0, 0, 0, 0, 0, 0, 0, 0, 0, 0, 0xFF, 0, 0, 0] := by
  simp only [State.contextImage, State.slot?, h, small_eq_of_toNat hx]
  rfl

theorem State.contextImage_held {x : Fin 12} {c : Context} (hx : x.val = b.toNat) (h : s.mst.slots[x] = some c) :
    s.contextImage x = [b, c.phase.code, small c.template.val, small c.owner, small c.hits] ++ numberBytes 5 c.value ++
      [small c.multiplier] ++ numberBytes 5 c.total ++ [timerByte c.timer] ++ numberBytes 2 (s.remainingOf c) ++
      [c.phase.reasonByte] := by
  simp only [State.contextImage, State.slot?, h, small_eq_of_toNat hx]

end

/-- The fill state by the entry count (R30). -/
theorem fillCode_eq (n : Nat) :
    fillCode n = if n = 0 then 0 else if n ≤ 23 then 1 else if n ≤ 31 then 2 else 3 := rfl

/-- Settles O16: each image is the records written out. -/
theorem readsOfGameQueueStackAndModes : Obligations.ReadsOfGameQueueStackAndModes := by
  refine ⟨fun s hw => ⟨takeRequest_answers hw rfl, takeRequest_answers hw ?queue, takeRequest_answers hw rfl⟩,
    fun s b hw => ⟨fun h => takeRequest_answers hw (readMode_outOfRange h),
      fun x hx => ⟨fun hn => takeRequest_answers hw ((readMode_image hx).trans ?free), fun c n hc hn =>
        takeRequest_answers hw ((readMode_image hx).trans ?context)⟩⟩⟩
  case queue => simp only [fillCode_eq, Reply.ok]
  case free => rw [State.contextImage_free hx hn]; rfl
  case context =>
    have hremaining : s.remainingOf c = n := by
      obtain ⟨phase, template, owner, hits, value, multiplier, total, timer, stored⟩ := c
      cases phase <;> cases timer <;> exact Eq.symm hn
    rw [State.contextImage_held hx hc, hremaining]
    rfl

/-! ### READ_PLAYER, READ_COUNTER (R2, R17) -/

section
variable {s : State} {b cls idx pl : Byte}

theorem readPlayer_refused {e : Status} (h : s.checkPlayer b.toNat = .error e) :
    readPlayer [b] s = (s, .bare e) := by
  have h : s.checkPlayer (byteAt [b] 0) = .error e := h
  simp only [readPlayer, h]

theorem readPlayer_present {r : Player} (h : s.checkPlayer b.toNat = .ok r) :
    readPlayer [b] s = (s, .ok r.image) := by
  have h : s.checkPlayer (byteAt [b] 0) = .ok r := h
  simp only [readPlayer, h]

/-- The counters of a record as its image writes them. -/
theorem counters_bytes (v : Vector Nat 16) :
    v.toList.flatMap (numberBytes 2) = (List.finRange 16).flatMap fun i => numberBytes 2 v[i] := by
  have h : v.toList = (List.finRange 16).map fun i => v[i] := by
    apply List.ext_getElem <;> simp
  rw [h, List.flatMap_map]

/-- The check of a player by number: in 1..6, and with a record. -/
theorem State.checkPlayer_one_le {n : Nat} (h1 : 1 ≤ n) (h6 : n ≤ 6) (hn : s.ptb.players.length < n) :
    s.checkPlayer n = .error .wrongState := by
  obtain ⟨m, rfl⟩ := Nat.exists_eq_add_of_le' h1
  exact State.checkPlayer_absent (by omega) (by omega)

theorem State.checkPlayer_ok {n : Nat} {r : Player} (h1 : 1 ≤ n) (h6 : n ≤ 6) (hr : s.ptb.players[n - 1]? = some r) :
    s.checkPlayer n = .ok r := by
  obtain ⟨m, rfl⟩ := Nat.exists_eq_add_of_le' h1
  exact State.checkPlayer_present (by omega) hr

theorem counterRef?_none {c x : Nat} (h : 2 ≤ c ∨ (c = 0 ∧ 16 ≤ x) ∨ (c = 1 ∧ 32 ≤ x)) : counterRef? c x = none := by
  unfold counterRef?
  split
  · simp [index?_eq_none]; omega
  · simp [index?_eq_none]; omega
  · rfl

theorem counterRef?_player {c x : Nat} {i : Fin 16} (hc : c = 0) (hi : i.val = x) :
    counterRef? c x = some (.player i) := by
  simp only [counterRef?, hc, index?_eq_some.mpr hi, Option.map_some]

theorem counterRef?_common {c x : Nat} {i : Fin 32} (hc : c = 1) (hi : i.val = x) :
    counterRef? c x = some (.common i) := by
  simp only [counterRef?, hc, index?_eq_some.mpr hi, Option.map_some]

/-- The bytes of a counter (R17, R206). -/
def counterImage (d : CounterDef) (v : Nat) : List Byte :=
  numberBytes 2 v ++ numberBytes 2 d.target ++ [flagByte d.staged.isSome] ++ numberBytes 2 (d.staged.getD 0) ++
    [d.afterReach.code] ++ d.action.bytes ++ [indicatorCode v d.target]

theorem readCounter_noRef (h : counterRef? cls.toNat idx.toNat = none) :
    readCounter [cls, idx, pl] s = (s, .bare .outOfRange) := by
  have h : counterRef? (byteAt [cls, idx, pl] 0) (byteAt [cls, idx, pl] 1) = none := h
  simp only [readCounter, h]

theorem readCounter_refused {c : CounterRef} {e : Status} (h : counterRef? cls.toNat idx.toNat = some c)
    (hp : s.checkCounterPlayer c pl.toNat = some e) : readCounter [cls, idx, pl] s = (s, .bare e) := by
  have h : counterRef? (byteAt [cls, idx, pl] 0) (byteAt [cls, idx, pl] 1) = some c := h
  have hp : s.checkCounterPlayer c (byteAt [cls, idx, pl] 2) = some e := hp
  simp only [readCounter, h, hp]

theorem readCounter_image {c : CounterRef} (h : counterRef? cls.toNat idx.toNat = some c)
    (hp : s.checkCounterPlayer c pl.toNat = none) :
    readCounter [cls, idx, pl] s = (s, .ok (counterImage (s.counterDef c) (s.counterValue c pl.toNat))) := by
  have h : counterRef? (byteAt [cls, idx, pl] 0) (byteAt [cls, idx, pl] 1) = some c := h
  have hp' : s.checkCounterPlayer c (byteAt [cls, idx, pl] 2) = none := hp
  simp only [readCounter, h, hp']
  rfl

theorem State.checkCounterPlayer_error {i : Fin 16} {n : Nat} {e : Status} (h : s.checkPlayer n = .error e) :
    s.checkCounterPlayer (.player i) n = some e := by
  simp only [State.checkCounterPlayer, h]

theorem State.checkCounterPlayer_ok {i : Fin 16} {n : Nat} {r : Player} (h : s.checkPlayer n = .ok r) :
    s.checkCounterPlayer (.player i) n = none := by
  simp only [State.checkCounterPlayer, h]

theorem State.counterValue_player {i : Fin 16} {n : Nat} {r : Player} (h1 : 1 ≤ n) (hr : s.ptb.players[n - 1]? = some r) :
    s.counterValue (.player i) n = r.counters[i] := by
  obtain ⟨m, rfl⟩ := Nat.exists_eq_add_of_le' h1
  simp only [Nat.add_sub_cancel] at hr
  simp [State.counterValue, State.player?, hr]

end

/-- Settles O17: the checks in their order, and the record written out. -/
theorem readsOfPlayersAndCounters : Obligations.ReadsOfPlayersAndCounters := by
  refine ⟨fun s b hw => ⟨fun h => ?range, fun h1 h6 hn => ?absent, fun r h1 h6 hr => ?player⟩,
    fun s cls idx pl hw => ⟨fun h => ?ref, fun d v h => ?counter, fun hc hi hp => ?counterRange,
      fun hc hi h1 h6 hn => ?counterAbsent⟩⟩
  case range => exact takeRequest_answers hw (readPlayer_refused (State.checkPlayer_outOfRange h))
  case absent => exact takeRequest_answers hw (readPlayer_refused (State.checkPlayer_one_le h1 h6 hn))
  case player =>
    rw [← counters_bytes]
    exact takeRequest_answers hw (readPlayer_present (State.checkPlayer_ok h1 h6 hr))
  case ref => exact takeRequest_answers hw (readCounter_noRef (counterRef?_none h))
  case counter =>
    have himage : readCounter [cls, idx, pl] s = (s, .ok (counterImage d v)) := by
      rcases h with ⟨hc, i, hi, rfl, rfl⟩ | ⟨hc, h1, h6, i, r, hi, hr, rfl, rfl⟩
      · exact readCounter_image (counterRef?_common hc hi) rfl
      · have himage := readCounter_image (counterRef?_player hc hi)
          (State.checkCounterPlayer_ok (State.checkPlayer_ok h1 h6 hr))
        rwa [State.counterValue_player h1 hr] at himage
    refine takeRequest_answers hw (himage.trans (congrArg (fun q => (s, Reply.ok q)) ?_))
    obtain ⟨defined, target, staged, reach, action⟩ := d
    cases staged <;> simp [counterImage, indicatorCode, flagByte, numberBytes]
  case counterRange =>
    exact takeRequest_answers hw (readCounter_refused (counterRef?_player (i := ⟨_, hi⟩) hc rfl)
      (State.checkCounterPlayer_error (State.checkPlayer_outOfRange hp)))
  case counterAbsent =>
    exact takeRequest_answers hw (readCounter_refused (counterRef?_player (i := ⟨_, hi⟩) hc rfl)
      (State.checkCounterPlayer_error (State.checkPlayer_one_le h1 h6 hn)))

/-! ### Raises, ACK_NOTICE, SET_NOTICE_ENABLE (R194, R195, R198) -/

section
variable {s : State} {b : Byte} {x : Source}

theorem State.raise_pending_source (h : x ∈ s.ntu.lists[x.group]) : s.raise x = s := by
  simp only [State.raise, Ntu.raise, if_pos h]

theorem ackNotice_outOfRange (h : ∀ x : Source, b.toNat ≠ x.vector) : ackNotice [b] s = (s, .bare .outOfRange) := by
  have hnone : sourceOf? (byteAt [b] 0) = none :=
    Option.eq_none_iff_forall_ne_some.mpr fun x hx => h x (sourceOf?_eq_some_iff.mp hx).symm
  simp only [ackNotice, hnone]

theorem ackNotice_source (h : b.toNat = x.vector) : ackNotice [b] s =
    if s.ntu.isPending x then ({ s with ntu := s.ntu.remove x }, .ok [small (s.ntu.remove x).nextVector])
    else (s, .bare .notPending) := by
  have hx : sourceOf? (byteAt [b] 0) = some x := sourceOf?_eq_some_iff.mpr h.symm
  simp only [ackNotice, hx]

theorem setNoticeEnable_outOfRange (h : 128 ≤ b.toNat) : setNoticeEnable [b] s = (s, .bare .outOfRange) :=
  if_pos h

theorem setNoticeEnable_replaces (h : b.toNat < 128) : setNoticeEnable [b] s =
    ({ s with ntu := { s.ntu with enabled := BitVec.ofNat 7 b.toNat } }, .ok [b]) := by
  have hb : ¬ 128 ≤ byteAt [b] 0 := Nat.not_le.mpr h
  have hbyte : small (byteAt [b] 0) = b := small_byte b
  simp only [setNoticeEnable, if_neg hb, hbyte]
  rfl

end

/-- Settles O19: a raise joins its group's list, ACK_NOTICE erases from it, SET_NOTICE_ENABLE writes the set. -/
theorem noticesJoinAndLeave : Obligations.NoticesJoinAndLeave := by
  refine ⟨fun s x => ⟨fun h => State.raise_pending_source h, fun h => ?joins⟩, fun s b hw => ⟨fun h => ?range,
    fun x hv hx => ?notPending, fun x before after hv hl hb => ?leaves, fun h => ?enableRange, fun h => ?enable⟩⟩
  case joins =>
    refine ⟨?_, fun g hg => ?_, ?_, rfl⟩
    · exact (s.ntu.raise_lists x x.group).trans (if_pos ⟨rfl, h⟩)
    · exact (s.ntu.raise_lists x g).trans (if_neg fun hc => hg hc.1)
    · exact s.ntu.raise_enabled x
  case range => exact takeRequest_answers hw (ackNotice_outOfRange h)
  case notPending =>
    refine takeRequest_answers hw ((ackNotice_source hv).trans (if_neg ?_))
    simpa [Ntu.isPending] using hx
  case leaves =>
    refine ⟨{ s with ntu := s.ntu.remove x }, takeRequest_answers hw ((ackNotice_source hv).trans (if_pos ?_)), ?_,
      fun g hg => ?_, rfl, rfl⟩
    · simp [Ntu.isPending, hl]
    · rw [Ntu.remove_lists, if_pos rfl, hl, List.erase_append_right _ hb, List.erase_cons_head]
    · rw [Ntu.remove_lists, if_neg hg]
  case enableRange => exact takeRequest_answers hw (setNoticeEnable_outOfRange h)
  case enable =>
    refine ⟨_, fun g => ?_, takeRequest_answers hw (setNoticeEnable_replaces h)⟩
    rw [BitVec.getLsbD_ofNat, decide_eq_true g.isLt, Bool.true_and]
    rfl

/-! ### The Switch Port (R21 to R26, R209) -/

section
variable {s : State} {b : Byte} {sw : Fin 128} {close : Bool}

theorem exec_switchReport_framingError : exec (.switchReport b false) s = .next s := rfl

theorem exec_switchReport_discarded (hb : decodeSwitchByte b = (close, sw))
    (hr : (s.evl.rules[sw]).accepts (edgeOf close) = none) : exec (.switchReport b true) s = .next s := by
  obtain rfl : (decodeSwitchByte b).1 = close := congrArg Prod.fst hb
  obtain rfl : (decodeSwitchByte b).2 = sw := congrArg Prod.snd hb
  simp only [edgeOf] at hr
  simp only [exec, execSwitchReport, hr, Bool.true_eq_false, if_false]

theorem exec_switchReport_arrives {cls : EntryClass} (hb : decodeSwitchByte b = (close, sw))
    (hr : (s.evl.rules[sw]).accepts (edgeOf close) = some cls) :
    exec (.switchReport b true) s = .next (s.arrive sw cls) := by
  obtain rfl : (decodeSwitchByte b).1 = close := congrArg Prod.fst hb
  obtain rfl : (decodeSwitchByte b).2 = sw := congrArg Prod.snd hb
  simp only [edgeOf] at hr
  simp only [exec, execSwitchReport, hr, Bool.true_eq_false, if_false]

theorem State.arrive_coalesced {cls : EntryClass} {q : List Entry} (h : place s.swi.queue sw cls = .coalesced q) :
    s.arrive sw cls = { s with swi := ⟨q, s.swi.overrun⟩ } := by
  simp only [State.arrive, h]; rfl

theorem State.arrive_appended {cls : EntryClass} {q : List Entry} (h : place s.swi.queue sw cls = .appended q) :
    s.arrive sw cls = { s with swi := ⟨q, s.swi.overrun⟩ } := by
  simp only [State.arrive, h]; rfl

theorem State.arrive_dropped {cls : EntryClass} (h : place s.swi.queue sw cls = .dropped) :
    s.arrive sw cls = s.dropReport cls := by
  simp only [State.arrive, h]

/-- A device rule accepts the closing edge alone, as its own class. -/
theorem Rule.accepts_device {r : Rule} {d : Fin 6} {cls : EntryClass}
    (h : (r = .deviceExit d ∧ cls = .deviceExit) ∨ ∃ g l, r = .deviceEntry d g l ∧ cls = .deviceEntry) :
    r.accepts .close = some cls ∧ r.accepts .opening = none := by
  rcases h with ⟨rfl, rfl⟩ | ⟨g, l, rfl, rfl⟩ <;> exact ⟨rfl, rfl⟩

end

/-- Settles O22: the rule accepts or discards the report, and the queue gives it its place. -/
theorem switchReportsAreAdmitted : Obligations.SwitchReportsAreAdmitted := by
  intro s sw close b hb
  refine ⟨exec_switchReport_framingError, fun hr => exec_switchReport_discarded hb (by rw [hr]; rfl), ?scoring, ?device⟩
  case scoring =>
    refine fun e g l hr => ⟨fun he => exec_switchReport_discarded hb (by rw [hr]; exact if_neg he), fun he => ?_⟩
    have hacc : (s.evl.rules[sw]).accepts (edgeOf close) = some .scoring := by rw [hr]; exact if_pos he
    rw [exec_switchReport_arrives hb hacc]
    refine ⟨fun init k hq hk => ?_, fun hfull => ?_⟩
    · have hp := place_scoring_coalesced (sw := sw) (init := init) hk
      rw [← hq] at hp
      rw [State.arrive_coalesced hp]
    · have hc := coalesces_eq_false hfull
      refine ⟨fun hl => ?_, fun hl ho => ?_, fun hl ho => ?_⟩
      · rw [State.arrive_appended (place_scoring_appended hc hl)]
      · rw [State.arrive_dropped (place_scoring_dropped hc hl)]
        simp [State.dropReport, ho]
      · rw [State.arrive_dropped (place_scoring_dropped hc hl)]
        simp [State.dropReport, ho, State.setOverrun, State.raise]
  case device =>
    intro d cls hr
    obtain ⟨hopens, hcloses⟩ := Rule.accepts_device hr
    obtain ⟨-, hd⟩ := Rule.injectedClass_device hr
    refine ⟨?_, ?_, ?_⟩
    · rintro rfl
      exact exec_switchReport_discarded hb hcloses
    · rintro rfl hl
      rw [exec_switchReport_arrives hb hopens, State.arrive_appended (place_device_appended hd hl)]
    · rintro rfl hl
      rw [exec_switchReport_arrives hb hopens, State.arrive_dropped (place_device_dropped hd hl)]
      simp [State.dropReport, hd, State.setOverrun, State.raise, State.trackingFault]

end Sys2Proof.Machine
end

section
/-! PROOFS. Credits, awards and counters (01, 03, 04): thresholds, decay, the records of an award list, advances. -/

namespace Sys2Proof.Machine

/-! ### The decay of a HURRY value (R68) -/

/-- Settles O32: the lowered value, cut to whole units, is the value held at the floor. -/
theorem decayStepsTowardTheFloor : Obligations.DecayStepsTowardTheFloor := by
  intro v floor d q hv
  have hunit : 0 < 10 ^ q := Nat.pow_pos (by decide)
  have hdrop : 10 ^ q ≤ max (v * d / 256) (10 ^ q) := Nat.le_max_right _ _
  have hstep : decayStep v floor d q = max floor ((v - max (v * d / 256) (10 ^ q)) / 10 ^ q * 10 ^ q) := rfl
  have hcut : (v - max (v * d / 256) (10 ^ q)) / 10 ^ q * 10 ^ q ≤ v - max (v * d / 256) (10 ^ q) := Nat.div_mul_le_self _ _
  refine ⟨?_, ?_, ?_, ?_⟩
  · rintro drop rfl
    rw [hstep, Nat.div_mul_self_eq_mod_sub_self]
  · rw [hstep]
    exact Nat.le_max_left _ _
  · rw [hstep]
    omega
  · rw [hstep]
    rcases Nat.le_total ((v - max (v * d / 256) (10 ^ q)) / 10 ^ q * 10 ^ q) floor with hle | hge
    · exact .inl (Nat.max_eq_left hle)
    · rw [Nat.max_eq_right hge]
      by_cases hz : (v - max (v * d / 256) (10 ^ q)) / 10 ^ q * 10 ^ q = floor
      · exact .inl hz
      · exact .inr ⟨Nat.dvd_mul_left _ _, by omega⟩

/-! ### The advance of a counter (R11, R12) -/

/-- Passes without a staged target divide what stands by the target. -/
theorem repeatPasses_none {target : Nat} (ht : 0 < target) : ∀ (fuel n done : Nat), n < fuel →
    repeatPasses fuel n target none done = ⟨n % target, target, none, done + n / target⟩ := by
  intro fuel
  induction fuel with
  | zero => intro n done h; cases h
  | succ fuel ih =>
    intro n done h
    unfold repeatPasses
    by_cases hn : n < target
    · rw [if_pos hn, Nat.mod_eq_of_lt hn, Nat.div_eq_of_lt hn, Nat.add_zero]
    · have hn := Nat.le_of_not_lt hn
      rw [if_neg (Nat.not_lt.mpr hn)]
      simp only
      rw [ih _ _ (by omega), Nat.mod_eq_sub_mod hn, Nat.div_eq_sub_div ht hn, Nat.add_assoc, Nat.add_comm 1]

theorem repeatPasses_below {fuel n target done : Nat} {staged : Option Nat} (h : n < target) :
    repeatPasses (fuel + 1) n target staged done = ⟨n, target, staged, done⟩ := by
  unfold repeatPasses
  rw [if_pos h]

/-- The first completion takes a staged target, which governs the rest. -/
theorem repeatPasses_staged {fuel n target u : Nat} (h : target ≤ n) (ht : 0 < target) (hu : 0 < u) (hf : n ≤ fuel) :
    repeatPasses (fuel + 1) n target (some u) 0 = ⟨(n - target) % u, u, none, 1 + (n - target) / u⟩ := by
  obtain ⟨m, rfl⟩ := Nat.exists_eq_add_of_le' hu
  unfold repeatPasses
  rw [if_neg (Nat.not_lt.mpr h)]
  exact repeatPasses_none hu _ _ _ (by omega)

theorem repeatPasses_stops {fuel n target : Nat} (h : target ≤ n) :
    repeatPasses (fuel + 1) n target (some 0) 0 = ⟨0, 0, none, 1⟩ := by
  unfold repeatPasses
  rw [if_neg (Nat.not_lt.mpr h)]
  rfl

theorem CounterDef.advance_repeats {d : CounterDef} (h : d.afterReach = .repeats) (v k : Nat) :
    d.advance v k = repeatPasses (v + k + 1) (v + k) d.target d.staged 0 := by
  simp only [CounterDef.advance, h, advanceRepeat]

theorem CounterDef.advance_hold {d : CounterDef} (h : d.afterReach = .hold) (v k : Nat) :
    d.advance v k = advanceHold v d.target d.staged k := by
  simp only [CounterDef.advance, h]

/-- Settles O30: a REPEAT advance is the division by its passes, a HOLD advance its three cases. -/
theorem counterAdvancesFindTheirCompletions : Obligations.CounterAdvancesFindTheirCompletions := by
  refine ⟨fun d v k hr ht => ?repeats, fun d v k hr ht => ?hold⟩
  case repeats =>
    rw [CounterDef.advance_repeats hr]
    refine ⟨fun hs => ?_, fun h => repeatPasses_below h, fun h hs => ?_, fun u h hs hu => ?_⟩
    · rw [hs, repeatPasses_none ht _ _ _ (by omega), Nat.zero_add]
    · rw [hs, repeatPasses_stops h]
    · rw [hs, repeatPasses_staged h ht hu (Nat.le_refl _)]
  case hold =>
    rw [CounterDef.advance_hold hr]
    unfold advanceHold
    refine ⟨fun h => ?_, fun h1 h2 hs => ?_, fun u h1 h2 hs => ?_, fun h => ?_⟩
    · rw [if_neg (by omega), if_pos h]
    · rw [if_neg (by omega), if_neg (by omega), hs]
    · rw [if_neg (by omega), if_neg (by omega), hs]
    · rw [if_pos h]

/-! ### The thresholds a credit crosses (R60) -/

section
variable {s : State} {n : Nat} {r : Player}

/-- Whether the credit that moves a record's score from old to new crosses threshold i. -/
def crossesAt (ths : List Threshold) (r : Player) (old new : Nat) (i : Fin 8) : Bool :=
  (ths[i.val]?).any (r.crosses old new i)

/-- What the threshold check over a list of indices makes of player n + 1 and of the notices. -/
structure Crossed (s t : State) (n old new : Nat) (l : List (Fin 8)) (r r' : Player) : Prop where
  record : t.ptb.players[n]? = some r'
  fields : r' = { r with crossed := r'.crossed, extraBalls := r'.extraBalls }
  others : ∀ m, m ≠ n → t.ptb.players[m]? = s.ptb.players[m]?
  crossed : ∀ i : Fin 8, r'.crossed.getLsbD i.val =
    (r.crossed.getLsbD i.val || (decide (i ∈ l) && crossesAt s.scu.thresholds r old new i))
  notices : ∀ i : Fin 8, t.hasNotice (.threshold i) =
    (s.hasNotice (.threshold i) || (decide (i ∈ l) && crossesAt s.scu.thresholds r old new i))
  limit : t.hasNotice .scoreLimit = s.hasNotice .scoreLimit
  balls : r.extraBalls ≤ 9 → r'.extraBalls = min 9 (r.extraBalls + (l.filter fun i =>
    crossesAt s.scu.thresholds r old new i && ((s.scu.thresholds[i.val]?).map Threshold.extraBall).getD false).length)

theorem State.withPlayer_others (r' : Player) {m : Nat} (h : m ≠ n) :
    (s.withPlayer n r').ptb.players[m]? = s.ptb.players[m]? :=
  List.getElem?_set_ne h.symm

theorem State.withPlayer_same (r' : Player) (hr : s.ptb.players[n]? = some r) :
    (s.withPlayer n r').ptb.players[n]? = some r' := by
  obtain ⟨hn, -⟩ := List.getElem?_eq_some_iff.mp hr
  simp [State.withPlayer, hn]

/-- One more extra ball, below the nine of R54. -/
def Player.oneMoreBall (r : Player) : Player := if r.extraBalls < 9 then { r with extraBalls := r.extraBalls + 1 } else r

theorem State.giveExtraBall_record (hr : s.ptb.players[n]? = some r) :
    (s.giveExtraBall (n + 1)).ptb.players[n]? = some r.oneMoreBall ∧
    (∀ m, m ≠ n → (s.giveExtraBall (n + 1)).ptb.players[m]? = s.ptb.players[m]?) ∧
    ∀ x, x ≠ .extraBall → (s.giveExtraBall (n + 1)).hasNotice x = s.hasNotice x := by
  unfold Player.oneMoreBall
  by_cases h : r.extraBalls < 9
  · rw [State.giveExtraBall_below hr h, if_pos h]
    refine ⟨State.withPlayer_same _ hr, fun m hm => State.withPlayer_others _ hm, fun x hx => ?_⟩
    rw [State.hasNotice_raise, decide_eq_false hx, Bool.or_false]
    rfl
  · rw [State.giveExtraBall_full hr (Nat.le_of_not_lt h), if_neg h]
    exact ⟨hr, fun _ _ => rfl, fun _ _ => rfl⟩

/-- The record of a player whose score has crossed threshold i. -/
def Player.cross (r : Player) (i : Fin 8) (th : Threshold) : Player :=
  if th.extraBall then Player.oneMoreBall { r with crossed := r.crossed ||| BitVec.twoPow 8 i }
  else { r with crossed := r.crossed ||| BitVec.twoPow 8 i }

theorem Player.cross_crossed (r : Player) (i : Fin 8) (th : Threshold) :
    (r.cross i th).crossed = r.crossed ||| BitVec.twoPow 8 i := by
  unfold Player.cross Player.oneMoreBall
  split
  · split <;> rfl
  · rfl

theorem Player.cross_fields (r : Player) (i : Fin 8) (th : Threshold) :
    r.cross i th = { r with crossed := (r.cross i th).crossed, extraBalls := (r.cross i th).extraBalls } := by
  unfold Player.cross Player.oneMoreBall
  split
  · split <;> rfl
  · rfl

theorem Player.cross_balls {r : Player} (i : Fin 8) (th : Threshold) (h : r.extraBalls ≤ 9) :
    (r.cross i th).extraBalls = min 9 (r.extraBalls + if th.extraBall then 1 else 0) := by
  unfold Player.cross Player.oneMoreBall
  split
  · split <;> simp only at * <;> omega
  · simp only; omega

theorem State.crossThreshold_record (i : Fin 8) (th : Threshold) (hr : s.ptb.players[n]? = some r) :
    (s.crossThreshold (n + 1) i th).ptb.players[n]? = some (r.cross i th) ∧
    (∀ m, m ≠ n → (s.crossThreshold (n + 1) i th).ptb.players[m]? = s.ptb.players[m]?) ∧
    ∀ x, x ≠ .extraBall → (s.crossThreshold (n + 1) i th).hasNotice x =
      (s.hasNotice x || decide (x = .threshold i)) := by
  unfold State.crossThreshold Player.cross
  rw [State.modifyPlayer_present _ hr]
  have hset : ((s.withPlayer n { r with crossed := r.crossed ||| BitVec.twoPow 8 i }).raise
      (.threshold i)).ptb.players[n]? = some { r with crossed := r.crossed ||| BitVec.twoPow 8 i } :=
    State.withPlayer_same _ hr
  have hothers (m : Nat) (hm : m ≠ n) := State.withPlayer_others (s := s)
    { r with crossed := r.crossed ||| BitVec.twoPow 8 i } hm
  split
  · obtain ⟨h1, h2, h3⟩ := State.giveExtraBall_record hset
    refine ⟨h1, fun m hm => (h2 m hm).trans (hothers m hm), fun x hx => (h3 x hx).trans ?_⟩
    rw [State.hasNotice_raise]
    rfl
  · exact ⟨hset, hothers, fun x _ => by rw [State.hasNotice_raise]; rfl⟩

theorem twoPow_getLsbD (i j : Fin 8) : (BitVec.twoPow 8 i.val).getLsbD j.val = decide (j = i) := by
  rw [BitVec.getLsbD_twoPow, decide_eq_true i.isLt, Bool.true_and]
  simp [Fin.ext_iff, eq_comm]

theorem crossesAt_iff {ths : List Threshold} {old new : Nat} {i : Fin 8} : crossesAt ths r old new i = true ↔
    ∃ th, ths[i.val]? = some th ∧ r.crosses old new i th = true := by
  simp [crossesAt, Option.any_eq_true]

/-- A crossing looks only at the bit of its own index. -/
theorem crossesAt_congr {ths : List Threshold} {q : Player} {old new : Nat} {i : Fin 8}
    (h : r.crossed.getLsbD i.val = q.crossed.getLsbD i.val) : crossesAt ths r old new i = crossesAt ths q old new i := by
  have hc : r.crosses old new i = q.crosses old new i := funext fun th => by simp only [Player.crosses, h]
  simp only [crossesAt, hc]

theorem State.checkThreshold_of_crosses {old new : Nat} {i : Fin 8} {th : Threshold} (hr : s.ptb.players[n]? = some r)
    (hth : s.scu.thresholds[i.val]? = some th) (hc : r.crosses old new i th = true) :
    s.checkThreshold (n + 1) old new i = s.crossThreshold (n + 1) i th := by
  have hp : s.player? (n + 1) = some r := hr
  simp only [State.checkThreshold, hth, hp, hc, if_true]

theorem State.checkThreshold_of_not_crosses {old new : Nat} {i : Fin 8} (hr : s.ptb.players[n]? = some r)
    (hc : crossesAt s.scu.thresholds r old new i = false) : s.checkThreshold (n + 1) old new i = s := by
  have hp : s.player? (n + 1) = some r := hr
  unfold State.checkThreshold
  rw [hp]
  cases hth : s.scu.thresholds[i.val]? with
  | none => rfl
  | some th =>
    have hc : r.crosses old new i th = false := by simpa [crossesAt, hth] using hc
    simp only [hc, Bool.false_eq_true, if_false]

theorem State.checkThreshold_crossed (old new : Nat) (i : Fin 8) (hr : s.ptb.players[n]? = some r) :
    ∃ r', Crossed s (s.checkThreshold (n + 1) old new i) n old new [i] r r' := by
  cases hc : crossesAt s.scu.thresholds r old new i with
  | true =>
    obtain ⟨th, hth, hcross⟩ := crossesAt_iff.mp hc
    obtain ⟨h1, h2, h3⟩ := State.crossThreshold_record i th hr
    rw [State.checkThreshold_of_crosses hr hth hcross]
    refine ⟨r.cross i th, h1, r.cross_fields i th, h2, fun j => ?_, fun j => ?_, ?_, fun hb => ?_⟩
    · rw [r.cross_crossed, BitVec.getLsbD_or, twoPow_getLsbD]
      by_cases hj : j = i
      · subst hj; simp [hc]
      · simp [hj]
    · rw [h3 (.threshold j) nofun]
      by_cases hj : j = i
      · subst hj; simp [hc]
      · simp [hj]
    · rw [h3 .scoreLimit nofun]
      simp
    · rw [r.cross_balls i th hb]
      cases hx : th.extraBall <;> simp [hc, hth, hx]
  | false =>
    rw [State.checkThreshold_of_not_crosses hr hc]
    refine ⟨r, hr, rfl, fun _ _ => rfl, fun j => ?_, fun j => ?_, rfl, fun hb => ?_⟩
    · by_cases hj : j = i
      · subst hj; simp [hc]
      · simp [hj]
    · by_cases hj : j = i
      · subst hj; simp [hc]
      · simp [hj]
    · simp [hc, hb]

/-- Checks one after another, of indices that differ. -/
theorem Crossed.trans {t u : State} {old new : Nat} {i : Fin 8} {l : List (Fin 8)} {r' r'' : Player}
    (h : Crossed s t n old new [i] r r') (h' : Crossed t u n old new l r' r'') (hi : i ∉ l) (hs : t.scu = s.scu) :
    Crossed s u n old new (i :: l) r r'' := by
  have same (j : Fin 8) (hj : j ∈ l) : crossesAt t.scu.thresholds r' old new j = crossesAt s.scu.thresholds r old new j := by
    have hne : j ≠ i := fun e => hi (e ▸ hj)
    rw [hs]
    refine crossesAt_congr ((h.crossed j).trans ?_)
    simp [hne]
  have joined (j : Fin 8) (b : Bool) : ((b || (decide (j ∈ [i]) && crossesAt s.scu.thresholds r old new j)) ||
      (decide (j ∈ l) && crossesAt t.scu.thresholds r' old new j)) =
      (b || (decide (j ∈ i :: l) && crossesAt s.scu.thresholds r old new j)) := by
    by_cases hj : j ∈ l
    · rw [same j hj]
      cases b <;> simp [hj]
    · cases b <;> simp [hj]
  refine ⟨h'.record, ?_, fun m hm => (h'.others m hm).trans (h.others m hm), fun j => ?_, fun j => ?_,
    h'.limit.trans h.limit, fun hb => ?_⟩
  · rw [h'.fields, h.fields]
  · rw [h'.crossed j, h.crossed j, joined]
  · rw [h'.notices j, h.notices j, joined]
  · have hb' := h.balls hb
    rw [h'.balls (by omega), hb', hs]
    have htail : (l.filter fun j => crossesAt s.scu.thresholds r' old new j &&
        ((s.scu.thresholds[j.val]?).map Threshold.extraBall).getD false) =
        l.filter fun j => crossesAt s.scu.thresholds r old new j &&
          ((s.scu.thresholds[j.val]?).map Threshold.extraBall).getD false :=
      List.filter_congr fun j hj => by rw [← same j hj, hs]
    rw [htail, List.filter_cons, List.filter_cons, List.filter_nil]
    split <;> simp only [List.length_cons, List.length_nil] <;> omega

theorem State.checkAll_crossed (old new : Nat) (l : List (Fin 8)) : ∀ (s : State) (r : Player), l.Nodup →
    s.ptb.players[n]? = some r →
    ∃ r', Crossed s (l.foldl (fun s i => s.checkThreshold (n + 1) old new i) s) n old new l r r' := by
  induction l with
  | nil =>
    intro s r _ hr
    exact ⟨r, hr, rfl, fun _ _ => rfl, fun _ => by simp, fun _ => by simp, rfl, fun h => by simp [h]⟩
  | cons i l ih =>
    intro s r hl hr
    obtain ⟨hi, hl⟩ := List.nodup_cons.mp hl
    obtain ⟨r', h⟩ := State.checkThreshold_crossed old new i hr
    obtain ⟨r'', h'⟩ := ih _ r' hl h.record
    exact ⟨r'', h.trans h' hi (by simp)⟩

theorem State.thresholdCheck_crossed (old new : Nat) (hr : s.ptb.players[n]? = some r) :
    ∃ r', Crossed s (s.thresholdCheck (n + 1) old new) n old new (List.finRange 8) r r' :=
  State.checkAll_crossed old new _ s r (List.nodup_finRange 8) hr

/-! ### The credit (R57 to R59) -/

/-- The record of a player whose score was credited, before the threshold check. -/
def Player.credited (r : Player) (points : Nat) : Player :=
  { r with
    score := min (r.score + points) scoreMax
    scoreLimitReported := r.scoreLimitReported || decide (scoreMax < r.score + points) }

/-- The score written and the limit checked: SCORE_LIMIT is raised when points were lost and the flag was no. -/
theorem State.scored_limitCheck (points : Nat) (hr : s.ptb.players[n]? = some r) :
    (s.modifyPlayer (n + 1) fun r' => { r' with score := min (r.score + points) scoreMax }).limitCheck (n + 1) r points =
      if scoreMax < r.score + points ∧ r.scoreLimitReported = false
      then (s.withPlayer n (r.credited points)).raise .scoreLimit else s.withPlayer n (r.credited points) := by
  unfold State.limitCheck
  split
  · next h =>
    rw [State.modifyPlayer_modifyPlayer, State.modifyPlayer_present _ hr]
    simp [Player.credited, h.1]
  · next h =>
    rw [State.modifyPlayer_present _ hr]
    have hflag : (r.scoreLimitReported || decide (scoreMax < r.score + points)) = r.scoreLimitReported := by
      cases hf : r.scoreLimitReported
      · simpa [hf] using h
      · rfl
    simp only [Player.credited, hflag]

theorem State.addTotal_slots (y : Fin 12) (points : Nat) (x : Fin 12) :
    (s.addTotal y points).mst.slots[x] = if y = x then
      (s.mst.slots[x]).map fun c => { c with total := min (c.total + points) scoreMax } else s.mst.slots[x] := by
  unfold State.addTotal
  split
  · next c hc =>
    split
    · next hyx =>
      subst hyx
      rw [hc]
      exact Vector.getElem_set_self y.isLt
    · next hyx => exact Vector.getElem_set_ne y.isLt x.isLt fun e => hyx (Fin.ext e)
  · next hc =>
    split
    · next hyx => rw [← hyx, hc, Option.map_none]
    · rfl

theorem State.addPayer_slots (payer : Option (Fin 12)) (points : Nat) (x : Fin 12) :
    (s.addPayer payer points).mst.slots[x] = if payer = some x then
      (s.mst.slots[x]).map fun c => { c with total := min (c.total + points) scoreMax } else s.mst.slots[x] := by
  cases payer with
  | none => rfl
  | some y => simp only [State.addPayer, State.addTotal_slots, Option.some.injEq]

/-- A credit is the threshold check of a state in which the score, the flag and the payer's total are written. -/
theorem State.credit_staged (points : Nat) (payer : Option (Fin 12)) (hr : s.ptb.players[n]? = some r) : ∃ t : State,
    s.credit (n + 1) points payer = t.thresholdCheck (n + 1) r.score (min (r.score + points) scoreMax) ∧
    t.ptb.players[n]? = some (r.credited points) ∧ (∀ m, m ≠ n → t.ptb.players[m]? = s.ptb.players[m]?) ∧
    t.scu = s.scu ∧ (∀ x : Fin 12, t.mst.slots[x] = (s.addPayer payer points).mst.slots[x]) ∧
    ∀ x, t.hasNotice x = (s.hasNotice x ||
      decide (x = .scoreLimit ∧ scoreMax < r.score + points ∧ r.scoreLimitReported = false)) := by
  have hp : s.player? (n + 1) = some r := hr
  have hlimit := State.scored_limitCheck points hr
  refine ⟨((s.modifyPlayer (n + 1) fun r' => { r' with score := min (r.score + points) scoreMax }).limitCheck (n + 1) r
    points).addPayer payer points, ?_, ?_, fun m hm => ?_, ?_, fun x => ?_, fun x => ?_⟩
  · simp only [State.credit, hp]
  · rw [State.addPayer_frame _ _ _ |>.2.2.1, hlimit]
    split <;> exact State.withPlayer_same _ hr
  · rw [State.addPayer_frame _ _ _ |>.2.2.1, hlimit]
    split <;> exact State.withPlayer_others _ hm
  · simp
  · simp only [State.addPayer_slots, State.limitCheck_frame, State.modifyPlayer_mst]
  · have hnotice (u : State) : (u.addPayer payer points).hasNotice x = u.hasNotice x := by simp [State.hasNotice]
    rw [hnotice, hlimit]
    split
    · next h =>
      rw [State.hasNotice_raise]
      simp only [h, and_true]
      rfl
    · next h =>
      rw [decide_eq_false fun hc => h hc.2, Bool.or_false]
      rfl

/-- What a credit makes of the player, of the notices, of the slots and of the others. -/
theorem State.credit_record (points : Nat) (payer : Option (Fin 12)) (hr : s.ptb.players[n]? = some r) : ∃ (t : State) (r' : Player),
    Crossed t (s.credit (n + 1) points payer) n r.score (min (r.score + points) scoreMax) (List.finRange 8)
      (r.credited points) r' ∧ (∀ m, m ≠ n → t.ptb.players[m]? = s.ptb.players[m]?) ∧ t.scu = s.scu ∧
    (∀ x : Fin 12, (s.credit (n + 1) points payer).mst.slots[x] = (s.addPayer payer points).mst.slots[x]) ∧
    ∀ x, t.hasNotice x = (s.hasNotice x ||
      decide (x = .scoreLimit ∧ scoreMax < r.score + points ∧ r.scoreLimitReported = false)) := by
  obtain ⟨t, hcredit, hrec, hothers, hscu, hslots, hnotices⟩ := State.credit_staged points payer hr
  obtain ⟨r', hcrossed⟩ := State.thresholdCheck_crossed r.score (min (r.score + points) scoreMax) hrec
  rw [hcredit]
  exact ⟨t, r', hcrossed, hothers, hscu, fun x => by simpa using hslots x, hnotices⟩

end

/-- Settles O27: the credited record goes through the threshold check, which touches the set and the extra balls. -/
theorem creditsSaturateAndCrossThresholds : Obligations.CreditsSaturateAndCrossThresholds := by
  refine ⟨fun s n points payer r hr => ?_, fun s n points payer r hr _ hballs => ?_⟩ <;>
    obtain ⟨t, r', hc, hothers, hscu, hslots, hnotices⟩ := State.credit_record points payer hr
  · have hlimit := hc.limit.trans (hnotices .scoreLimit)
    refine ⟨r', hc.record, by rw [hc.fields]; rfl, by rw [hc.fields]; rfl, fun hlost hflag => ?_, fun hkept => ?_,
      fun m hm => (hc.others m hm).trans (hothers m hm), fun x => ?_⟩
    · rw [hlimit]
      simp [scoreMax, hlost, hflag]
    · have hno : ¬ (scoreMax < r.score + points ∧ r.scoreLimitReported = false) := fun h => by
        rcases hkept with hle | hflag
        · exact absurd h.1 (Nat.not_lt.mpr hle)
        · rw [hflag] at h
          cases h.2
      rw [hlimit, decide_eq_false fun h => hno h.2, Bool.or_false]
    · rw [hslots, State.addPayer_slots]
      rfl
  · have hscore : r'.score = min (r.score + points) scoreMax := by rw [hc.fields]; rfl
    refine ⟨r', crossesAt s.scu.thresholds r r.score (min (r.score + points) scoreMax), hc.record, fun i => ?_,
      fun i => ?_, fun i => ?_, ?_⟩
    · rw [crossesAt_iff, hscore]
      simp only [Player.crosses, Bool.and_eq_true, Bool.not_eq_true', decide_eq_true_eq]
      exact ⟨fun ⟨th, hth, ⟨hb, ho⟩, hn⟩ => ⟨hb, th, hth, ho, hn⟩, fun ⟨hb, th, hth, ho, hn⟩ => ⟨th, hth, ⟨hb, ho⟩, hn⟩⟩
    · rw [hc.crossed i, hscu, decide_eq_true (List.mem_finRange i), Bool.true_and]
      rfl
    · have hkept : t.hasNotice (.threshold i) = s.hasNotice (.threshold i) := by simp [hnotices]
      rw [hc.notices i, hscu, hkept, decide_eq_true (List.mem_finRange i), Bool.true_and]
      rfl
    · rw [hc.balls hballs, hscu]
      rfl

/-! ### Starts made by records (R86, R98) -/

section
variable {s t : State} {i : Fin 32} {o : StartOutcome}

@[simp] theorem State.hasNotice_raise_self (s : State) (x : Source) : (s.raise x).hasNotice x = true := by
  simp [State.hasNotice_raise]

theorem State.resumeByStart_started {slot x : Fin 12} {c : Context} {tm : Template}
    (h : s.resumeByStart slot c tm = (t, .started x)) : t.hasNotice .modeStarted = true := by
  unfold State.resumeByStart at h
  split at h
  · cases h
  · dsimp only at h
    split at h
    · cases h; exact State.hasNotice_raise_self _ _
    · split at h <;> cases h <;> exact State.hasNotice_raise_self _ _

theorem State.startStanding_started {slot x : Fin 12} {c : Context} {tm : Template}
    (h : s.startStanding slot c tm = (t, .started x)) : t.hasNotice .modeStarted = true := by
  unfold State.startStanding at h
  split at h
  · exact State.resumeByStart_started h
  · split at h <;> cases h

theorem State.startNew_started {x : Fin 12} {tm : Template} (h : s.startNew i tm = (t, .started x)) :
    t.hasNotice .modeStarted = true := by
  unfold State.startNew at h
  split at h
  · cases h
  · split at h
    · cases h
    · split at h
      · cases h; exact State.hasNotice_raise_self _ _
      · split at h
        · cases h
        · cases h; exact State.hasNotice_raise_self _ _

/-- A start that starts a context raises MODE_STARTED (R86). -/
theorem State.startMode_started {x : Fin 12} (h : s.startMode i = (t, .started x)) : t.hasNotice .modeStarted = true := by
  unfold State.startMode at h
  split at h
  · cases h
  · split at h
    · cases h
    · split at h
      · cases h
      · split at h
        · cases h
        · split at h
          · split at h
            · exact State.startStanding_started h
            · cases h
          · exact State.startNew_started h

theorem State.autoStart_failed {why : Status} (h : s.startMode i = (t, .failed why)) :
    s.autoStart i = t.raise .modeStartFailed := by
  simp only [State.autoStart, h]

/-- A start that did not fail is its own effect. -/
theorem State.autoStart_done (h : s.startMode i = (t, o)) (ho : ∀ why, o ≠ .failed why) : s.autoStart i = t := by
  unfold State.autoStart
  split
  · next why he => exact absurd ((congrArg Prod.snd h).symm.trans (congrArg Prod.snd he)) (ho why)
  · next he => exact (congrArg Prod.fst he).symm.trans (congrArg Prod.fst h)

theorem startModeRequest_failed {why : Status} (h : s.startMode i = (t, .failed why)) :
    startModeRequest [small i.val] s = (t, .bare why) := by
  have hi : index? 32 (byteAt [small i.val] 0) = some i := index?_singleton (small_toNat (by omega)).symm
  simp only [startModeRequest, hi, h]

theorem startModeRequest_done {x : Fin 12} (h : s.startMode i = (t, o)) (ho : o = .started x ∨ o = .stood x) :
    startModeRequest [small i.val] s = (t, .ok [small x.val]) := by
  have hi : index? 32 (byteAt [small i.val] 0) = some i := index?_singleton (small_toNat (by omega)).symm
  rcases ho with rfl | rfl <;> simp only [startModeRequest, hi, h]

/-! ### The records of an award list (R49, R51 to R53) -/

variable {n k : Nat} {pf : Bool} {r : Player}

theorem State.pfFactor_present (hc : s.gpc.current = some (n + 1)) (hr : s.ptb.players[n]? = some r) :
    s.pfFactor pf = if pf then r.pfMult else 1 := by
  simp [State.pfFactor, State.currentPlayer_eq hc, State.player?, hr]

/-- A SCORE record is one credit of worth × count × the playfield factor (R49, R56). -/
theorem State.performAward_score (v : PointValue) (hc : s.gpc.current = some (n + 1))
    (hr : s.ptb.players[n]? = some r) : s.performAward k (.score v pf) =
      s.credit (n + 1) (min (v.mantissa * 10 ^ v.scale * k * (if pf then r.pfMult else 1)) 999999999999) none := by
  simp only [State.performAward, State.currentPlayer_eq hc, awardPoints, State.pfFactor_present hc hr, Nat.mul_one,
    PointValue.worth, scoreMax]

theorem State.performAward_jackpot (hc : s.gpc.current = some (n + 1)) (hr : s.ptb.players[n]? = some r)
    (hm : s.lmc.multiball = true) : s.performAward k (.jackpot pf) =
      { State.raise .jackpot
        (s.credit (n + 1) (min (s.lmc.jackpot * (if pf then r.pfMult else 1)) 999999999999) none) with
        lmc := { s.lmc with
          jackpot := min (s.lmc.jackpot + s.lmc.params.jackpotStep.worth) s.lmc.params.jackpotMax.worth } } := by
  have hlmc (p points : Nat) : (s.credit p points none).lmc = s.lmc := by simp
  simp only [State.performAward, State.collectJackpot, if_pos hm, State.currentPlayer_eq hc, awardPoints,
    State.pfFactor_present hc hr, Nat.mul_one, scoreMax, State.raise_lmc, hlmc]

theorem State.performAward_jackpot_off (hm : s.lmc.multiball = false) : s.performAward k (.jackpot pf) = s := by
  simp [State.performAward, State.collectJackpot, hm]

/-- A lock is lit, or not, by a record as by the request (R53, R128). -/
theorem State.lightLock_allowed (hc : s.gpc.current = some (n + 1)) (hr : s.ptb.players[n]? = some r)
    (hm : s.lmc.multiball = false) (h1 : r.locksLit < s.lmc.params.litMax)
    (h2 : r.locksLit + r.locksMade < s.lmc.params.mbLocks) :
    s.lightLock = (s.withPlayer n { r with locksLit := r.locksLit + 1 }).raise .lockLit :=
  State.lightLock_lit hc hr ((State.canLight_iff hc hr).mpr ⟨hm, h1, h2⟩)

theorem State.lightLock_refused (hc : s.gpc.current = some (n + 1)) (hr : s.ptb.players[n]? = some r)
    (h : s.lmc.multiball = true ∨ s.lmc.params.litMax ≤ r.locksLit ∨ s.lmc.params.mbLocks ≤ r.locksLit + r.locksMade) :
    s.lightLock = s :=
  State.lightLock_ignored ((State.canLight_eq_false_iff hc hr).mpr h)

end

/-- Settles O29: each record is the operation it names, on the current player. -/
theorem scoreJackpotAndLockRecords : Obligations.ScoreJackpotAndLockRecords := by
  intro s n k pf r hc hr
  refine ⟨fun v => State.performAward_score v hc hr, State.performAward_jackpot_off, fun hm => ?jackpot,
    State.lightLock_allowed hc hr, State.lightLock_refused hc hr, fun i t o h hw => ?start⟩
  case jackpot => exact ⟨_, rfl, _, rfl, State.performAward_jackpot hc hr hm⟩
  case start =>
    refine ⟨?_, fun x ho => ⟨State.autoStart_done h ?_, ?_, takeRequest_answers hw (startModeRequest_done h ho)⟩⟩
    · rintro why rfl
      exact ⟨State.autoStart_failed h, takeRequest_answers hw (startModeRequest_failed h)⟩
    · rcases ho with rfl | rfl <;> nofun
    · rintro rfl
      exact State.startMode_started h

/-! ### ADVANCE records (R9, R11, R13, R14, R51) -/

section
variable {s : State} {n k : Nat} {r : Player}

/-- The tables an advance of a player's counter leaves, written out. -/
theorem State.storeAdvance_player_present {i : Fin 16} {d : CounterDef} {v : Nat} (hc : s.gpc.current = some (n + 1))
    (hr : s.ptb.players[n]? = some r) : s.storeAdvance (.player i) d v = { s with ptb := { s.ptb with
      playerDefs := s.ptb.playerDefs.set i.val d i.isLt
      players := if d.target = 0 then s.ptb.players.map fun q => { q with counters := q.counters.set i.val 0 i.isLt }
        else s.ptb.players.set n { r with counters := r.counters.set i.val v i.isLt } } } := by
  simp only [State.storeAdvance, State.setCounterValue, State.currentPlayer_eq hc, State.modifyPlayer_present _ hr]
  split
  · have hmap : ((s.ptb.players.set n { r with counters := r.counters.set i.val v i.isLt }).map fun q : Player =>
        { q with counters := q.counters.set i.val 0 i.isLt }) =
        s.ptb.players.map fun q => { q with counters := q.counters.set i.val 0 i.isLt } := by
      refine List.ext_getElem? fun j => ?_
      by_cases hj : n = j
      · subst hj
        obtain ⟨hlt, hget⟩ := List.getElem?_eq_some_iff.mp hr
        simp [hlt, hget]
      · simp [hj]
    simp only [State.disableCounter, State.setCounterDef, State.withPlayer, hmap]
  · rfl

theorem State.storeAdvance_common {i : Fin 32} {d : CounterDef} {v : Nat} :
    s.storeAdvance (.common i) d v = { s with ptb := { s.ptb with
      commonDefs := s.ptb.commonDefs.set i.val d i.isLt
      commonValues := s.ptb.commonValues.set i.val (if d.target = 0 then 0 else v) i.isLt } } := by
  simp only [State.storeAdvance, State.setCounterValue]
  split
  · simp only [State.disableCounter, State.setCounterDef, Vector.set_set]
  · rfl

theorem State.performAward_advance_disabled {c : CounterRef} (h : (s.counterDef c).target = 0) :
    s.performAward k (.advance c) = s :=
  (s.advanceCounter_eq c k).trans (if_pos h)

theorem State.performAward_advance_enabled {c : CounterRef} {a : Advanced} (h : (s.counterDef c).target ≠ 0)
    (ha : a = (s.counterDef c).advance (s.counterValue c s.currentPlayer) k) : s.performAward k (.advance c) =
      (s.storeAdvance c ((s.counterDef c).advanced a) a.value).counterActions (s.counterDef c).action a.completions := by
  subst ha
  exact (s.advanceCounter_eq c k).trans (if_neg h)

end

/-- Settles O31: the advance is stored, then each completion performs the action. -/
theorem advanceRecordsMoveTheCounter : Obligations.AdvanceRecordsMoveTheCounter := by
  intro s n k r hc hr
  have hp : s.currentPlayer = n + 1 := State.currentPlayer_eq hc
  refine ⟨fun a m => ⟨rfl, rfl⟩, rfl, fun c => rfl, State.lightLock_allowed hc hr, State.lightLock_refused hc hr,
    fun i t o h => ?start, fun h => ?ball, fun h => ?full, ?bonusMult,
    fun i a => ⟨State.performAward_advance_disabled (c := .player i), fun h0 ha => ?player⟩,
    fun i a => ⟨State.performAward_advance_disabled (c := .common i), fun h0 ha => ?common⟩⟩
  case start =>
    cases o with
    | failed why => exact State.autoStart_failed h
    | started x => exact State.autoStart_done h nofun
    | stood x => exact State.autoStart_done h nofun
  case ball => simp only [State.counterAction, hp, State.giveExtraBall_below hr h]
  case full => simp only [State.counterAction, hp, State.giveExtraBall_full hr h]
  case bonusMult => simp only [State.counterAction, hp, State.raiseBonusMult_present _ hr]
  case player =>
    have hv : s.counterValue (.player i) s.currentPlayer = r.counters[i] := by
      simp [hp, State.counterValue, State.player?, hr]
    rw [State.performAward_advance_enabled (c := .player i) (a := a) h0 (by rw [hv]; exact ha),
      State.storeAdvance_player_present hc hr]
    rfl
  case common =>
    rw [State.performAward_advance_enabled (c := .common i) h0 ha, State.storeAdvance_common]
    rfl

end Sys2Proof.Machine
end

section
/-! PROOFS. The course of a game (09): line events, START_GAME, ADD_PLAYER. -/

namespace Sys2Proof.Machine

/-! ### Releasing timers (R162, R177) -/

section
variable {s : State} {v : Fin 16} {b : Binding}

theorem State.releaseBinding_bound {r : Timer} (h : s.tmu.timers[v] = some r) (hb : r.binding = b) :
    (s.releaseBinding b).tmu.timers[v] = none := by
  rw [State.releaseBinding, mapTable_getElem, h]
  simp [hb]

theorem State.releaseBinding_other (h : ∀ r : Timer, s.tmu.timers[v] = some r → r.binding ≠ b) :
    (s.releaseBinding b).tmu.timers[v] = s.tmu.timers[v] := by
  rw [State.releaseBinding, mapTable_getElem]
  cases hv : s.tmu.timers[v] with
  | none => rfl
  | some r => simp [h r hv]

theorem State.releaseBound_timers (s : State) (v : Fin 16) : s.releaseBound.tmu.timers[v] =
    (s.tmu.timers[v]).bind fun r => if r.binding = .user then some r else none := by
  rw [State.releaseBound, mapTable_getElem]

theorem State.releaseBound_user {r : Timer} (h : s.tmu.timers[v] = some r) (hb : r.binding = .user) :
    s.releaseBound.tmu.timers[v] = some r := by
  rw [State.releaseBound_timers, h, Option.bind_some, if_pos hb]

/-- After the release a timer is FREE or a USER timer as it stood. -/
theorem State.releaseBound_cases (s : State) (v : Fin 16) : s.releaseBound.tmu.timers[v] = none ∨
    (s.releaseBound.tmu.timers[v] = s.tmu.timers[v] ∧ ∃ k, s.tmu.timers[v] = some k ∧ k.binding = .user) := by
  rw [State.releaseBound_timers]
  cases hv : s.tmu.timers[v] with
  | none => exact .inl rfl
  | some r =>
    by_cases hb : r.binding = .user
    · exact .inr ⟨by simp [hb], r, rfl, hb⟩
    · exact .inl (by simp [hb])

end

/-! ### Line events (R164, R165, R177, R178) -/

section
variable {s u : State} {line : GameLine} {high : Bool} {ns : Nat}

theorem lineStateOf_inj {a b c d : Bool} (h : lineStateOf a b = lineStateOf c d) : a = c ∧ b = d := by
  revert h
  cases a <;> cases b <;> cases c <;> cases d <;> decide

/-- The line state tells both pins, so a level that leaves it is the level held. -/
theorem State.setLine_same (h : (s.setLine line high).lineState = s.lineState) : s.setLine line high = s := by
  cases line with
  | playen =>
    obtain rfl : high = s.gpc.playenPin := (lineStateOf_inj h).1
    rfl
  | tilt =>
    obtain rfl : high = s.gpc.tiltPin := (lineStateOf_inj h).2
    rfl

theorem exec_lineEvent_changed (hns : 20000 ≤ ns) (h : (s.setLine line high).lineState ≠ s.lineState) :
    exec (.lineEvent line high ns) s = .next (s.setLine line high).actOnLine := by
  simp only [exec, execLineEvent, if_neg (Nat.not_lt.mpr hns), if_neg h]

theorem exec_lineEvent_same (h : (s.setLine line high).lineState = s.lineState) :
    exec (.lineEvent line high ns) s = .next s := by
  simp only [exec, execLineEvent]
  rw [if_pos h, State.setLine_same h, ite_self]

/-- The line states and games in which a change of the line does nothing more. -/
theorem State.actOnLine_quiet (h : s.lineState = .normal ∨ s.lineState = .held ∨ s.gpc.game = .idle ∨
    s.gpc.game = .gameOver ∨ (s.lineState = .tilted ∧ (s.gpc.game = .ballOver ∨ s.gpc.tilted = true))) :
    s.actOnLine = s := by
  have tilted (ht : s.gpc.tilted = true) : s.tiltBall = s := by rw [State.tiltBall, if_pos ht]
  unfold State.actOnLine
  split <;> simp_all

theorem State.actOnLine_tilted (hl : s.lineState = .tilted) (hg : s.gpc.game = .starting ∨ s.gpc.game = .inPlay) :
    s.actOnLine = s.tiltBall := by
  rcases hg with hg | hg <;> simp only [State.actOnLine, hl, hg]

theorem State.actOnLine_slam (hl : s.lineState = .slam) (h1 : s.gpc.game ≠ .idle) (h2 : s.gpc.game ≠ .gameOver) :
    s.actOnLine = s.endGame.clearClaims := by
  cases hg : s.gpc.game with
  | idle => exact absurd hg h1
  | gameOver => exact absurd hg h2
  | starting => simp only [State.actOnLine, hl, hg]
  | inPlay => simp only [State.actOnLine, hl, hg]
  | ballOver => simp only [State.actOnLine, hl, hg]

theorem State.tiltBall_untilted (h : s.gpc.tilted = false) :
    s.tiltBall = ({ s with gpc := { s.gpc with tilted := true } } : State).releaseBinding .ballSave := by
  rw [State.tiltBall, if_neg (by rw [h]; nofun)]

end

/-- Settles O51: the level is recorded, and the change acts by the line state and the game state. -/
theorem lineEventsAct : Obligations.LineEventsAct := by
  intro s u line high ns
  refine ⟨fun hns => ?short, fun hns hplayen htilt => ?long⟩
  case short => simp only [exec, execLineEvent, if_pos hns]
  case long =>
    obtain rfl : u = s.setLine line high := by
      cases line with
      | playen => exact hplayen rfl
      | tilt => exact htilt rfl
    have hgpc : (s.setLine line high).gpc.game = s.gpc.game ∧ (s.setLine line high).gpc.tilted = s.gpc.tilted ∧
        (s.setLine line high).tmu = s.tmu := by cases line <;> exact ⟨rfl, rfl, rfl⟩
    obtain ⟨hgame, hflag, htmu⟩ := hgpc
    refine ⟨exec_lineEvent_same, fun hne => ?_⟩
    rw [exec_lineEvent_changed hns hne, ← hgame, ← hflag, ← htmu]
    refine ⟨fun h => congrArg _ (State.actOnLine_quiet h), fun hl hg ht => ?_, fun hl h1 h2 => ?_⟩
    · rw [State.actOnLine_tilted hl hg, State.tiltBall_untilted ht]
      exact ⟨_, rfl, rfl, fun v => ⟨fun r hr hb => State.releaseBinding_bound hr hb,
        fun h => State.releaseBinding_other h⟩⟩
    · rw [State.actOnLine_slam hl h1 h2]
      exact ⟨_, rfl, rfl⟩

/-! ### START_GAME, ADD_PLAYER (R167 to R169) -/

section
variable {s : State}

theorem startGame_refused {e : Status} (h : s.startRefusal = some e) : startGame s = (s, .bare e) := by
  simp only [startGame, h]

theorem startGame_accepted (h : s.startRefusal = none) : startGame s = (s.beginGame, .bare .ok) := by
  simp only [startGame, h]

/-- A new ball's flag releases ball save's timer at most. -/
theorem State.clearTilt_timer {v : Fin 16} (h : ∀ r : Timer, s.tmu.timers[v] = some r → r.binding ≠ .ballSave) :
    s.clearTilt.tmu.timers[v] = s.tmu.timers[v] := by
  unfold State.clearTilt
  dsimp only
  split
  · rw [State.tiltBall_untilted rfl]
    exact State.releaseBinding_other (s := { s with gpc := { s.gpc with tilted := true } }) h
  · rfl

/-- The timers of a game begun are those the release leaves: USER timers as they stood (R162). -/
theorem State.gameBegun_timers (s : State) (v : Fin 16) :
    s.gameBegun.tmu.timers[v] = s.releaseBound.tmu.timers[v] := by
  refine State.clearTilt_timer fun r hr => ?_
  rcases s.releaseBound_cases v with hnone | ⟨hsame, k, hk, hb⟩
  · exact nomatch hnone.symm.trans hr
  · obtain rfl := Option.some.inj (hk.symm.trans (hsame.symm.trans hr))
    rw [hb]
    nofun

theorem State.gameBegun_devices (s : State) : s.gameBegun.bdt = s.bdt ∧ s.gameBegun.glk = s.glk ∧
    s.gameBegun.evl = s.evl ∧ s.gameBegun.scu = s.scu ∧
    s.gameBegun.mst = ⟨s.mst.templates, .replicate 12 none, [], [], []⟩ := by
  refine ⟨?_, ?_, ?_, ?_, ?_⟩ <;> simp [State.gameBegun, State.restoreTargets, State.setGame]

/-- The trough asked for one ball: the first ball starts it, a further one joins (R116, R168). -/
theorem State.launch_trough {x : DeviceDef} (hd : (s.device 0).definition = some x) (hf : (s.device 0).faulted = false)
    (hlt : (s.device 0).ejectPending < (s.device 0).occupancy) :
    ((s.device 0).ejectPending = 0 → s.launch = (s.withDevice 0 { s.device 0 with
      ejectPending := 1, retries := 0, ejectTimer := some x.timeout }).raise (.ejectReq 0)) ∧
    ((s.device 0).ejectPending ≠ 0 →
      s.launch = s.withDevice 0 { s.device 0 with ejectPending := (s.device 0).ejectPending + 1 }) := by
  have hadds : (s.device 0).adds 1 = 1 := by rw [Device.adds_ready 1 hd hf]; omega
  have hpos : 0 < (s.device 0).adds 1 := by rw [hadds]; decide
  refine ⟨fun hp => ?_, fun hp => ?_⟩
  · rw [State.launch, State.requestEject_starts hpos hp, hadds, Device.timeout_present hd]
  · rw [State.launch, State.requestEject_joins hpos hp, hadds]

theorem State.withDevice_same (d : Fin 6) (r : Device) : (s.withDevice d r).bdt.devices[d] = r := by
  simp [State.withDevice]

theorem State.withDevice_other {d c : Fin 6} (r : Device) (h : c ≠ d) :
    (s.withDevice d r).bdt.devices[c] = s.bdt.devices[c] :=
  Vector.getElem_set_ne d.isLt c.isLt fun e => h (Fin.ext e.symm)

/-- The records of a game begun; only the trough and its notice are the launch's (R168). -/
theorem State.beginGame_fields (s : State) : s.beginGame.swi = s.swi ∧ s.beginGame.evl = s.evl ∧ s.beginGame.scu = s.scu ∧
    s.beginGame.ptb = ⟨[Player.created], mapTable CounterDef.restore s.ptb.playerDefs,
      mapTable CounterDef.restore s.ptb.commonDefs, .replicate 32 0⟩ ∧
    s.beginGame.mst = ⟨s.mst.templates, .replicate 12 none, [], [], []⟩ ∧
    s.beginGame.lmc = ⟨.replicate 6 [], s.lmc.params, false, 0⟩ ∧
    s.beginGame.gpc = { s.gpc with
      game := .starting, current := some 1, ballNumber := 1, tilted := decide (s.lineState = .tilted) } ∧
    ∀ v : Fin 16, s.beginGame.tmu.timers[v] = s.releaseBound.tmu.timers[v] := by
  obtain ⟨hswi, -, hptb, hlmc, hgpc⟩ := s.gameBegun_fields
  obtain ⟨-, -, hevl, hscu, hmst⟩ := s.gameBegun_devices
  obtain ⟨lswi, levl, lptb, lscu, lmst, llmc, ltmu, lgpc, -⟩ := s.gameBegun.launch_frame
  rw [← s.beginGame_eq] at lswi levl lptb lscu lmst llmc ltmu lgpc
  exact ⟨lswi.trans hswi, levl.trans hevl, lscu.trans hscu, lptb.trans hptb, lmst.trans hmst, llmc.trans hlmc,
    lgpc.trans hgpc, fun v => by rw [ltmu, s.gameBegun_timers]⟩

/-- The devices and the notices of a game begun: the trough has one more ball asked of it (R116, R168). -/
theorem State.beginGame_trough {x : DeviceDef} (hd : (s.device 0).definition = some x) (hf : (s.device 0).faulted = false)
    (hlt : (s.device 0).ejectPending < (s.device 0).occupancy) :
    ((s.device 0).ejectPending = 0 → s.beginGame.hasNotice (.ejectReq 0) = true ∧
      s.beginGame.bdt = (s.withDevice 0 { s.device 0 with
        ejectPending := 1, retries := 0, ejectTimer := some x.timeout }).bdt) ∧
    ((s.device 0).ejectPending ≠ 0 → s.beginGame.ntu = s.ntu ∧
      s.beginGame.bdt = (s.withDevice 0 { s.device 0 with ejectPending := (s.device 0).ejectPending + 1 }).bdt) := by
  have hbdt : s.gameBegun.bdt = s.bdt := s.gameBegun_devices.1
  have hntu : s.gameBegun.ntu = s.ntu := s.gameBegun_fields.2.1
  have hdev : s.gameBegun.device 0 = s.device 0 := by rw [State.device, hbdt, State.device]
  obtain ⟨hstarts, hjoins⟩ := State.launch_trough (s := s.gameBegun) (hdev ▸ hd) (hdev ▸ hf) (hdev ▸ hlt)
  rw [hdev, ← State.beginGame_eq] at hstarts hjoins
  refine ⟨fun hp => ?_, fun hp => ?_⟩
  · rw [hstarts hp]
    exact ⟨State.hasNotice_raise_self _ _, by simp only [State.raise_bdt, State.withDevice, hbdt]⟩
  · rw [hjoins hp]
    exact ⟨hntu, by simp only [State.withDevice, hbdt]⟩

theorem startRefusal_wrongState (h : (s.gpc.game ≠ .idle ∧ s.gpc.game ≠ .gameOver) ∨ s.lineState = .slam) :
    s.startRefusal = some .wrongState :=
  if_pos h

theorem startRefusal_open (hg : s.gpc.game = .idle ∨ s.gpc.game = .gameOver) (hl : s.lineState ≠ .slam) :
    ¬ ((s.gpc.game ≠ .idle ∧ s.gpc.game ≠ .gameOver) ∨ s.lineState = .slam) := by
  rintro (⟨h1, h2⟩ | h)
  · exact hg.elim h1 h2
  · exact hl h

theorem startRefusal_faulted (hg : s.gpc.game = .idle ∨ s.gpc.game = .gameOver) (hl : s.lineState ≠ .slam)
    (h : s.bdt.tracking ≠ .ok ∨ (s.device 0).faulted = true) : s.startRefusal = some .faulted := by
  rw [State.startRefusal, if_neg (startRefusal_open hg hl)]
  by_cases ht : s.bdt.tracking = .ok
  · rw [if_neg (not_not.mpr ht), if_pos (h.resolve_left (not_not.mpr ht))]
  · rw [if_pos ht]

theorem startRefusal_ready (hg : s.gpc.game = .idle ∨ s.gpc.game = .gameOver) (hl : s.lineState ≠ .slam)
    (ht : s.bdt.tracking = .ok) (hf : (s.device 0).faulted = false) : s.startRefusal =
      if (s.device 0).present = false ∨ (s.device 0).occupancy ≤ (s.device 0).ejectPending then some .noBall
      else none := by
  rw [State.startRefusal, if_neg (startRefusal_open hg hl), if_neg (not_not.mpr ht), if_neg (by rw [hf]; nofun)]

theorem addPlayer_wrongState (h : s.gpc.game = .idle ∨ s.gpc.game = .gameOver ∨ s.gpc.ballNumber ≠ 1) :
    addPlayer s = (s, .bare .wrongState) := by
  refine if_neg fun ⟨hp, hb⟩ => ?_
  obtain ⟨h1, h2⟩ := GameState.inProgress_eq_true_iff.mp hp
  rcases h with h | h | h
  · exact h1 h
  · exact h2 h
  · exact h hb

theorem addPlayer_taken (h1 : s.gpc.game ≠ .idle) (h2 : s.gpc.game ≠ .gameOver) (hb : s.gpc.ballNumber = 1) :
    addPlayer s = if s.gpc.params.maxPlayers ≤ s.playerCount then (s, .bare .limit)
      else ({ s with ptb := { s.ptb with players := s.ptb.players ++ [Player.created] } },
        .ok [small (s.playerCount + 1)]) :=
  if_pos ⟨GameState.inProgress_eq_true_iff.mpr ⟨h1, h2⟩, hb⟩

end

/-- Settles O52: the refusals in their order, the game begun owner by owner, and the launch of its first ball. -/
theorem startGameAndAddPlayer : Obligations.StartGameAndAddPlayer := by
  refine ⟨?start, fun s hw => ⟨fun h => ?wrong, fun h1 h2 hb => ⟨fun hmax => ?limit, fun hmax => ?added⟩⟩⟩
  case start =>
    rintro s r hw rfl
    refine ⟨fun h => takeRequest_answers hw (startGame_refused (startRefusal_wrongState h)), fun hg hl =>
      ⟨fun h => takeRequest_answers hw (startGame_refused (startRefusal_faulted hg hl h)), fun ht hf h => ?noBall,
        fun x ht hf hd hlt => ?accepted⟩⟩
    case noBall =>
      refine takeRequest_answers hw (startGame_refused ((startRefusal_ready hg hl ht hf).trans (if_pos ?_)))
      exact h.imp_left fun h => by simp only [Device.present, State.device, h, Option.isSome_none]
    case accepted =>
      have hnone : s.startRefusal = none := (startRefusal_ready hg hl ht hf).trans (if_neg fun h => by
        rcases h with h | h
        · simp only [Device.present, State.device, hd, Option.isSome_some] at h
          cases h
        · exact absurd hlt (Nat.not_lt.mpr h))
      have hrun : exec (.startGame []) s = .next (s.beginGame.answer 0x10 .ok []) :=
        takeRequest_answers hw (startGame_accepted hnone)
      obtain ⟨hswi, hevl, hscu, hptb, hmst, hlmc, hgpc, htimers⟩ := s.beginGame_fields
      obtain ⟨hstarts, hjoins⟩ := State.beginGame_trough hd hf hlt
      generalize s.beginGame = t at *
      have hbdt : ∃ q, t.bdt = (s.withDevice 0 q).bdt := by
        by_cases hp : (s.device 0).ejectPending = 0
        · exact ⟨_, (hstarts hp).2⟩
        · exact ⟨_, (hjoins hp).2⟩
      have hother (d : Fin 6) (hd0 : d ≠ 0) : t.bdt.devices[d] = s.bdt.devices[d] := by
        obtain ⟨q, hq⟩ := hbdt
        rw [hq, State.withDevice_other q hd0]
      have hballs : t.bdt.ballsInPlay = s.bdt.ballsInPlay ∧ t.bdt.tracking = .ok := by
        obtain ⟨q, hq⟩ := hbdt
        exact ⟨by rw [hq]; rfl, by rw [hq]; exact ht⟩
      refine ⟨_, hrun, rfl, ⟨Player.created, ?players, rfl, rfl, rfl, rfl, rfl, rfl, rfl, rfl, rfl, replicate_getElem _⟩,
        fun i => ?common, fun i => ?playerDef, fun i => ?commonDef, fun y => ?slots, ?stack, ?pauseOrder, ?ended,
        ?templates, fun u => ?timers, fun u k hk hb => ?user, fun d => ?claims, ?params, ?multiball, ?jackpot, hgpc,
        fun hp => ⟨(hstarts hp).1, ?starts⟩, fun hp => ⟨(hjoins hp).1, ?joins⟩, hother, hballs.1, hballs.2, hswi, hevl,
        hscu⟩
      case players => simp only [State.answer, hptb]
      case common => simp only [State.answer, hptb, replicate_getElem]
      case playerDef => simp only [State.answer, hptb, mapTable_getElem, CounterDef.restore]
      case commonDef => simp only [State.answer, hptb, mapTable_getElem, CounterDef.restore]
      case slots => simp only [State.answer, hmst, replicate_getElem]
      case stack => simp only [State.answer, hmst]
      case pauseOrder => simp only [State.answer, hmst]
      case ended => simp only [State.answer, hmst]
      case templates => simp only [State.answer, hmst]
      case timers => simpa only [State.answer, htimers u] using s.releaseBound_cases u
      case user => exact (htimers u).trans (State.releaseBound_user hk hb)
      case claims => simp only [State.answer, hlmc, replicate_getElem]
      case params => simp only [State.answer, hlmc]
      case multiball => simp only [State.answer, hlmc]
      case jackpot => simp only [State.answer, hlmc]
      case starts => exact (congrArg (fun q : Bdt => q.devices[(0 : Fin 6)]) (hstarts hp).2).trans (State.withDevice_same _ _)
      case joins => exact (congrArg (fun q : Bdt => q.devices[(0 : Fin 6)]) (hjoins hp).2).trans (State.withDevice_same _ _)
  case wrong => exact takeRequest_answers hw (addPlayer_wrongState h)
  case limit => exact takeRequest_answers hw ((addPlayer_taken h1 h2 hb).trans (if_pos hmax))
  case added =>
    exact ⟨_, rfl, takeRequest_answers hw ((addPlayer_taken h1 h2 hb).trans (if_neg (Nat.not_le.mpr hmax)))⟩

end Sys2Proof.Machine
end

section
/-! PROOFS. Writes and definitions (01): WRITE_PLAYER, SET_PLAYFIELD_MULT, ADJUST_SCORE, and the counters' requests. -/

namespace Sys2Proof.Machine

/-! ### Timers of ball save and of the playfield multiplier (R6, R137, R153) -/

section
variable {s : State} {b : Binding} {u : Fin 16} {r : Timer}

/-- The timer with a binding, when no lower one has it. -/
theorem State.boundTimer?_eq_some (hr : s.tmu.timers[u] = some r) (hb : r.binding = b)
    (hlow : ∀ (w : Fin 16) (k : Timer), w < u → s.tmu.timers[w] = some k → k.binding ≠ b) :
    s.boundTimer? b = some u := by
  refine find?_finRange_eq_some.mpr ⟨by simp [hr, hb], fun w hw => ?_⟩
  cases hk : s.tmu.timers[w] with
  | none => rfl
  | some k => simpa using hlow w k hw hk

theorem State.giveBoundTimer_held (ticks : Nat) (h : s.boundTimer? b = some u) (hr : s.tmu.timers[u] = some r) :
    s.giveBoundTimer b ticks = (s.withTimer u (some { r with
      period := ticks, staged := none, remaining := ticks, state := .running }), true) := by
  simp only [State.giveBoundTimer, h, State.modifyTimer, hr, Option.map_some]
  rfl

theorem State.giveBoundTimer_taken (ticks : Nat) (h : s.boundTimer? b = none) (hf : s.freeTimer? = some u) :
    s.giveBoundTimer b ticks = (s.withTimer u (some ⟨.running, .oneShot, ticks, none, ticks, true, b⟩), true) := by
  simp only [State.giveBoundTimer, h, hf]
  rfl

theorem State.giveBoundTimer_none (ticks : Nat) (h : s.boundTimer? b = none) (hf : s.freeTimer? = none) :
    s.giveBoundTimer b ticks = (s, false) := by
  simp only [State.giveBoundTimer, h, hf]

end

/-! ### WRITE_PLAYER (R3) -/

section
variable {s : State} {p : List Byte} {n : Nat} {q : Player}

theorem writePlayer_outside (h : s.gpc.game.inProgress = false) : writePlayer p s = (s, .bare .wrongState) :=
  if_neg (by rw [h]; nofun)

theorem writePlayer_refused {e : Status} (h : s.gpc.game.inProgress = true)
    (hp : s.checkPlayer (byteAt p 0) = .error e) : writePlayer p s = (s, .bare e) := by
  simp only [writePlayer, if_pos h, hp]

theorem writePlayer_selects (h : s.gpc.game.inProgress = true) (hp : byteAt p 0 = n + 1) (hn : n < 6)
    (hq : s.ptb.players[n]? = some q) : writePlayer p s = if 8 ≤ byteAt p 1 then (s, .bare .outOfRange) else
      (s.withPlayer n (q.written (byteAt p 1) (numberAt p 2 4) (byteAt p 6) (byteAt p 7)),
        .bare (if writeClamps (byteAt p 1) (numberAt p 2 4) (byteAt p 6) (byteAt p 7) then .clamped else .ok)) := by
  simp only [writePlayer, if_pos h, hp, State.checkPlayer_present hn hq, State.modifyPlayer_present _ hq]

/-- A value was held exactly where the field written differs from the value sent (R3). -/
theorem writeClamps_iff (select bonus mult extra : Nat) : writeClamps select bonus mult extra = true ↔
    (select.testBit 0 = true ∧ (q.written select bonus mult extra).bonus ≠ bonus) ∨
    (select.testBit 1 = true ∧ (q.written select bonus mult extra).bonusMult ≠ mult) ∨
    (select.testBit 2 = true ∧ (q.written select bonus mult extra).extraBalls ≠ extra) := by
  have hbonus : bonusMax < bonus ↔ min bonus bonusMax ≠ bonus := by omega
  have hmult : (mult = 0 ∨ 99 < mult) ↔ max 1 (min mult 99) ≠ mult := by omega
  have hextra : 9 < extra ↔ min extra 9 ≠ extra := by omega
  simp only [writeClamps, Bool.or_eq_true, Bool.and_eq_true, decide_eq_true_eq, hbonus, hmult, hextra, or_assoc,
    Player.written]
  refine or_congr (and_congr_right fun h => by rw [if_pos h]) (or_congr (and_congr_right fun h => by rw [if_pos h])
    (and_congr_right fun h => by rw [if_pos h]))

/-! ### SET_PLAYFIELD_MULT (R6) -/

theorem setPlayfieldMult_outside (h1 : s.gpc.game ≠ .starting) (h2 : s.gpc.game ≠ .inPlay) :
    setPlayfieldMult p s = (s, .bare .wrongState) :=
  if_neg fun h => h.elim h1 h2

/-- The status of a multiplier held to 1..8. -/
theorem heldPfMult_status (m : Nat) : (if heldPfMult m = m then Status.ok else .clamped) =
    if 1 ≤ m ∧ m ≤ 8 then .ok else .clamped :=
  ite_congr (propext ⟨fun h => by unfold heldPfMult at h; omega, fun h => by unfold heldPfMult; omega⟩)
    (fun _ => rfl) fun _ => rfl

theorem setPlayfieldMult_sets (hg : s.gpc.game = .starting ∨ s.gpc.game = .inPlay)
    (hc : s.gpc.current = some (n + 1)) (hq : s.ptb.players[n]? = some q) : setPlayfieldMult p s =
      if numberAt p 1 2 = 0 then
        ((s.withPlayer n { q with pfMult := heldPfMult (byteAt p 0) }).releaseBinding .pfMult,
          .bare (if 1 ≤ byteAt p 0 ∧ byteAt p 0 ≤ 8 then .ok else .clamped))
      else
        (((s.withPlayer n { q with pfMult := heldPfMult (byteAt p 0) }).giveBoundTimer .pfMult (numberAt p 1 2)).1,
          .bare (if ((s.withPlayer n { q with pfMult := heldPfMult (byteAt p 0) }).giveBoundTimer .pfMult
              (numberAt p 1 2)).2 then (if 1 ≤ byteAt p 0 ∧ byteAt p 0 ≤ 8 then .ok else .clamped) else .noTimer)) := by
  simp only [setPlayfieldMult, if_pos hg, State.currentPlayer_eq hc, State.modifyPlayer_present _ hq, heldPfMult_status]

/-! ### ADJUST_SCORE (R4, R63) -/

theorem adjustScore_outside (h : s.gpc.game.inProgress = false) : adjustScore p s = (s, .bare .wrongState) :=
  if_neg (by rw [h]; nofun)

theorem adjustScore_refused {e : Status} (h : s.gpc.game.inProgress = true)
    (hp : s.checkPlayer (byteAt p 0) = .error e) : adjustScore p s = (s, .bare e) := by
  simp only [adjustScore, if_pos h, hp]

theorem pointAt?_eq_some {i : Nat} (h1 : numberAt p i 2 ≤ 9999) (h2 : byteAt p (i + 2) ≤ 7) :
    pointAt? p i = some ⟨numberAt p i 2, byteAt p (i + 2)⟩ := by
  simp [pointAt?, rawPointAt, PointValue.inRange, h1, h2]

theorem pointAt?_eq_none {i : Nat} (h : 9999 < numberAt p i 2 ∨ 7 < byteAt p (i + 2)) : pointAt? p i = none := by
  have hr : (rawPointAt p i).inRange = false := Bool.and_eq_false_iff.mpr
    (h.imp (fun h => decide_eq_false (Nat.not_le.mpr h)) fun h => decide_eq_false (Nat.not_le.mpr h))
  exact if_neg (by rw [hr]; nofun)

theorem flag?_eq_none {v : Nat} (h : 1 < v) : flag? v = none := by
  unfold flag?
  split
  · omega
  · omega
  · rfl

theorem adjustScore_outOfRange (h : s.gpc.game.inProgress = true) (hp : byteAt p 0 = n + 1) (hn : n < 6)
    (hq : s.ptb.players[n]? = some q) (hr : 1 < byteAt p 1 ∨ 9999 < numberAt p 2 2 ∨ 7 < byteAt p 4) :
    adjustScore p s = (s, .bare .outOfRange) := by
  simp only [adjustScore, if_pos h, hp, State.checkPlayer_present hn hq]
  rcases hr with hr | hr
  · rw [flag?_eq_none hr]
  · rw [pointAt?_eq_none hr]
    cases flag? (byteAt p 1) <;> rfl

/-- The score that a credit leaves (R57). -/
theorem State.credit_score (points : Nat) (hq : s.ptb.players[n]? = some q) :
    (((s.credit (n + 1) points none).player? (n + 1)).map Player.score).getD 0 = min (q.score + points) scoreMax := by
  obtain ⟨t, q', hc, -⟩ := State.credit_record points none hq
  have hp : (s.credit (n + 1) points none).player? (n + 1) = some q' := hc.record
  rw [hp, Option.map_some, Option.getD_some, hc.fields]
  rfl

theorem adjustScore_adds (h : s.gpc.game.inProgress = true) (hp : byteAt p 0 = n + 1) (hn : n < 6)
    (hq : s.ptb.players[n]? = some q) (hd : byteAt p 1 = 0) (h1 : numberAt p 2 2 ≤ 9999) (h2 : byteAt p 4 ≤ 7) :
    adjustScore p s = (s.credit (n + 1) (numberAt p 2 2 * 10 ^ byteAt p 4) none,
      .ok (numberBytes 5 (min (q.score + numberAt p 2 2 * 10 ^ byteAt p 4) scoreMax))) := by
  simp only [adjustScore, if_pos h, hp, State.checkPlayer_present hn hq, hd, flag?, pointAt?_eq_some h1 h2,
    PointValue.worth, Bool.false_eq_true, if_false, State.credit_score _ hq]

theorem adjustScore_subtracts (h : s.gpc.game.inProgress = true) (hp : byteAt p 0 = n + 1) (hn : n < 6)
    (hq : s.ptb.players[n]? = some q) (hd : byteAt p 1 = 1) (h1 : numberAt p 2 2 ≤ 9999) (h2 : byteAt p 4 ≤ 7)
    {w : Nat} (hw : w = numberAt p 2 2 * 10 ^ byteAt p 4) :
    adjustScore p s = (s.withPlayer n { q with
      score := q.score - w
      scoreLimitReported := q.scoreLimitReported && decide (scoreMax ≤ q.score - w) }, .ok (numberBytes 5 (q.score - w))) := by
  have hflag : (if q.score - w < scoreMax then false else q.scoreLimitReported) =
      (q.scoreLimitReported && decide (scoreMax ≤ q.score - w)) := by
    by_cases hlt : q.score - w < scoreMax
    · simp [hlt]
    · simp [hlt, Nat.le_of_not_lt hlt]
  simp only [adjustScore, if_pos h, hp, State.checkPlayer_present hn hq, hd, flag?, pointAt?_eq_some h1 h2,
    PointValue.worth, if_true, State.subtractScore, State.modifyPlayer_present _ hq, State.withPlayer_player _ hq,
    Option.map_some, Option.getD_some, ← hw, hflag]

end

/-- Settles O55: each request checks the game, the player and the operands in turn, then writes the record. -/
theorem playerRecordsAreWritten : Obligations.PlayerRecordsAreWritten := by
  refine ⟨fun s p hw hl => ⟨fun hg => ?writeOutside, fun h1 h2 => ?write⟩,
    fun s v p n m ticks q st hw hl hm ht => ⟨fun h1 h2 => ?multOutside, fun hg hc hq hv hst => ?mult⟩,
    fun s p w hw hl hworth => ⟨fun hg => ?scoreOutside, fun h1 h2 => ?score⟩⟩
  case writeOutside =>
    exact takeRequest_answers hw (writePlayer_outside (GameState.inProgress_eq_false_iff.mpr hg)) hl
  case write =>
    have hg := GameState.inProgress_eq_true_iff.mpr ⟨h1, h2⟩
    refine ⟨fun h => takeRequest_answers hw (writePlayer_refused hg (State.checkPlayer_outOfRange h)) hl,
      fun h0 h6 hn => takeRequest_answers hw (writePlayer_refused hg (State.checkPlayer_one_le h0 h6 hn)) hl,
      fun n q hp hn hq => ⟨fun h8 =>
        takeRequest_answers hw ((writePlayer_selects hg hp hn hq).trans (if_pos h8)) hl, fun h8 => ?_⟩⟩
    refine ⟨_, _, takeRequest_answers hw ((writePlayer_selects hg hp hn hq).trans (if_neg (Nat.not_le.mpr h8))) hl,
      rfl, rfl, rfl, rfl, ?_, ?_⟩
    · split
      · exact .inr rfl
      · exact .inl rfl
    · rw [← writeClamps_iff]
      split
      · next h => exact ⟨fun _ => h, fun _ => rfl⟩
      · next h => exact ⟨nofun, fun hc => absurd hc h⟩
  case multOutside => exact takeRequest_answers hw (setPlayfieldMult_outside h1 h2) hl
  case mult =>
    subst hm ht hv hst
    have hset := setPlayfieldMult_sets (p := p) hg hc hq
    refine ⟨fun h0 => ?zero, fun hpos => ?ticks⟩
    case zero =>
      exact ⟨_, takeRequest_answers hw (hset.trans (if_pos h0)) hl, rfl, fun u =>
        ⟨fun r hr hb => State.releaseBinding_bound (s := s.withPlayer n _) hr hb,
          fun h => State.releaseBinding_other (s := s.withPlayer n _) h⟩⟩
    case ticks =>
      rw [if_neg (Nat.ne_of_gt hpos)] at hset
      refine ⟨fun u r hr hb huniq => ?held, fun hnone => ⟨fun u hu hlow => ?taken, fun hfull => ?full⟩⟩
      case held =>
        have hbound : (s.withPlayer n { q with pfMult := heldPfMult (byteAt p 0) }).boundTimer? .pfMult = some u :=
          State.boundTimer?_eq_some (s := s.withPlayer n _) hr hb fun w k hwu hk => huniq w k (ne_of_lt hwu) hk
        rw [State.giveBoundTimer_held _ hbound hr] at hset
        exact takeRequest_answers hw hset hl
      case taken =>
        have hfree : (s.withPlayer n { q with pfMult := heldPfMult (byteAt p 0) }).freeTimer? = some u :=
          State.freeTimer?_eq_some.mpr ⟨hu, hlow⟩
        have hbound : (s.withPlayer n { q with pfMult := heldPfMult (byteAt p 0) }).boundTimer? .pfMult = none :=
          State.boundTimer?_eq_none.mpr hnone
        rw [State.giveBoundTimer_taken _ hbound hfree] at hset
        exact takeRequest_answers hw hset hl
      case full =>
        have hbound : (s.withPlayer n { q with pfMult := heldPfMult (byteAt p 0) }).boundTimer? .pfMult = none :=
          State.boundTimer?_eq_none.mpr hnone
        have hfree : (s.withPlayer n { q with pfMult := heldPfMult (byteAt p 0) }).freeTimer? = none :=
          State.freeTimer?_eq_none.mpr hfull
        rw [State.giveBoundTimer_none _ hbound hfree] at hset
        exact takeRequest_answers hw hset hl
  case scoreOutside =>
    exact takeRequest_answers hw (adjustScore_outside (GameState.inProgress_eq_false_iff.mpr hg)) hl
  case score =>
    have hg := GameState.inProgress_eq_true_iff.mpr ⟨h1, h2⟩
    subst hworth
    exact ⟨fun h => takeRequest_answers hw (adjustScore_refused hg (State.checkPlayer_outOfRange h)) hl,
      fun h0 h6 hn => takeRequest_answers hw (adjustScore_refused hg (State.checkPlayer_one_le h0 h6 hn)) hl,
      fun n q hp hn hq => ⟨fun hr => takeRequest_answers hw (adjustScore_outOfRange hg hp hn hq hr) hl,
        fun hd hm hs => takeRequest_answers hw (adjustScore_adds hg hp hn hq hd hm hs) hl,
        fun hd hm hs => takeRequest_answers hw (adjustScore_subtracts hg hp hn hq hd hm hs rfl) hl⟩⟩

/-! ### WRITE_COUNTER, STAGE_TARGET, DEFINE_COUNTER (R10, R15, R16) -/

section
variable {s : State} {p : List Byte} {c : CounterRef}

theorem writeCounter_outside (h : s.gpc.game.inProgress = false) : writeCounter p s = (s, .bare .wrongState) :=
  if_neg (by rw [h]; nofun)

theorem writeCounter_noRef (h : s.gpc.game.inProgress = true) (hc : counterRef? (byteAt p 0) (byteAt p 1) = none) :
    writeCounter p s = (s, .bare .outOfRange) := by
  simp only [writeCounter, if_pos h, hc]

theorem writeCounter_refused {e : Status} (h : s.gpc.game.inProgress = true)
    (hc : counterRef? (byteAt p 0) (byteAt p 1) = some c) (hp : s.checkCounterPlayer c (byteAt p 2) = some e) :
    writeCounter p s = (s, .bare e) := by
  simp only [writeCounter, if_pos h, hc, hp]

theorem writeCounter_writes (h : s.gpc.game.inProgress = true)
    (hc : counterRef? (byteAt p 0) (byteAt p 1) = some c) (hp : s.checkCounterPlayer c (byteAt p 2) = none) :
    writeCounter p s = (s.setCounterValue c (byteAt p 2) (min (numberAt p 3 2) (s.counterDef c).bound),
      .bare (if (s.counterDef c).bound < numberAt p 3 2 then .clamped else .ok)) := by
  simp only [writeCounter, if_pos h, hc, hp]

theorem CounterDef.bound_eq (d : CounterDef) :
    d.bound = if d.target = 0 then 0 else if d.afterReach = .repeats then d.target - 1 else d.target := by
  unfold CounterDef.bound
  cases d.afterReach with
  | repeats => simp; omega
  | hold => simp

theorem stageTarget_outside (h : s.gpc.game.inProgress = false) : stageTarget p s = (s, .bare .wrongState) :=
  if_neg (by rw [h]; nofun)

theorem stageTarget_noRef (h : s.gpc.game.inProgress = true) (hc : counterRef? (byteAt p 0) (byteAt p 1) = none) :
    stageTarget p s = (s, .bare .outOfRange) := by
  simp only [stageTarget, if_pos h, hc]

theorem stageTarget_stages (h : s.gpc.game.inProgress = true) (hc : counterRef? (byteAt p 0) (byteAt p 1) = some c)
    {d : CounterDef} (hd : d = s.counterDef c) : stageTarget p s =
      (s.setCounterDef c (if d.target = 0 then { d with target := numberAt p 2 2, staged := none }
        else { d with staged := some (numberAt p 2 2) }), .bare .ok) := by
  subst hd
  simp only [stageTarget, if_pos h, hc]
  by_cases h0 : (s.counterDef c).target = 0
  · simp only [h0, Nat.lt_irrefl, if_false, if_true]
  · simp only [Nat.pos_of_ne_zero h0, h0, if_false, if_true]

theorem afterReach?_eq_none {v : Nat} (h : 1 < v) : afterReach? v = none := by
  unfold afterReach?
  split
  · omega
  · omega
  · rfl

theorem afterReach?_code (a : AfterReach) : afterReach? a.code.toNat = some a := by
  cases a <;> rfl

theorem counterAction?_eq_none {v o : Nat} (h : 5 < v ∨ (v = 1 ∧ 3 < o) ∨ (v = 3 ∧ 31 < o)) :
    counterAction? v o = none := by
  unfold counterAction?
  split
  · omega
  · simp [index?_eq_none]; omega
  · omega
  · simp [index?_eq_none]; omega
  · omega
  · omega
  · rfl

theorem counterAction?_eq_some {v o : Nat} {action : CounterAction}
    (h : (v = 0 ∧ action = .none) ∨ (v = 2 ∧ action = .lightLock) ∨ (v = 4 ∧ action = .extraBall) ∨
      (v = 5 ∧ action = .bonusMult) ∨ (v = 1 ∧ ∃ c : Fin 4, c.val = o ∧ action = .notify c) ∨
      (v = 3 ∧ ∃ i : Fin 32, i.val = o ∧ action = .startMode i)) : counterAction? v o = some action := by
  rcases h with ⟨rfl, rfl⟩ | ⟨rfl, rfl⟩ | ⟨rfl, rfl⟩ | ⟨rfl, rfl⟩ | ⟨rfl, c, hc, rfl⟩ | ⟨rfl, i, hi, rfl⟩
  · rfl
  · rfl
  · rfl
  · rfl
  · simp only [counterAction?, index?_eq_some.mpr hc, Option.map_some]
  · simp only [counterAction?, index?_eq_some.mpr hi, Option.map_some]

theorem defineCounter_outOfRange (h : counterRef? (byteAt p 0) (byteAt p 1) = none ∨ afterReach? (byteAt p 4) = none ∨
    counterAction? (byteAt p 5) (byteAt p 6) = none) : defineCounter p s = (s, .bare .outOfRange) := by
  unfold defineCounter
  split
  · next h1 h2 h3 => simp [h1, h2, h3] at h
  · rfl

theorem defineCounter_defines {a : AfterReach} {act : CounterAction}
    (hc : counterRef? (byteAt p 0) (byteAt p 1) = some c) (ha : a.code.toNat = byteAt p 4)
    (hact : counterAction? (byteAt p 5) (byteAt p 6) = some act) : defineCounter p s =
      (s.setCounterDef c ⟨numberAt p 2 2, numberAt p 2 2, none, a, act⟩, .bare .ok) := by
  have ha : afterReach? (byteAt p 4) = some a := ha ▸ afterReach?_code a
  simp only [defineCounter, hc, ha, hact]

end

/-- Settles O56: the class and the index find the counter, the player is checked for class PLAYER, the record is written. -/
theorem countersAreWrittenAndDefined : Obligations.CountersAreWrittenAndDefined := by
  intro s p d hw
  refine ⟨fun hg => ⟨fun hl => ?_, fun hl => ?_⟩, fun h1 h2 => ⟨fun hr => ⟨fun hl => ?_, fun hl => ?_⟩,
    fun hc hi hl => ⟨fun hp => ?range, fun h0 h6 hn => ?absent⟩, fun bound hb hl => ⟨?player, ?common⟩,
    fun e hl he => ⟨?stagePlayer, ?stageCommon⟩⟩, fun hidle hl => ⟨fun hr => ?refused, ?defines⟩⟩
  · exact takeRequest_answers hw (writeCounter_outside (GameState.inProgress_eq_false_iff.mpr hg)) hl
  · exact takeRequest_answers hw (stageTarget_outside (GameState.inProgress_eq_false_iff.mpr hg)) hl
  · exact takeRequest_answers hw (writeCounter_noRef (GameState.inProgress_eq_true_iff.mpr ⟨h1, h2⟩)
      (counterRef?_none hr)) hl
  · exact takeRequest_answers hw (stageTarget_noRef (GameState.inProgress_eq_true_iff.mpr ⟨h1, h2⟩)
      (counterRef?_none hr)) hl
  case range =>
    exact takeRequest_answers hw (writeCounter_refused (GameState.inProgress_eq_true_iff.mpr ⟨h1, h2⟩)
      (counterRef?_player (i := ⟨_, hi⟩) hc rfl) (State.checkCounterPlayer_error (State.checkPlayer_outOfRange hp))) hl
  case absent =>
    exact takeRequest_answers hw (writeCounter_refused (GameState.inProgress_eq_true_iff.mpr ⟨h1, h2⟩)
      (counterRef?_player (i := ⟨_, hi⟩) hc rfl) (State.checkCounterPlayer_error (State.checkPlayer_one_le h0 h6 hn))) hl
  case player =>
    intro i n q hc hi hd hp hn hq
    have hok := State.checkCounterPlayer_ok (i := i) (State.checkPlayer_present hn hq)
    have hwrite := writeCounter_writes (GameState.inProgress_eq_true_iff.mpr ⟨h1, h2⟩) (counterRef?_player hc hi.symm)
      (hp ▸ hok)
    have hbound : (s.counterDef (.player i)).bound = bound := by rw [hb, hd, CounterDef.bound_eq]; rfl
    rw [hp, hbound, State.setCounterValue, State.modifyPlayer_present _ hq] at hwrite
    exact takeRequest_answers hw hwrite hl
  case common =>
    intro i hc hi hd
    have hwrite := writeCounter_writes (GameState.inProgress_eq_true_iff.mpr ⟨h1, h2⟩) (counterRef?_common hc hi.symm) rfl
    have hbound : (s.counterDef (.common i)).bound = bound := by rw [hb, hd, CounterDef.bound_eq]; rfl
    rw [hbound] at hwrite
    exact takeRequest_answers hw hwrite hl
  case stagePlayer =>
    intro i hc hi hd
    have hstage := stageTarget_stages (GameState.inProgress_eq_true_iff.mpr ⟨h1, h2⟩) (counterRef?_player hc hi.symm) hd
    rw [← he] at hstage
    exact takeRequest_answers hw hstage hl
  case stageCommon =>
    intro i hc hi hd
    have hstage := stageTarget_stages (GameState.inProgress_eq_true_iff.mpr ⟨h1, h2⟩) (counterRef?_common hc hi.symm) hd
    rw [← he] at hstage
    exact takeRequest_answers hw hstage hl
  case refused =>
    refine takeRequest_configures hw hidle (defineCounter_outOfRange ?_) hl
    rcases hr with hr | hr | hr | hr | hr
    · exact .inl (counterRef?_none (.inl hr))
    · exact .inl (counterRef?_none (.inr (.inl hr)))
    · exact .inl (counterRef?_none (.inr (.inr hr)))
    · exact .inr (.inl (afterReach?_eq_none hr))
    · exact .inr (.inr (counterAction?_eq_none hr))
  case defines =>
    rintro after action rfl hafter haction
    have hact := counterAction?_eq_some haction
    exact ⟨fun i hc hi => takeRequest_configures hw hidle (defineCounter_defines (counterRef?_player hc hi.symm) hafter hact) hl,
      fun i hc hi => takeRequest_configures hw hidle (defineCounter_defines (counterRef?_common hc hi.symm) hafter hact) hl⟩

end Sys2Proof.Machine
end

section
/-! PROOFS. Definitions (03, 05, 06, 07, 09): DEFINE_DEVICE, DEFINE_RULE, DEFINE_TEMPLATE and the parameters. -/

namespace Sys2Proof.Machine

/-! ### DEFINE_DEVICE (R38, R103 to R105) -/

section
variable {s : State} {p : List Byte} {d : Fin 6} {sw : Fin 128}

theorem State.switchTaken_eq_false_iff : s.switchTaken d sw = false ↔ ∀ (c : Fin 6) (y : DeviceDef), c ≠ d →
    (s.bdt.devices[c]).definition = some y → y.entrySwitch ≠ sw ∧ y.exitSwitch ≠ sw := by
  simp only [State.switchTaken, List.any_eq_false, List.mem_finRange, true_implies, State.device]
  refine forall_congr' fun c => ?_
  cases hc : (s.bdt.devices[c]).definition with
  | none => simp
  | some y => by_cases hcd : c = d <;> simp [hcd]

theorem State.deviceDef?_absent (h : byteAt p 1 = 0) : s.deviceDef? d p = some none := if_pos h

theorem State.deviceDef?_present {kind : DeviceKind} {entry exit : Fin 128} (h1 : byteAt p 1 ≠ 0)
    (hk : deviceKind? d (byteAt p 2) (byteAt p 7) (byteAt p 8) = some kind) (he : entry.val = byteAt p 3)
    (hx : exit.val = byteAt p 4) : s.deviceDef? d p =
      if byteAt p 1 ≤ (if d = 0 then 12 else 6) ∧ entry ≠ exit ∧ s.switchTaken d entry = false ∧
          s.switchTaken d exit = false ∧ 10 ≤ numberAt p 5 2 ∧ numberAt p 5 2 ≤ 500 then
        some (some ⟨kind, byteAt p 1, entry, exit, numberAt p 5 2⟩)
      else none := by
  simp only [State.deviceDef?, if_neg h1, hk, index?_eq_some.mpr he, index?_eq_some.mpr hx]

/-- Reading a flag byte back. -/
theorem flag?_toNat (b : Bool) : flag? b.toNat = some b := by cases b <;> rfl

theorem deviceKind?_eq_some {kind : DeviceKind} (h : (d = 0 ∧ byteAt p 2 = 1 ∧ kind = .trough) ∨
    (d ≠ 0 ∧ byteAt p 2 = 3 ∧ kind = .scoop) ∨
    (d ≠ 0 ∧ byteAt p 2 = 2 ∧ ∃ a b : Bool, byteAt p 7 = a.toNat ∧ byteAt p 8 = b.toNat ∧ kind = .lock a b)) :
    deviceKind? d (byteAt p 2) (byteAt p 7) (byteAt p 8) = some kind := by
  rcases h with ⟨hd, hk, rfl⟩ | ⟨hd, hk, rfl⟩ | ⟨hd, hk, a, b, ha, hb, rfl⟩
  · simp only [deviceKind?, hk, if_pos hd]
  · simp only [deviceKind?, hk, if_neg hd]
  · simp only [deviceKind?, hk, if_neg hd, ha, hb, flag?_toNat, Option.bind_some, Option.map_some]

theorem deviceKind?_eq_none (h : (d = 0 ∧ byteAt p 2 ≠ 1) ∨ (d ≠ 0 ∧ byteAt p 2 ≠ 2 ∧ byteAt p 2 ≠ 3) ∨
    (byteAt p 2 = 2 ∧ (2 ≤ byteAt p 7 ∨ 2 ≤ byteAt p 8))) :
    deviceKind? d (byteAt p 2) (byteAt p 7) (byteAt p 8) = none := by
  unfold deviceKind?
  split
  · next hk => exact if_neg fun hd => by omega
  · split
    · rfl
    · next hd =>
      rcases h with ⟨hd', -⟩ | ⟨-, h2, -⟩ | ⟨-, h | h⟩
      · exact absurd hd' hd
      · omega
      · rw [flag?_eq_none h, Option.bind_none]
      · rw [flag?_eq_none h]
        cases flag? (byteAt p 7) <;> rfl
  · exact if_pos (by omega)
  · rfl

/-- A definition with a part that fails a check of R104. -/
theorem State.deviceDef?_eq_none (h1 : byteAt p 1 ≠ 0)
    (h : (if d = 0 then 12 else 6) < byteAt p 1 ∨ (d = 0 ∧ byteAt p 2 ≠ 1) ∨
      (d ≠ 0 ∧ byteAt p 2 ≠ 2 ∧ byteAt p 2 ≠ 3) ∨ 128 ≤ byteAt p 3 ∨ 128 ≤ byteAt p 4 ∨ byteAt p 3 = byteAt p 4 ∨
      (∃ (c : Fin 6) (y : DeviceDef), c ≠ d ∧ (s.bdt.devices[c]).definition = some y ∧
        (y.entrySwitch.val = byteAt p 3 ∨ y.exitSwitch.val = byteAt p 3 ∨ y.entrySwitch.val = byteAt p 4 ∨
          y.exitSwitch.val = byteAt p 4)) ∨
      numberAt p 5 2 < 10 ∨ 500 < numberAt p 5 2 ∨ (byteAt p 2 = 2 ∧ (2 ≤ byteAt p 7 ∨ 2 ≤ byteAt p 8))) :
    s.deviceDef? d p = none := by
  cases hk : deviceKind? d (byteAt p 2) (byteAt p 7) (byteAt p 8) with
  | none => simp only [State.deviceDef?, if_neg h1, hk]
  | some kind =>
    have hkind : ¬ ((d = 0 ∧ byteAt p 2 ≠ 1) ∨ (d ≠ 0 ∧ byteAt p 2 ≠ 2 ∧ byteAt p 2 ≠ 3) ∨
        (byteAt p 2 = 2 ∧ (2 ≤ byteAt p 7 ∨ 2 ≤ byteAt p 8))) := fun hc =>
      nomatch hk.symm.trans (deviceKind?_eq_none hc)
    by_cases h3 : 128 ≤ byteAt p 3
    · simp only [State.deviceDef?, if_neg h1, hk, index?_eq_none.mpr h3]
    · by_cases h4 : 128 ≤ byteAt p 4
      · simp only [State.deviceDef?, if_neg h1, hk, index?_eq_none.mpr h4]
        split <;> simp_all
      · have he : index? 128 (byteAt p 3) = some ⟨byteAt p 3, by omega⟩ := index?_eq_some.mpr rfl
        have hx : index? 128 (byteAt p 4) = some ⟨byteAt p 4, by omega⟩ := index?_eq_some.mpr rfl
        rw [State.deviceDef?_present h1 hk (index?_eq_some.mp he) (index?_eq_some.mp hx)]
        refine if_neg fun ⟨hcap, hne, hentry, hexit, hlow, hhigh⟩ => ?_
        rw [State.switchTaken_eq_false_iff] at hentry hexit
        rcases h with h | h | h | h | h | h | ⟨c, y, hc, hy, h⟩ | h | h | h
        · omega
        · exact hkind (.inl h)
        · exact hkind (.inr (.inl h))
        · exact h3 h
        · exact h4 h
        · exact hne (Fin.ext h)
        · obtain ⟨e1, e2⟩ := hentry c y hc hy
          obtain ⟨x1, x2⟩ := hexit c y hc hy
          rcases h with h | h | h | h
          · exact e1 (Fin.ext h)
          · exact e2 (Fin.ext h)
          · exact x1 (Fin.ext h)
          · exact x2 (Fin.ext h)
        · omega
        · omega
        · exact hkind (.inr (.inr h))

/-- The record tables DEFINE_DEVICE leaves, before the rules are brought to agree. -/
def State.deviceDefined (s : State) (d : Fin 6) (x : Option DeviceDef) : State :=
  { (s.withDevice d { Device.absent with definition := x }).setClaims d [] with
    bdt := { (s.withDevice d { Device.absent with definition := x }).bdt with
      tracking := if s.bdt.tracking = Tracking.ok then .uncounted else s.bdt.tracking } }

theorem State.deviceDefined_same (s : State) (d : Fin 6) (x : Option DeviceDef) :
    (s.deviceDefined d x).bdt.devices[d] = ⟨x, 0, 0, 0, none, false, 0⟩ ∧ (s.deviceDefined d x).lmc.claims[d] = [] :=
  ⟨State.withDevice_same d _, Vector.getElem_set_self d.isLt⟩

theorem State.deviceDefined_other {c : Fin 6} (x : Option DeviceDef) (h : c ≠ d) :
    (s.deviceDefined d x).bdt.devices[c] = s.bdt.devices[c] ∧
    (s.deviceDefined d x).lmc.claims[c] = s.lmc.claims[c] :=
  ⟨State.withDevice_other _ h, Vector.getElem_set_ne d.isLt c.isLt fun e => h (Fin.ext e.symm)⟩

theorem defineDevice_defines {x : Option DeviceDef} (hd : d.val = byteAt p 0) (hx : s.deviceDef? d p = some x) :
    defineDevice p s = ((s.deviceDefined d x).agreeRules, .bare .ok) := by
  simp only [defineDevice, index?_eq_some.mpr hd, hx]
  rfl

theorem defineDevice_refused (hd : d.val = byteAt p 0) (hx : s.deviceDef? d p = none) :
    defineDevice p s = (s, .bare .outOfRange) := by
  simp only [defineDevice, index?_eq_some.mpr hd, hx]

theorem defineDevice_noDevice (h : 6 ≤ byteAt p 0) : defineDevice p s = (s, .bare .outOfRange) := by
  simp only [defineDevice, index?_eq_none.mpr h]

theorem State.agreeRules_rules (s : State) (sw : Fin 128) : s.agreeRules.evl.rules[sw] =
    if s.ruleAgrees sw s.evl.rules[sw] then s.evl.rules[sw] else .ignored := by
  simp only [State.agreeRules, Fin.getElem_fin, Vector.getElem_ofFn]

theorem State.agreeRules_frame (s : State) : s.agreeRules.swi = s.swi ∧ s.agreeRules.ptb = s.ptb ∧
    s.agreeRules.mst = s.mst ∧ s.agreeRules.bdt = s.bdt ∧ s.agreeRules.lmc = s.lmc ∧ s.agreeRules.tmu = s.tmu ∧
    s.agreeRules.gpc = s.gpc ∧ s.agreeRules.ntu = s.ntu := by
  simp only [State.agreeRules, and_self]

/-- Agreement is about the device table alone. -/
theorem State.agreeRules_ruleAgrees (s : State) (sw : Fin 128) (r : Rule) :
    s.agreeRules.ruleAgrees sw r = s.ruleAgrees sw r := by
  have hbdt : s.agreeRules.bdt = s.bdt := by simp only [State.agreeRules]
  cases r <;> simp only [State.ruleAgrees, State.switchNamed, State.entersAt, State.leavesAt, State.device, hbdt]

end

/-- Settles O41: the payload gives a definition or fails a check, and the rules are brought to agree with the table. -/
theorem defineDeviceReplacesTheDevice : Obligations.DefineDeviceReplacesTheDevice := by
  intro s p hw hl hidle
  refine ⟨fun h => takeRequest_configures hw hidle (defineDevice_noDevice h) hl, fun d hd => ⟨fun x hx => ?defined,
    fun h1 h => ?refused⟩⟩
  case defined =>
    have hdef : s.deviceDef? d p = some x := by
      rcases hx with ⟨h1, rfl⟩ | ⟨kind, entry, exit, rfl, h1, hcap, he, hx, hne, hfree, hlow, hhigh, hkind⟩
      · exact State.deviceDef?_absent h1
      · refine (State.deviceDef?_present (Nat.ne_of_gt h1) (deviceKind?_eq_some hkind) he hx).trans (if_pos ?_)
        refine ⟨hcap, hne, State.switchTaken_eq_false_iff.mpr fun c y hc hy => ?_,
          State.switchTaken_eq_false_iff.mpr fun c y hc hy => ?_, hlow, hhigh⟩
        · obtain ⟨e1, e2, -, -⟩ := hfree c y hc hy
          exact ⟨e1, e2⟩
        · obtain ⟨-, -, x1, x2⟩ := hfree c y hc hy
          exact ⟨x1, x2⟩
    have hrun := takeRequest_configures (code := 0x63) hw hidle (defineDevice_defines hd hdef) hl
    have hagrees := State.agreeRules_ruleAgrees (s.deviceDefined d x)
    have hrules := State.agreeRules_rules (s.deviceDefined d x)
    obtain ⟨fswi, fptb, fmst, fbdt, flmc, ftmu, fgpc, fntu⟩ := (s.deviceDefined d x).agreeRules_frame
    obtain ⟨hsame, hclaims⟩ := s.deviceDefined_same d x
    have hother (c : Fin 6) (hc : c ≠ d) := State.deviceDefined_other (s := s) x hc
    generalize (s.deviceDefined d x).agreeRules = t at *
    refine ⟨_, hrun, rfl, ?device, ?claims, fun c hc => ⟨?others, ?otherClaims⟩, ?balls,
      ?tracking, fun sw => ⟨fun h => ?kept, fun h => ?reset⟩, fptb, fmst, ftmu, fgpc, fntu, fswi⟩
    case device => simpa only [State.answer, fbdt] using hsame
    case claims => simpa only [State.answer, flmc] using hclaims
    case others => simpa only [State.answer, fbdt] using (hother c hc).1
    case otherClaims => simpa only [State.answer, flmc] using (hother c hc).2
    case balls => simp only [State.answer, fbdt]; rfl
    case tracking => simp only [State.answer, fbdt]; rfl
    case kept => exact (hrules sw).trans (if_pos ((hagrees sw _).symm.trans h))
    case reset =>
      have hno : ¬ (s.deviceDefined d x).ruleAgrees sw s.evl.rules[sw] = true := fun ht =>
        Bool.false_ne_true (h.symm.trans ((hagrees sw _).trans ht))
      exact (hrules sw).trans (if_neg hno)
  case refused =>
    exact takeRequest_configures hw hidle (defineDevice_refused hd (State.deviceDef?_eq_none (by omega) h)) hl

end Sys2Proof.Machine
end

section
/-! PROOFS. Rule entries (03, 11): award records and rules read back from their bytes, DEFINE_RULE and READ_RULE. -/

namespace Sys2Proof.Machine

/-! ### Payloads read past a prefix (R203) -/

section
variable (before rest : List Byte) (i n : Nat)

theorem byteAt_append : byteAt (before ++ rest) (before.length + i) = byteAt rest i := by
  simp only [byteAt, List.getD_eq_getElem?_getD, List.getElem?_append_right (Nat.le_add_right _ _),
    Nat.add_sub_cancel_left]

theorem numberAt_append : numberAt (before ++ rest) (before.length + i) n = numberAt rest i n := by
  induction n generalizing i with
  | zero => rfl
  | succ n ih => simp only [numberAt, byteAt_append, Nat.add_assoc, ih]

theorem pointAt?_append : pointAt? (before ++ rest) (before.length + i) = pointAt? rest i := by
  have hraw : rawPointAt (before ++ rest) (before.length + i) = rawPointAt rest i := by
    simp only [rawPointAt, Nat.add_assoc, byteAt_append, numberAt_append]
  simp only [pointAt?, hraw]

theorem awardAt?_append : awardAt? (before ++ rest) (before.length + i) = awardAt? rest i := by
  simp only [awardAt?, Nat.add_assoc, byteAt_append, pointAt?_append]

end

/-! ### Award records read back (R34, R205) -/

theorem numberAt_cons (b : Byte) (p : List Byte) (i n : Nat) : numberAt (b :: p) (i + 1) n = numberAt p i n := by
  have h := numberAt_append [b] p i n
  rwa [List.length_singleton, Nat.add_comm 1 i] at h

theorem byteAt_cons (b : Byte) (p : List Byte) (i : Nat) : byteAt (b :: p) (i + 1) = byteAt p i := rfl

theorem byteAt_cons_zero (b : Byte) (p : List Byte) : byteAt (b :: p) 0 = b.toNat := rfl

theorem PointValue.inRange_iff {v : PointValue} : v.inRange = true ↔ v.mantissa ≤ 9999 ∧ v.scale ≤ 7 := by
  unfold PointValue.inRange
  rw [Bool.and_eq_true, decide_eq_true_iff, decide_eq_true_iff]

/-- A point value's bytes are read back as the point value. -/
theorem pointAt?_bytes {v : PointValue} (after : List Byte) (h : v.inRange = true) :
    pointAt? (v.bytes ++ after) 0 = some v := by
  obtain ⟨hm, hs⟩ := PointValue.inRange_iff.mp h
  have hnumber : numberAt (v.bytes ++ after) 0 2 = v.mantissa := by
    rw [PointValue.bytes, List.append_assoc]
    exact (numberAt_numberBytes [] _ 2 v.mantissa).trans (Nat.mod_eq_of_lt (by omega))
  have hscale : byteAt (v.bytes ++ after) 2 = v.scale := small_toNat (by omega)
  have hraw : rawPointAt (v.bytes ++ after) 0 = v := by simp only [rawPointAt, hnumber, Nat.zero_add, hscale]
  rw [pointAt?, hraw, if_pos h]

theorem Award.bytes_length (a : Award) : a.bytes.length = 5 := by
  cases a with
  | advance c => cases c <;> rfl
  | _ => rfl

theorem flag?_flagByte (b : Bool) : flag? (flagByte b).toNat = some b := by cases b <;> rfl

theorem index?_small {n : Nat} (i : Fin n) (h : n ≤ 256) : index? n (small i.val).toNat = some i :=
  index?_eq_some.mpr (small_toNat (by omega)).symm

theorem counterRef?_bytes (c : CounterRef) (after : List Byte) :
    counterRef? (byteAt (c.bytes ++ after) 0) (byteAt (c.bytes ++ after) 1) = some c := by
  cases c with
  | player i => exact counterRef?_player rfl (small_toNat (by omega)).symm
  | common i => exact counterRef?_common rfl (small_toNat (by omega)).symm

theorem pointAt?_cons (b : Byte) (p : List Byte) (i : Nat) : pointAt? (b :: p) (i + 1) = pointAt? p i := by
  have h := pointAt?_append [b] p i
  rwa [List.length_singleton, Nat.add_comm 1 i] at h

/-- A record within its ranges is read back from its bytes: its kind, then its operands. -/
theorem awardAt?_bytes {a : Award} (h : a.InRange) (after : List Byte) : awardAt? (a.bytes ++ after) 0 = some a := by
  cases a with
  | score v pf =>
    have hbytes : (Award.score v pf).bytes ++ after = 0 :: (v.bytes ++ flagByte pf :: after) := by simp [Award.bytes]
    have hkind : byteAt (0 :: (v.bytes ++ flagByte pf :: after)) 0 = 0 := rfl
    have hvalue : pointAt? (0 :: (v.bytes ++ flagByte pf :: after)) 1 = some v :=
      (pointAt?_cons _ _ 0).trans (pointAt?_bytes _ h)
    have hflag : byteAt (0 :: (v.bytes ++ flagByte pf :: after)) 4 = (flagByte pf).toNat := rfl
    simp only [hbytes, awardAt?, hkind, Nat.zero_add, hvalue, hflag, flag?_flagByte, Option.bind_some, Option.map_some]
  | bonus v =>
    have hbytes : (Award.bonus v).bytes ++ after = 1 :: (v.bytes ++ 0 :: after) := by simp [Award.bytes]
    have hkind : byteAt (1 :: (v.bytes ++ 0 :: after)) 0 = 1 := rfl
    have hvalue : pointAt? (1 :: (v.bytes ++ 0 :: after)) 1 = some v := (pointAt?_cons _ _ 0).trans (pointAt?_bytes _ h)
    simp only [hbytes, awardAt?, hkind, Nat.zero_add, hvalue, Option.map_some]
  | bonusMult n =>
    have hn : (small n).toNat = n := small_toNat (Nat.lt_of_le_of_lt h.2 (by decide))
    have hoperand : byteAt ((Award.bonusMult n).bytes ++ after) 1 = n := hn
    have hkind : byteAt ((Award.bonusMult n).bytes ++ after) 0 = 2 := rfl
    simp only [awardAt?, hkind, Nat.zero_add, hoperand]
    exact if_pos h
  | advance c =>
    have hbytes : (Award.advance c).bytes ++ after = 3 :: (c.bytes ++ 0 :: 0 :: after) := by simp [Award.bytes]
    have hkind : byteAt (3 :: (c.bytes ++ 0 :: 0 :: after)) 0 = 3 := rfl
    simp only [hbytes, awardAt?, hkind, Nat.zero_add, byteAt_cons, counterRef?_bytes, Option.map_some]
  | jackpot pf => exact congrArg (Option.map Award.jackpot) (flag?_flagByte pf)
  | lightLock => rfl
  | startMode t => exact congrArg (Option.map Award.startMode) (index?_small t (by decide))
  | extraBall => rfl

theorem awardsAt?_bytes : ∀ (l : List Award) (before after : List Byte), (∀ a ∈ l, a.InRange) →
    awardsAt? (before ++ (l.flatMap Award.bytes ++ after)) before.length l.length = some l := by
  intro l
  induction l with
  | nil => intro before after _; rfl
  | cons a l ih =>
    intro before after h
    have hhead : awardAt? (before ++ ((a :: l).flatMap Award.bytes ++ after)) before.length = some a := by
      rw [List.flatMap_cons, List.append_assoc]
      exact (awardAt?_append before _ 0).trans (awardAt?_bytes (h a List.mem_cons_self) _)
    have htail := ih (before ++ a.bytes) after fun b hb => h b (List.mem_cons_of_mem _ hb)
    rw [List.length_append, a.bytes_length, List.append_assoc, ← List.append_assoc a.bytes, ← List.flatMap_cons] at htail
    rw [List.length_cons, awardsAt?, hhead, Option.bind_some, htail, Option.map_some]

/-! ### Rule entries read back (R33, R39, R206) -/

theorem edge?_code (e : Edge) : edge? e.code.toNat = some e := by cases e <;> rfl

section
variable {sw : Fin 128} {r : Rule} {l : List Award}

/-- The award list of an entry, behind its six bytes. -/
theorem awardsAt?_entry (x0 x1 x2 x3 x4 : Byte) (h4 : l.length ≤ 4) (h : ∀ a ∈ l, a.InRange) :
    byteAt (x0 :: x1 :: x2 :: x3 :: x4 :: awardListBytes l) 5 = l.length ∧
    awardsAt? (x0 :: x1 :: x2 :: x3 :: x4 :: awardListBytes l) 6
      (byteAt (x0 :: x1 :: x2 :: x3 :: x4 :: awardListBytes l) 5) = some l := by
  have hcount : byteAt (x0 :: x1 :: x2 :: x3 :: x4 :: awardListBytes l) 5 = l.length := small_toNat (by omega)
  refine ⟨hcount, ?_⟩
  have hlist := awardsAt?_bytes l [x0, x1, x2, x3, x4, small l.length] [] h
  rw [List.append_nil] at hlist
  rw [hcount]
  exact hlist

/-- An entry within its ranges is read back from its bytes. -/
theorem rule?_bytes (h : r.InRange) : rule? (small sw.val :: r.bytes) = some r := by
  cases r with
  | ignored => rfl
  | scoring e g l =>
    obtain ⟨hl, ha⟩ := h
    have hlist := (awardsAt?_entry (small sw.val) 1 absentMark e.code (small g.val) hl ha).2
    have hclass : byteAt (small sw.val :: (Rule.scoring e g l).bytes) 1 = 1 := rfl
    have hedge : edge? (byteAt (small sw.val :: (Rule.scoring e g l).bytes) 3) = some e := edge?_code e
    have hgroup : index? 16 (byteAt (small sw.val :: (Rule.scoring e g l).bytes) 4) = some g := index?_small g (by decide)
    have hlist : awardsAt? (small sw.val :: (Rule.scoring e g l).bytes) 6
      (byteAt (small sw.val :: (Rule.scoring e g l).bytes) 5) = some l := hlist
    simp only [rule?, hclass, hedge, hgroup, hlist, if_pos hl]
  | deviceEntry d g l =>
    obtain ⟨hl, ha⟩ := h
    have hlist := (awardsAt?_entry (small sw.val) 2 (small d.val) absentMark (small g.val) hl ha).2
    have hclass : byteAt (small sw.val :: (Rule.deviceEntry d g l).bytes) 1 = 2 := rfl
    have hdevice : index? 6 (byteAt (small sw.val :: (Rule.deviceEntry d g l).bytes) 2) = some d :=
      index?_small d (by decide)
    have hgroup : index? 16 (byteAt (small sw.val :: (Rule.deviceEntry d g l).bytes) 4) = some g :=
      index?_small g (by decide)
    have hlist : awardsAt? (small sw.val :: (Rule.deviceEntry d g l).bytes) 6
      (byteAt (small sw.val :: (Rule.deviceEntry d g l).bytes) 5) = some l := hlist
    simp only [rule?, hclass, hdevice, hgroup, hlist, if_pos hl]
  | deviceExit d =>
    have hclass : byteAt (small sw.val :: (Rule.deviceExit d).bytes) 1 = 3 := rfl
    have hdevice : index? 6 (byteAt (small sw.val :: (Rule.deviceExit d).bytes) 2) = some d := index?_small d (by decide)
    have hcount : byteAt (small sw.val :: (Rule.deviceExit d).bytes) 5 = 0 := rfl
    simp only [rule?, hclass, hdevice, hcount, if_true]

theorem awardListBytes_length (l : List Award) : (awardListBytes l).length = 1 + 5 * l.length := by
  have hflat : (l.flatMap Award.bytes).length = 5 * l.length := by
    induction l with
    | nil => rfl
    | cons a l ih => rw [List.flatMap_cons, List.length_append, a.bytes_length, ih, List.length_cons]; omega
  rw [awardListBytes, List.length_cons, hflat, Nat.add_comm]

/-- The length of an entry's payload is the one its count byte asks for, and a transaction can carry it (R200). -/
theorem Rule.bytes_length (h : r.InRange) :
    (small sw.val :: r.bytes).length = 6 + 5 * byteAt (small sw.val :: r.bytes) 5 ∧
    6 + 5 * byteAt (small sw.val :: r.bytes) 5 ≤ 62 := by
  cases r with
  | ignored => exact ⟨rfl, Nat.le_of_ble_eq_true rfl⟩
  | deviceExit d => exact ⟨rfl, Nat.le_of_ble_eq_true rfl⟩
  | scoring e g l =>
    obtain ⟨hl, ha⟩ := h
    have hcount : byteAt (small sw.val :: (Rule.scoring e g l).bytes) 5 = l.length :=
      (awardsAt?_entry (small sw.val) 1 absentMark e.code (small g.val) hl ha).1
    rw [hcount]
    refine ⟨?_, by omega⟩
    simp only [Rule.bytes, List.length_cons, List.length_append, List.length_nil, awardListBytes_length]
    omega
  | deviceEntry d g l =>
    obtain ⟨hl, ha⟩ := h
    have hcount : byteAt (small sw.val :: (Rule.deviceEntry d g l).bytes) 5 = l.length :=
      (awardsAt?_entry (small sw.val) 2 (small d.val) absentMark (small g.val) hl ha).1
    rw [hcount]
    refine ⟨?_, by omega⟩
    simp only [Rule.bytes, List.length_cons, List.length_append, List.length_nil, awardListBytes_length]
    omega

end

/-! ### Entries refused (R34, R35) -/

section
variable {p : List Byte}

theorem awardAt?_eq_none {j : Nat} (h : 7 < byteAt p j ∨
    ((byteAt p j = 0 ∨ byteAt p j = 1) ∧ (9999 < numberAt p (j + 1) 2 ∨ 7 < byteAt p (j + 3))) ∨
    (byteAt p j = 0 ∧ 1 < byteAt p (j + 4)) ∨
    (byteAt p j = 2 ∧ (byteAt p (j + 1) = 0 ∨ 9 < byteAt p (j + 1))) ∨
    (byteAt p j = 3 ∧ (1 < byteAt p (j + 1) ∨ (byteAt p (j + 1) = 0 ∧ 15 < byteAt p (j + 2)) ∨
      31 < byteAt p (j + 2))) ∨
    (byteAt p j = 4 ∧ 1 < byteAt p (j + 1)) ∨ (byteAt p j = 6 ∧ 31 < byteAt p (j + 1))) : awardAt? p j = none := by
  have point : 9999 < numberAt p (j + 1) 2 ∨ 7 < byteAt p (j + 3) → pointAt? p (j + 1) = none := pointAt?_eq_none
  unfold awardAt?
  split
  · next hk =>
    have hk : (9999 < numberAt p (j + 1) 2 ∨ 7 < byteAt p (j + 3)) ∨ 1 < byteAt p (j + 4) := by omega
    rcases hk with hk | hk
    · rw [point hk, Option.bind_none]
    · rw [flag?_eq_none hk]
      cases pointAt? p (j + 1) <;> rfl
  · next hk => rw [point (by omega), Option.map_none]
  · exact if_neg (by omega)
  · rw [counterRef?_none (by omega), Option.map_none]
  · rw [flag?_eq_none (by omega), Option.map_none]
  · omega
  · rw [index?_eq_none.mpr (by omega), Option.map_none]
  · omega
  · rfl

/-- One record refused refuses the list. -/
theorem awardsAt?_eq_none {i n k : Nat} (hk : k < n) (h : awardAt? p (i + 5 * k) = none) : awardsAt? p i n = none := by
  induction n generalizing i k with
  | zero => cases hk
  | succ n ih =>
    rw [awardsAt?]
    cases k with
    | zero => rw [show awardAt? p i = none from h, Option.bind_none]
    | succ k =>
      rw [ih (Nat.lt_of_succ_lt_succ hk) (by rwa [Nat.add_assoc, Nat.add_comm 5, ← Nat.mul_succ])]
      cases awardAt? p i <;> rfl

theorem awardsAt?_length {i n : Nat} {l : List Award} (h : awardsAt? p i n = some l) : l.length = n := by
  induction n generalizing i l with
  | zero => cases h; rfl
  | succ n ih =>
    rw [awardsAt?, Option.bind_eq_some_iff] at h
    obtain ⟨a, -, h⟩ := h
    obtain ⟨l', hl', rfl⟩ := Option.map_eq_some_iff.mp h
    rw [List.length_cons, ih hl']

theorem edge?_eq_none {v : Nat} (h : 1 < v) : edge? v = none := by
  unfold edge?
  split
  · omega
  · omega
  · rfl

/-- A class other than IGNORED with a field outside its range. -/
theorem rule?_eq_none (h : 4 ≤ byteAt p 1 ∨ (byteAt p 1 ≠ 0 ∧ 4 < byteAt p 5) ∨ (byteAt p 1 = 1 ∧ 1 < byteAt p 3) ∨
    ((byteAt p 1 = 1 ∨ byteAt p 1 = 2) ∧ 15 < byteAt p 4) ∨ ((byteAt p 1 = 2 ∨ byteAt p 1 = 3) ∧ 5 < byteAt p 2) ∨
    (byteAt p 1 = 3 ∧ 0 < byteAt p 5) ∨
    ((byteAt p 1 = 1 ∨ byteAt p 1 = 2) ∧ awardsAt? p 6 (byteAt p 5) = none)) : rule? p = none := by
  unfold rule?
  split
  · omega
  · split
    · next e g l he hg hl =>
      have hedge : byteAt p 3 ≤ 1 := Nat.le_of_not_lt fun hc => nomatch he.symm.trans (edge?_eq_none hc)
      have hgroup := index?_eq_some.mp hg
      have hlength := awardsAt?_length hl
      simp only [hl, reduceCtorEq, and_false, or_false] at h
      exact if_neg (by omega)
    · rfl
  · split
    · next d g l hd hg hl =>
      have hdevice := index?_eq_some.mp hd
      have hgroup := index?_eq_some.mp hg
      have hlength := awardsAt?_length hl
      simp only [hl, reduceCtorEq, and_false, or_false] at h
      exact if_neg (by omega)
    · rfl
  · split
    · next d hd =>
      have hdevice := index?_eq_some.mp hd
      exact if_neg (by omega)
    · rfl
  · rfl

end

/-! ### Agreement with the device table (R36) -/

section
variable {s : State} {sw : Fin 128} {d : Fin 6}

theorem State.switchNamed_eq_false_iff : s.switchNamed sw = false ↔ ∀ (c : Fin 6) (y : DeviceDef),
    (s.bdt.devices[c]).definition = some y → y.entrySwitch ≠ sw ∧ y.exitSwitch ≠ sw := by
  simp only [State.switchNamed, List.any_eq_false, List.mem_finRange, true_implies, State.device]
  refine forall_congr' fun c => ?_
  cases hc : (s.bdt.devices[c]).definition with
  | none => simp
  | some y => simp

theorem State.entersAt_iff :
    s.entersAt d sw = true ↔ ∃ y, (s.bdt.devices[d]).definition = some y ∧ y.entrySwitch = sw := by
  simp only [State.entersAt, State.device]
  cases hd : (s.bdt.devices[d]).definition with
  | none => simp
  | some y => simp

theorem State.leavesAt_iff :
    s.leavesAt d sw = true ↔ ∃ y, (s.bdt.devices[d]).definition = some y ∧ y.exitSwitch = sw := by
  simp only [State.leavesAt, State.device]
  cases hd : (s.bdt.devices[d]).definition with
  | none => simp
  | some y => simp

theorem State.ruleAgrees_scoring_iff {e : Edge} {g : Fin 16} {l : List Award} :
    s.ruleAgrees sw (.scoring e g l) = true ↔ ∀ (c : Fin 6) (y : DeviceDef),
      (s.bdt.devices[c]).definition = some y → y.entrySwitch ≠ sw ∧ y.exitSwitch ≠ sw := by
  rw [← State.switchNamed_eq_false_iff, State.ruleAgrees, Bool.not_eq_true']

end

/-! ### DEFINE_RULE and READ_RULE (R35 to R39) -/

section
variable {s : State} {p : List Byte} {sw : Fin 128} {r : Rule} {b : Byte}

theorem defineRule_agrees (hsw : sw.val = byteAt p 0) (hr : rule? p = some r) (h : s.ruleAgrees sw r = true) :
    defineRule p s = ({ s with evl := ⟨s.evl.rules.set sw.val r sw.isLt⟩ }, .bare .ok) := by
  simp only [defineRule, index?_eq_some.mpr hsw, hr, if_pos h]

theorem defineRule_disagrees (hsw : sw.val = byteAt p 0) (hr : rule? p = some r) (h : s.ruleAgrees sw r = false) :
    defineRule p s = (s, .bare .outOfRange) := by
  simp only [defineRule, index?_eq_some.mpr hsw, hr, h, Bool.false_eq_true, if_false]

theorem defineRule_outOfRange (h : 128 ≤ byteAt p 0 ∨ rule? p = none) : defineRule p s = (s, .bare .outOfRange) := by
  unfold defineRule
  split
  · next sw r hsw hr =>
    have := index?_eq_some.mp hsw
    rw [hr] at h
    exact absurd h (by simp; omega)
  · rfl

theorem rule?_ignored (h : byteAt p 1 = 0) : rule? p = some .ignored := by simp only [rule?, h]

theorem readRule_present : readRule [small sw.val] s = (s, .ok (s.evl.rules[sw]).bytes) := by
  have hsw : index? 128 (byteAt [small sw.val] 0) = some sw := index?_small sw (by decide)
  simp only [readRule, hsw]

theorem readRule_outOfRange (h : 128 ≤ b.toNat) : readRule [b] s = (s, .bare .outOfRange) := by
  have hsw : index? 128 (byteAt [b] 0) = none := index?_eq_none.mpr h
  simp only [readRule, hsw]

theorem exec_readRule_present (hw : s.glk.waiting = false) (hr : s.evl.rules[sw] = r) :
    exec (.readRule [small sw.val]) s = .next (s.answer 0x0A .ok r.bytes) :=
  hr ▸ takeRequest_answers hw readRule_present

theorem exec_defineRule (hw : s.glk.waiting = false) (hi : s.gpc.game = .idle) {t : State} {st : Status} {q : List Byte}
    (hl : p.length = 6 + 5 * byteAt p 5) (h11 : byteAt p 5 ≤ 11) (ho : defineRule p s = (t, ⟨st, q⟩)) :
    exec (.defineRule p) s = .next (t.answer 0x60 st q) :=
  takeRequest_configures hw hi ho hl (by omega)

end

/-- Settles O57: agreement with the device table by the class of the entry, the read of an entry class by class, and
DEFINE_RULE through the reading of its payload: an entry's bytes are read back as the entry (`rule?_bytes`). -/
theorem rulesReadBackAsDefined : Obligations.RulesReadBackAsDefined := by
  unfold Obligations.RulesReadBackAsDefined
  intro s hw
  refine ⟨fun sw => ⟨rfl, fun e g l => State.ruleAgrees_scoring_iff, fun d g l => State.entersAt_iff,
    fun d => State.leavesAt_iff⟩, fun sw => ?_, fun hi sw r hr => ⟨fun ha => ?_, fun ha => ?_⟩,
    fun hi p hl h11 => ⟨fun h => ?_, fun h => ?_, fun i j h1 hlt hj h => ?_, fun sw hsw h => ?_⟩,
    fun b hb => takeRequest_answers hw (readRule_outOfRange hb)⟩
  · refine (exec_readRule_present hw rfl).trans ?_
    split
    · next h => rw [h]; rfl
    · next h => rw [h]; rfl
    · next h => rw [h]; rfl
    · next h => rw [h]; rfl
  · obtain ⟨hl, h62⟩ := Rule.bytes_length (sw := sw) hr
    have hsw : sw.val = byteAt (small sw.val :: r.bytes) 0 := (small_toNat (by omega)).symm
    refine ⟨_, exec_defineRule hw hi hl (by omega) (defineRule_agrees hsw (rule?_bytes hr) ha), rfl, ?_⟩
    exact exec_readRule_present hw (Vector.getElem_set_self sw.isLt)
  · obtain ⟨hl, h62⟩ := Rule.bytes_length (sw := sw) hr
    have hsw : sw.val = byteAt (small sw.val :: r.bytes) 0 := (small_toNat (by omega)).symm
    exact exec_defineRule hw hi hl (by omega) (defineRule_disagrees hsw (rule?_bytes hr) ha)
  · refine exec_defineRule hw hi hl h11 (defineRule_outOfRange ?_)
    rcases h with h | h | h
    · exact .inl h
    · exact .inr (rule?_eq_none (.inl h))
    · exact .inr (rule?_eq_none (.inr (.inl h)))
  · exact exec_defineRule hw hi hl h11 (defineRule_outOfRange (.inr (rule?_eq_none (by omega))))
  · have hnone : awardsAt? p 6 (byteAt p 5) = none := awardsAt?_eq_none hlt (hj ▸ awardAt?_eq_none h)
    refine exec_defineRule hw hi hl h11 (defineRule_outOfRange (.inr (rule?_eq_none ?_)))
    rcases Nat.lt_or_ge (byteAt p 1) 3 with h3 | h3
    · exact .inr (.inr (.inr (.inr (.inr (.inr ⟨by omega, hnone⟩)))))
    · omega
  · exact exec_defineRule hw hi hl h11 (defineRule_agrees hsw (rule?_ignored h) rfl)

end Sys2Proof.Machine
end

section
/-! PROOFS. DEFINE_TEMPLATE (05, 5.1): the fields read from a payload, and the payloads refused. -/

namespace Sys2Proof.Machine

/-! ### What a field read says of its bytes (R203) -/

section
variable {p : List Byte} {i v : Nat}

theorem flag?_eq_some {b : Bool} : flag? v = some b ↔ b.toNat = v := by
  refine ⟨fun h => ?_, fun h => h ▸ flag?_toNat b⟩
  unfold flag? at h
  split at h
  · cases h; rfl
  · cases h; rfl
  · nomatch h

theorem flag?_le_one {b : Bool} (h : flag? v = some b) : v ≤ 1 := flag?_eq_some.mp h ▸ Bool.toNat_le b

theorem pointAt?_eq_some_iff {x : PointValue} :
    pointAt? p i = some x ↔ x = ⟨numberAt p i 2, byteAt p (i + 2)⟩ ∧ x.inRange = true := by
  unfold pointAt?
  split
  · next h => exact ⟨fun hx => (Option.some.inj hx) ▸ ⟨rfl, h⟩, fun ⟨hx, _⟩ => congrArg some hx.symm⟩
  · next h => exact ⟨nofun, fun ⟨hx, hr⟩ => by subst hx; exact absurd hr h⟩

theorem pointAt?_bounds {x : PointValue} (h : pointAt? p i = some x) :
    numberAt p i 2 ≤ 9999 ∧ byteAt p (i + 2) ≤ 7 := by
  obtain ⟨rfl, hx⟩ := pointAt?_eq_some_iff.mp h
  exact PointValue.inRange_iff.mp hx

theorem nextTemplate?_le {x : Option (Fin 32)} (h : nextTemplate? v = some x) : v < 32 ∨ v = 255 := by
  unfold nextTemplate? at h
  split at h
  · next hv => exact .inr hv
  · obtain ⟨j, hj, -⟩ := Option.map_eq_some_iff.mp h
    exact .inl ((index?_eq_some.mp hj) ▸ j.isLt)

theorem nextTemplate?_none : nextTemplate? 255 = some none := rfl

theorem nextTemplate?_some (j : Fin 32) : nextTemplate? j.val = some (some j) := by
  rw [nextTemplate?, if_neg (by omega), index?_eq_some.mpr rfl, Option.map_some]

end

/-! ### The kind and its fields (R75) -/

section
variable {p : List Byte} {start : PointValue}

theorem shotFields?_eq_none (h : 1 < byteAt p 13 ∨ 9999 < numberAt p 15 2 ∨ 7 < byteAt p 17) :
    shotFields? p = none := by
  unfold shotFields?
  split
  · next r c hr hc =>
    have hbounds : numberAt p 15 2 ≤ 9999 ∧ byteAt p 17 ≤ 7 := pointAt?_bounds hc
    have := flag?_le_one hr
    omega
  · rfl

theorem hurryFields?_eq_none (h : 9999 < numberAt p 24 2 ∨ 7 < byteAt p 26 ∨ byteAt p 27 = 0 ∨ 7 < byteAt p 28 ∨
    numberAt p 29 2 = 0 ∨ start.worth < numberAt p 24 2 * 10 ^ byteAt p 26) : hurryFields? p start = none := by
  unfold hurryFields?
  split
  · next f hf =>
    have hbounds : numberAt p 24 2 ≤ 9999 ∧ byteAt p 26 ≤ 7 := pointAt?_bounds hf
    obtain ⟨rfl, -⟩ := pointAt?_eq_some_iff.mp hf
    refine if_neg fun ⟨hworth, hrest⟩ => ?_
    have hworth : numberAt p 24 2 * 10 ^ byteAt p 26 ≤ start.worth := hworth
    omega
  · rfl

theorem templateKind?_eq_none (h : 2 < byteAt p 3 ∨
    (byteAt p 3 ≤ 1 ∧ (1 < byteAt p 13 ∨ 9999 < numberAt p 15 2 ∨ 7 < byteAt p 17)) ∨
    (byteAt p 3 = 2 ∧ (9999 < numberAt p 24 2 ∨ 7 < byteAt p 26 ∨ byteAt p 27 = 0 ∨ 7 < byteAt p 28 ∨
      numberAt p 29 2 = 0 ∨ start.worth < numberAt p 24 2 * 10 ^ byteAt p 26))) : templateKind? p start = none := by
  unfold templateKind?
  split
  · rw [shotFields?_eq_none (by omega), Option.map_none]
  · rw [shotFields?_eq_none (by omega), Option.map_none]
  · rw [hurryFields?_eq_none (by omega), Option.map_none]
  · rfl

theorem shotFields?_eq_some {f : ShotFields} (hd : f.duration = numberAt p 11 2) (hr : f.retrigger.toNat = byteAt p 13)
    (ht : f.targetHits = byteAt p 14) (hc : f.completionValue = ⟨numberAt p 15 2, byteAt p 17⟩)
    (hin : f.completionValue.inRange = true) : shotFields? p = some f := by
  rw [shotFields?, flag?_eq_some.mpr hr, pointAt?_eq_some_iff.mpr ⟨hc, hin⟩, ← hd, ← ht]

theorem hurryFields?_eq_some {f : HurryFields}
    (hf : f = ⟨⟨numberAt p 24 2, byteAt p 26⟩, byteAt p 27, byteAt p 28, numberAt p 29 2⟩) (hin : f.floor.inRange = true)
    (hdecay : 1 ≤ f.decay) (hunit : f.unitExponent ≤ 7) (hperiod : 1 ≤ f.decayPeriod)
    (hworth : f.floor.worth ≤ start.worth) : hurryFields? p start = some f := by
  subst hf
  rw [hurryFields?, pointAt?_eq_some_iff.mpr ⟨rfl, hin⟩]
  exact if_pos ⟨hworth, Nat.ne_of_gt hdecay, hunit, Nat.ne_of_gt hperiod⟩

end

/-! ### The template (R75, R76) -/

section
variable {s : State} {p : List Byte}

/-- A field that every kind has, or that its own kind has, outside its range. -/
theorem template?_eq_none (h : 15 < byteAt p 2 ∨ 2 < byteAt p 3 ∨ 9999 < numberAt p 6 2 ∨ 7 < byteAt p 8 ∨
    byteAt p 9 = 0 ∨ 10 < byteAt p 9 ∨
    1 < byteAt p 10 ∨ (32 ≤ byteAt p 18 ∧ byteAt p 18 ≠ 255) ∨ (32 ≤ byteAt p 19 ∧ byteAt p 19 ≠ 255) ∨
    7 < byteAt p 20 ∨ 1 < byteAt p 21 ∨ 1 < byteAt p 22 ∨ 1 < byteAt p 23 ∨
    (byteAt p 3 ≤ 1 ∧ (1 < byteAt p 13 ∨ 9999 < numberAt p 15 2 ∨ 7 < byteAt p 17)) ∨
    (byteAt p 3 = 2 ∧ (9999 < numberAt p 24 2 ∨ 7 < byteAt p 26 ∨ byteAt p 27 = 0 ∨ 7 < byteAt p 28 ∨
      numberAt p 29 2 = 0 ∨ numberAt p 6 2 * 10 ^ byteAt p 8 < numberAt p 24 2 * 10 ^ byteAt p 26))) :
    template? p = none := by
  unfold template?
  split
  · next v a c t g ca mb ig hv ha hc ht hg hca hmb hig =>
    have hvalue : numberAt p 6 2 ≤ 9999 ∧ byteAt p 8 ≤ 7 := pointAt?_bounds hv
    obtain ⟨rfl, -⟩ := pointAt?_eq_some_iff.mp hv
    have hflags := And.intro (flag?_le_one ha) (And.intro (flag?_le_one hca) (And.intro (flag?_le_one hmb) (flag?_le_one hig)))
    have hnext := And.intro (nextTemplate?_le hc) (nextTemplate?_le ht)
    have hgroup := index?_eq_some.mp hg
    split
    · next kind hk =>
      refine if_neg fun hbounds => ?_
      have hnone : templateKind? p ⟨numberAt p 6 2, byteAt p (6 + 2)⟩ = none := templateKind?_eq_none <| by
        have hworth : PointValue.worth ⟨numberAt p 6 2, byteAt p (6 + 2)⟩ = numberAt p 6 2 * 10 ^ byteAt p 8 := rfl
        omega
      nomatch hk.symm.trans hnone
    · rfl
  · rfl

/-- The kind of a template whose fields stand in the payload. -/
theorem templateKind?_eq_some {tm : Template}
    (hshot : ∀ f : ShotFields, f.duration = numberAt p 11 2 → f.retrigger.toNat = byteAt p 13 →
      f.targetHits = byteAt p 14 → f.completionValue = ⟨numberAt p 15 2, byteAt p 17⟩ →
      f.completionValue.inRange = true →
      (byteAt p 3 = 0 → tm.kind = .exclusive f) ∧ (byteAt p 3 = 1 → tm.kind = .additive f))
    (hrange : byteAt p 3 ≤ 1 → byteAt p 13 ≤ 1 ∧ numberAt p 15 2 ≤ 9999 ∧ byteAt p 17 ≤ 7)
    (hhurry : 1 < byteAt p 3 → byteAt p 3 = 2 ∧ ∃ f : HurryFields, tm.kind = .hurry f ∧
      f = ⟨⟨numberAt p 24 2, byteAt p 26⟩, byteAt p 27, byteAt p 28, numberAt p 29 2⟩ ∧
      f.floor.inRange = true ∧ 1 ≤ f.decay ∧ f.unitExponent ≤ 7 ∧ 1 ≤ f.decayPeriod ∧
      f.floor.mantissa * 10 ^ f.floor.scale ≤ tm.value.mantissa * 10 ^ tm.value.scale) :
    templateKind? p tm.value = some tm.kind := by
  rcases Nat.lt_or_ge 1 (byteAt p 3) with h3 | h3
  · obtain ⟨h3, f, hkind, hf, hin, hdecay, hunit, hperiod, hworth⟩ := hhurry h3
    simp only [templateKind?, h3, hurryFields?_eq_some hf hin hdecay hunit hperiod hworth, Option.map_some, hkind]
  · obtain ⟨h13, h15, h17⟩ := hrange h3
    have hin : PointValue.inRange ⟨numberAt p 15 2, byteAt p 17⟩ = true := PointValue.inRange_iff.mpr ⟨h15, h17⟩
    have hretrigger : (decide (byteAt p 13 = 1)).toNat = byteAt p 13 := by
      rcases Nat.le_one_iff_eq_zero_or_eq_one.mp h13 with h | h <;> rw [h] <;> rfl
    obtain ⟨hexclusive, hadditive⟩ := hshot ⟨numberAt p 11 2, decide (byteAt p 13 = 1), byteAt p 14,
      ⟨numberAt p 15 2, byteAt p 17⟩⟩ rfl hretrigger rfl rfl hin
    have hfields := shotFields?_eq_some (f := ⟨numberAt p 11 2, decide (byteAt p 13 = 1), byteAt p 14,
      ⟨numberAt p 15 2, byteAt p 17⟩⟩) rfl hretrigger rfl rfl hin
    rcases Nat.le_one_iff_eq_zero_or_eq_one.mp h3 with h | h
    · simp only [templateKind?, h, hfields, Option.map_some, hexclusive h]
    · simp only [templateKind?, h, hfields, Option.map_some, hadditive h]

/-- The claim set of a payload is the set of group numbers its bits name. -/
theorem claims_eq {claims : BitVec 16} {n : Nat} (h : ∀ g : Fin 16, claims.getLsbD g.val = n.testBit g.val) :
    BitVec.ofNat 16 n = claims :=
  BitVec.eq_of_getLsbD_eq fun g hg => by rw [BitVec.getLsbD_ofNat, decide_eq_true hg, Bool.true_and, h ⟨g, hg⟩]

theorem nextTemplate?_eq_some {v : Nat} : ∀ {x : Option (Fin 32)},
    (match x with | none => v = 255 | some j => v = j.val) → nextTemplate? v = some x
  | none, h => by rw [show v = 255 from h, nextTemplate?_none]
  | some j, h => by rw [show v = j.val from h, nextTemplate?_some]

theorem defineTemplate_refused (h : 32 ≤ byteAt p 0 ∨ templateEntry? p = none) :
    defineTemplate p s = (s, .bare .outOfRange) := by
  unfold defineTemplate
  split
  · next t x ht hx =>
    have := index?_eq_some.mp ht
    simp only [hx, reduceCtorEq, or_false] at h
    omega
  · rfl

theorem defineTemplate_defines {i : Fin 32} {x : Option Template} (hi : i.val = byteAt p 0)
    (hx : templateEntry? p = some x) : defineTemplate p s =
      ({ s with mst := { s.mst with templates := s.mst.templates.set i.val x i.isLt } }, .bare .ok) := by
  simp only [defineTemplate, index?_eq_some.mpr hi, hx]

end

/-- Settles O58: the payload read as a template or refused, field by field. -/
theorem defineTemplateReplacesTheTemplate : Obligations.DefineTemplateReplacesTheTemplate := by
  unfold Obligations.DefineTemplateReplacesTheTemplate
  intro s p hw hidle hl
  refine ⟨fun h => takeRequest_configures hw hidle (defineTemplate_refused ?_) hl,
    fun h1 h => takeRequest_configures hw hidle (defineTemplate_refused (.inr ?_)) hl,
    fun i x hi h => takeRequest_configures hw hidle (defineTemplate_defines hi ?_) hl⟩
  · exact h.imp_right fun h => by rw [templateEntry?, flag?_eq_none h]
  · simp only [templateEntry?, flag?_eq_some (b := true) |>.mpr h1.symm, template?_eq_none h, Option.map_none]
  · rcases h with ⟨h1, rfl⟩ | ⟨h1, tm, rfl, hprio, h15, hclaims, hvalue, hvin, hmult, hm1, hm10, hpf, hcomp, htime,
      hgroup, hcarries, hmb, hrefresh, hshot, hrange, hhurry⟩
    · simp only [templateEntry?, flag?_eq_some (b := false) |>.mpr h1.symm]
    · have hkind := templateKind?_eq_some hshot hrange hhurry
      have htm : template? p = some tm := by
        simp only [template?, pointAt?_eq_some_iff.mpr ⟨hvalue, hvin⟩, flag?_eq_some.mpr hpf, nextTemplate?_eq_some hcomp,
          nextTemplate?_eq_some htime, index?_eq_some.mpr hgroup, flag?_eq_some.mpr hcarries, flag?_eq_some.mpr hmb,
          flag?_eq_some.mpr hrefresh, hkind, h15, hm1, hm10, and_self, if_true,
          Bool.not_not, claims_eq hclaims, ← hprio, ← hmult]
      simp only [templateEntry?, flag?_eq_some (b := true) |>.mpr h1.symm, htm, Option.map_some]

end Sys2Proof.Machine
end

section
/-! PROOFS. Parameters (04, 07, 09): SET_GAME_PARAMS, SET_LOCK_PARAMS, DEFINE_THRESHOLDS and READ_PARAMS. -/

namespace Sys2Proof.Machine

/-! ### Payloads written back (R203) -/

theorem small_toNat_self (b : Byte) : small b.toNat = b := BitVec.ofNat_toNat _ b

theorem byteAt_getElem {p : List Byte} {i : Nat} (h : i < p.length) : small (byteAt p i) = p[i] := by
  rw [byteAt, List.getD_eq_getElem?_getD, List.getElem?_eq_getElem h, Option.getD_some, small_toNat_self]

theorem numberBytes_numberAt (p : List Byte) (n : Nat) : ∀ i, i + n ≤ p.length →
    numberBytes n (numberAt p i n) = (p.drop i).take n := by
  induction n with
  | zero => intro i _; rfl
  | succ n ih =>
    intro i h
    have hi : i < p.length := by omega
    have hlow := byteAt_lt p i
    have hdiv : (byteAt p i + 256 * numberAt p (i + 1) n) / 256 = numberAt p (i + 1) n := by omega
    have hbyte : BitVec.ofNat 8 (byteAt p i + 256 * numberAt p (i + 1) n) = p[i] := by
      rw [← byteAt_getElem hi, small]
      exact BitVec.eq_of_toNat_eq (by simp only [BitVec.toNat_ofNat]; omega)
    rw [numberAt, numberBytes, hdiv, hbyte, ih (i + 1) (by omega), List.drop_eq_getElem_cons hi, List.take_succ_cons]

/-! ### The game parameters (R107, R166) -/

section
variable {s : State} {p : List Byte}

theorem GameParams.bytes_payload (h : p.length = 5) :
    GameParams.bytes ⟨byteAt p 0, byteAt p 1, byteAt p 2, numberAt p 3 2⟩ = p := by
  rw [GameParams.bytes, byteAt_getElem (by omega), byteAt_getElem (by omega), byteAt_getElem (by omega),
    numberBytes_numberAt p 2 3 (by omega)]
  match p, h with
  | [a, b, c, d, e], _ => rfl

theorem setGameParams_accepted (h : 1 ≤ byteAt p 0 ∧ byteAt p 0 ≤ 10 ∧ 1 ≤ byteAt p 1 ∧ byteAt p 1 ≤ 6 ∧
    1 ≤ byteAt p 2 ∧ byteAt p 2 ≤ 12) : setGameParams p s = ({ s with
      gpc := { s.gpc with params := ⟨byteAt p 0, byteAt p 1, byteAt p 2, numberAt p 3 2⟩ }
      bdt := { s.bdt with tracking := if byteAt p 2 ≠ s.gpc.params.installed ∧ s.bdt.tracking = .ok
        then .uncounted else s.bdt.tracking } }, .bare .ok) := by
  have hx : gameParams? p = some ⟨byteAt p 0, byteAt p 1, byteAt p 2, numberAt p 3 2⟩ := if_pos h
  simp only [setGameParams, hx]

theorem setGameParams_refused (h : ¬ (1 ≤ byteAt p 0 ∧ byteAt p 0 ≤ 10 ∧ 1 ≤ byteAt p 1 ∧ byteAt p 1 ≤ 6 ∧
    1 ≤ byteAt p 2 ∧ byteAt p 2 ≤ 12)) : setGameParams p s = (s, .bare .outOfRange) := by
  have hx : gameParams? p = none := if_neg h
  simp only [setGameParams, hx]

/-! ### The lock parameters (R126) -/

/-- The lock parameters a payload spells out. -/
def lockParamsAt (p : List Byte) : LockParams :=
  ⟨byteAt p 0, byteAt p 1, byteAt p 2, decide (byteAt p 3 = 0), numberAt p 4 2, ⟨numberAt p 6 2, byteAt p 8⟩,
    ⟨numberAt p 9 2, byteAt p 11⟩, ⟨numberAt p 12 2, byteAt p 14⟩⟩

theorem flagByte_not_decide {v : Nat} (h : v ≤ 1) : flagByte (!decide (v = 0)) = small v := by
  rcases Nat.le_one_iff_eq_zero_or_eq_one.mp h with rfl | rfl <;> rfl

theorem LockParams.bytes_payload (h : p.length = 15) (h3 : byteAt p 3 ≤ 1) : (lockParamsAt p).bytes = p := by
  rw [LockParams.bytes, lockParamsAt, flagByte_not_decide h3]
  simp only [PointValue.bytes]
  rw [byteAt_getElem (i := 0) (by omega), byteAt_getElem (i := 1) (by omega), byteAt_getElem (i := 2) (by omega),
    byteAt_getElem (i := 3) (by omega), byteAt_getElem (i := 8) (by omega), byteAt_getElem (i := 11) (by omega),
    byteAt_getElem (i := 14) (by omega), numberBytes_numberAt p 2 4 (by omega), numberBytes_numberAt p 2 6 (by omega),
    numberBytes_numberAt p 2 9 (by omega), numberBytes_numberAt p 2 12 (by omega)]
  match p, h with
  | [_, _, _, _, _, _, _, _, _, _, _, _, _, _, _], _ => rfl

theorem setLockParams_accepted (h : 1 ≤ byteAt p 0 ∧ byteAt p 0 ≤ 6 ∧ 2 ≤ byteAt p 1 ∧ byteAt p 1 ≤ 6 ∧
      byteAt p 1 ≤ s.gpc.params.installed ∧ 1 ≤ byteAt p 2 ∧ byteAt p 2 ≤ 6 ∧
      (lockParamsAt p).jackpotBase.worth ≤ (lockParamsAt p).jackpotMax.worth)
    (h3 : byteAt p 3 ≤ 1) (hbase : (lockParamsAt p).jackpotBase.inRange = true)
    (hstep : (lockParamsAt p).jackpotStep.inRange = true) (htop : (lockParamsAt p).jackpotMax.inRange = true) :
    setLockParams p s = ({ s with lmc := { s.lmc with params := lockParamsAt p } }, .bare .ok) := by
  have hflag : flag? (byteAt p 3) = some (!decide (byteAt p 3 = 0)) := by
    rcases Nat.le_one_iff_eq_zero_or_eq_one.mp h3 with h3 | h3 <;> rw [h3] <;> rfl
  have hx : lockParams? p s.gpc.params.installed = some (lockParamsAt p) := by
    simp only [lockParams?, hflag, pointAt?_eq_some_iff.mpr ⟨rfl, hbase⟩, pointAt?_eq_some_iff.mpr ⟨rfl, hstep⟩,
      pointAt?_eq_some_iff.mpr ⟨rfl, htop⟩, Bool.not_not]
    exact if_pos h
  simp only [setLockParams, hx]

theorem setLockParams_refused (h : byteAt p 0 = 0 ∨ 6 < byteAt p 0 ∨ byteAt p 1 < 2 ∨ 6 < byteAt p 1 ∨
    s.gpc.params.installed < byteAt p 1 ∨ byteAt p 2 = 0 ∨ 6 < byteAt p 2 ∨ 1 < byteAt p 3 ∨
    (lockParamsAt p).jackpotBase.inRange = false ∨ (lockParamsAt p).jackpotStep.inRange = false ∨
    (lockParamsAt p).jackpotMax.inRange = false ∨
    (lockParamsAt p).jackpotMax.worth < (lockParamsAt p).jackpotBase.worth) :
    setLockParams p s = (s, .bare .outOfRange) := by
  have hx : lockParams? p s.gpc.params.installed = none := by
    unfold lockParams?
    split
    · next resets base step top hresets hbase hstep htop =>
      have hflag := flag?_le_one hresets
      obtain ⟨rfl, hbase⟩ := pointAt?_eq_some_iff.mp hbase
      obtain ⟨rfl, hstep⟩ := pointAt?_eq_some_iff.mp hstep
      obtain ⟨rfl, htop⟩ := pointAt?_eq_some_iff.mp htop
      have hbase : (lockParamsAt p).jackpotBase.inRange = true := hbase
      have hstep : (lockParamsAt p).jackpotStep.inRange = true := hstep
      have htop : (lockParamsAt p).jackpotMax.inRange = true := htop
      simp only [hbase, hstep, htop, Bool.true_eq_false, false_or] at h
      refine if_neg fun hbounds => ?_
      have hworth : (lockParamsAt p).jackpotBase.worth ≤ (lockParamsAt p).jackpotMax.worth :=
        hbounds.2.2.2.2.2.2.2
      omega
    · rfl
  simp only [setLockParams, hx]

end

/-! ### The thresholds (R70, R71) -/

theorem strictlyAscending_iff : ∀ {l : List Threshold},
    strictlyAscending l = true ↔ l.Pairwise fun a b => a.value < b.value
  | [] => by simp [strictlyAscending]
  | [a] => by simp [strictlyAscending]
  | a :: b :: rest => by
    rw [strictlyAscending, Bool.and_eq_true, decide_eq_true_iff, strictlyAscending_iff, List.pairwise_cons (a := a)]
    refine and_congr_left fun h => ⟨fun hab c hc => ?_, fun h => h b List.mem_cons_self⟩
    rcases List.mem_cons.mp hc with rfl | hc
    · exact hab
    · exact hab.trans ((List.pairwise_cons.mp h).1 c hc)

/-- The six bytes of a threshold (R205). -/
def Threshold.bytes (th : Threshold) : List Byte := numberBytes 5 th.value ++ [flagByte th.extraBall]

theorem thresholdsAt?_cons {p : List Byte} {i n : Nat} {th : Threshold} (hvalue : numberAt p i 5 = th.value)
    (hflag : byteAt p (i + 5) = (flagByte th.extraBall).toNat) : thresholdsAt? p i (n + 1) =
      if th.value ≤ scoreMax then (thresholdsAt? p (i + 6) n).map (th :: ·) else none := by
  rw [thresholdsAt?, hvalue, hflag, flag?_flagByte, Option.bind_some]

/-- A list's bytes are read back as the list when every value is within the score limit, and refused otherwise. -/
theorem thresholdsAt?_bytes : ∀ (l : List Threshold) (before after : List Byte), (∀ th ∈ l, th.value ≤ 1099511627775) →
    thresholdsAt? (before ++ (l.flatMap Threshold.bytes ++ after)) before.length l.length =
      if ∀ th ∈ l, th.value ≤ scoreMax then some l else none := by
  intro l
  induction l with
  | nil => intro before after _; simp [thresholdsAt?]
  | cons th l ih =>
    intro before after h
    have hwide := h th List.mem_cons_self
    have htail := ih (before ++ th.bytes) after fun b hb => h b (List.mem_cons_of_mem _ hb)
    have hlen : (before ++ th.bytes).length = before.length + 6 := by simp [Threshold.bytes]
    rw [hlen, List.append_assoc, ← List.append_assoc th.bytes, ← List.flatMap_cons] at htail
    have hvalue : numberAt (before ++ ((th :: l).flatMap Threshold.bytes ++ after)) before.length 5 = th.value := by
      rw [List.flatMap_cons, Threshold.bytes, List.append_assoc, List.append_assoc, numberAt_numberBytes]
      exact Nat.mod_eq_of_lt (by omega)
    have hflag : byteAt (before ++ ((th :: l).flatMap Threshold.bytes ++ after)) (before.length + 5) =
        (flagByte th.extraBall).toNat := by
      rw [byteAt_append, List.flatMap_cons, Threshold.bytes, List.append_assoc, List.append_assoc]
      exact (byteAt_append (numberBytes 5 th.value) _ 0).trans rfl
    rw [List.length_cons, thresholdsAt?_cons hvalue hflag, htail]
    by_cases hth : th.value ≤ scoreMax <;> by_cases hrest : ∀ b ∈ l, b.value ≤ scoreMax <;>
      simp [hth, hrest]

/-- One pair with an unknown action refuses the list. -/
theorem thresholdsAt?_eq_none {p : List Byte} {n i k : Nat} (hk : k < n) (h : 1 < byteAt p (i + 6 * k + 5)) :
    thresholdsAt? p i n = none := by
  induction n generalizing i k with
  | zero => cases hk
  | succ n ih =>
    rw [thresholdsAt?]
    split
    · cases k with
      | zero => rw [flag?_eq_none h, Option.bind_none]
      | succ k =>
        rw [ih (k := k) (Nat.lt_of_succ_lt_succ hk) (by rwa [show i + 6 + 6 * k = i + 6 * (k + 1) by omega])]
        cases flag? (byteAt p (i + 5)) <;> rfl
    · rfl

section
variable {s : State} {p : List Byte} {l : List Threshold}

theorem thresholdBytes_length (l : List Threshold) : (thresholdBytes l).length = 1 + 6 * l.length := by
  rw [thresholdBytes, List.length_cons]
  induction l with
  | nil => rfl
  | cons th l ih => rw [List.flatMap_cons, List.length_append, List.length_cons]; simp; omega

theorem thresholdBytes_count (h : l.length ≤ 10) : byteAt (thresholdBytes l) 0 = l.length := small_toNat (by omega)

theorem thresholdsAt?_thresholdBytes (h : l.length ≤ 10) (hwide : ∀ th ∈ l, th.value ≤ 1099511627775) :
    thresholdsAt? (thresholdBytes l) 1 (byteAt (thresholdBytes l) 0) =
      if ∀ th ∈ l, th.value ≤ scoreMax then some l else none := by
  have hlist := thresholdsAt?_bytes l [small l.length] [] hwide
  rw [List.append_nil] at hlist
  rw [thresholdBytes_count h]
  exact hlist

theorem defineThresholds_accepted (h : l.length ≤ 8) (hmax : ∀ th ∈ l, th.value ≤ scoreMax)
    (hasc : l.Pairwise fun a b => a.value < b.value) :
    defineThresholds (thresholdBytes l) s = ({ s with scu := ⟨l⟩ }, .bare .ok) := by
  have hread := thresholdsAt?_thresholdBytes (h.trans (by decide))
    fun th hth => (hmax th hth).trans (by decide)
  rw [if_pos hmax] at hread
  rw [defineThresholds, if_neg (by rw [thresholdBytes_count (h.trans (by decide))]; omega), hread]
  exact if_pos (strictlyAscending_iff.mpr hasc)

theorem defineThresholds_refused (h : l.length ≤ 10) (hwide : ∀ th ∈ l, th.value ≤ 1099511627775)
    (hbad : 8 < l.length ∨ (∃ th ∈ l, scoreMax < th.value) ∨ ¬ l.Pairwise fun a b => a.value < b.value) :
    defineThresholds (thresholdBytes l) s = (s, .bare .outOfRange) := by
  have hread := thresholdsAt?_thresholdBytes h hwide
  rw [defineThresholds, thresholdBytes_count h] at *
  split
  · rfl
  · next h8 =>
    rw [hread]
    rcases hbad with h8' | ⟨th, hth, hover⟩ | hasc
    · exact absurd h8' h8
    · rw [if_neg fun hmax => Nat.not_lt.mpr (hmax th hth) hover]
    · split
      · next l' hl' =>
        split at hl'
        · obtain rfl := Option.some.inj hl'
          exact if_neg fun ha => hasc (strictlyAscending_iff.mp ha)
        · nomatch hl'
      · rfl

theorem defineThresholds_action {i : Nat} (hi : i < byteAt p 0) (h : 1 < byteAt p (6 * i + 6)) :
    defineThresholds p s = (s, .bare .outOfRange) := by
  have hnone : thresholdsAt? p 1 (byteAt p 0) = none :=
    thresholdsAt?_eq_none hi (by rwa [show 1 + 6 * i + 5 = 6 * i + 6 by omega])
  rw [defineThresholds, hnone]
  exact ite_self _

/-! ### READ_PARAMS (R190) -/

theorem exec_readParams_game (hw : s.glk.waiting = false) (h : s.gpc.params.bytes = p) :
    exec (.readParams [0]) s = .next (s.answer 0x67 .ok p) :=
  h ▸ takeRequest_answers hw rfl

theorem exec_readParams_lock (hw : s.glk.waiting = false) (h : s.lmc.params.bytes = p) :
    exec (.readParams [1]) s = .next (s.answer 0x67 .ok p) :=
  h ▸ takeRequest_answers hw rfl

theorem exec_readParams_thresholds (hw : s.glk.waiting = false) (h : s.scu.thresholds = l) :
    exec (.readParams [2]) s = .next (s.answer 0x67 .ok (thresholdBytes l)) :=
  h ▸ takeRequest_answers hw rfl

theorem readParams_outOfRange {b : Byte} (h : 3 ≤ b.toNat) : readParams [b] s = (s, .bare .outOfRange) := by
  have hb : byteAt [b] 0 = b.toNat := rfl
  unfold readParams
  split
  · omega
  · omega
  · omega
  · rfl

end

/-- Settles O59: each part is read from its payload or refused, and its bytes give the payload back. -/
theorem parametersAndThresholdsReadBack : Obligations.ParametersAndThresholdsReadBack := by
  unfold Obligations.ParametersAndThresholdsReadBack
  refine ⟨fun s hw => ⟨exec_readParams_game hw rfl, ?_, exec_readParams_thresholds hw rfl,
    fun b hb => takeRequest_answers hw (readParams_outOfRange hb)⟩, fun s p hw hidle => ⟨fun hl =>
      ⟨fun b1 b10 m1 m6 i1 i12 => ?_, fun h => takeRequest_configures hw hidle (setGameParams_refused (by omega)) hl⟩,
      fun hl base step top hbase hstep htop => ?_⟩,
    fun s l hw hidle hwide => ⟨fun h8 hmax hasc => ?_, fun h10 hbad => ?_, fun p i hl h62 hi h =>
      takeRequest_configures hw hidle (defineThresholds_action hi h) hl (hl ▸ h62)⟩⟩
  · refine exec_readParams_lock hw ?_
    cases hk : s.lmc.params.litKeeps <;> simp [LockParams.bytes, PointValue.bytes, flagByte, hk]
  · exact ⟨_, takeRequest_configures hw hidle (setGameParams_accepted ⟨b1, b10, m1, m6, i1, i12⟩) hl, rfl,
      exec_readParams_game hw (GameParams.bytes_payload hl)⟩
  · subst hbase hstep htop
    refine ⟨fun l1 l6 m2 m6 mi c1 c6 h3 hbase hstep htop hworth => ?_, fun h =>
      takeRequest_configures hw hidle (setLockParams_refused h) hl⟩
    exact ⟨_, takeRequest_configures hw hidle
      (setLockParams_accepted ⟨l1, l6, m2, m6, mi, c1, c6, hworth⟩ h3 hbase hstep htop) hl, rfl,
      exec_readParams_lock hw (LockParams.bytes_payload hl h3)⟩
  · exact ⟨_, takeRequest_configures hw hidle (defineThresholds_accepted h8 hmax hasc)
      (by rw [thresholdBytes_length, thresholdBytes_count (by omega)])
      (by rw [thresholdBytes_count (by omega)]; omega), rfl, exec_readParams_thresholds hw rfl⟩
  · exact takeRequest_configures hw hidle (defineThresholds_refused h10 hwide hbad)
      (by rw [thresholdBytes_length, thresholdBytes_count h10]) (by rw [thresholdBytes_count h10]; omega)

end Sys2Proof.Machine
end

section
/-! PROOFS. Award evaluation (03): what no evaluation touches, entries discarded, hits nobody claims. -/

namespace Sys2Proof.Machine

/-! ### What no evaluation touches (R27) -/

/-- What the part was set up with, and the records of the intake and the link, alike in both states. -/
structure State.SameSetup (s t : State) : Prop where
  swi : t.swi = s.swi
  evl : t.evl = s.evl
  scu : t.scu = s.scu
  glk : t.glk = s.glk
  definition : ∀ d : Fin 6, (t.bdt.devices[d]).definition = (s.bdt.devices[d]).definition

theorem State.SameSetup.refl (s : State) : s.SameSetup s := ⟨rfl, rfl, rfl, rfl, fun _ => rfl⟩

section
variable {s t u : State}

theorem State.SameSetup.trans (h : s.SameSetup t) (h' : t.SameSetup u) : s.SameSetup u :=
  ⟨h'.swi.trans h.swi, h'.evl.trans h.evl, h'.scu.trans h.scu, h'.glk.trans h.glk,
    fun d => (h'.definition d).trans (h.definition d)⟩

/-- An operation that leaves the devices alone. -/
theorem State.SameSetup.then_frame (h : s.SameSetup t) (hb : u.bdt = t.bdt := by simp) (h1 : u.swi = t.swi := by simp)
    (h2 : u.evl = t.evl := by simp) (h3 : u.scu = t.scu := by simp) (h4 : u.glk = t.glk := by simp) : s.SameSetup u :=
  h.trans ⟨h1, h2, h3, h4, fun d => by rw [hb]⟩

theorem State.SameSetup.ite {c : Prop} [Decidable c] (h : s.SameSetup t) (h' : s.SameSetup u) :
    s.SameSetup (if c then t else u) := by split <;> assumption

theorem State.SameSetup.raise {x : Source} (h : s.SameSetup t) : s.SameSetup (t.raise x) := h.then_frame

theorem State.SameSetup.withDevice {d : Fin 6} {r : Device} (h : s.SameSetup t)
    (hr : r.definition = (t.bdt.devices[d]).definition) : s.SameSetup (t.withDevice d r) := by
  refine h.trans ⟨rfl, rfl, rfl, rfl, fun c => ?_⟩
  by_cases hc : c = d
  · subst hc
    rw [State.withDevice_same, hr]
  · rw [State.withDevice_other _ hc]

theorem State.SameSetup.modifyDevice {d : Fin 6} {f : Device → Device} (h : s.SameSetup t)
    (hf : ∀ r, (f r).definition = r.definition := by exact fun _ => rfl) : s.SameSetup (t.modifyDevice d f) :=
  h.withDevice (hf _)

theorem State.SameSetup.claims {l : Vector (List Nat) 6} (h : s.SameSetup t) :
    s.SameSetup { t with lmc := { t.lmc with claims := l } } := h.then_frame

theorem State.SameSetup.releaseBinding {b : Binding} (h : s.SameSetup t) : s.SameSetup (t.releaseBinding b) :=
  h.then_frame

/-- The counts of balls are no part of the setup. -/
theorem State.SameSetup.ballCount {n : Nat} {x : Tracking} (h : s.SameSetup t) :
    s.SameSetup { t with bdt := { t.bdt with ballsInPlay := n, tracking := x } } :=
  h.trans ⟨rfl, rfl, rfl, rfl, fun _ => rfl⟩

theorem State.SameSetup.trackingFault (h : s.SameSetup t) : s.SameSetup t.trackingFault := h.ballCount.raise

theorem State.SameSetup.requestEject {d : Fin 6} {n : Nat} (h : s.SameSetup t) :
    s.SameSetup (t.requestEject d n).1 := by
  rcases t.requestEject_cases d n with ⟨-, he⟩ | ⟨-, -, he⟩ | ⟨-, -, he⟩ <;> rw [he]
  · exact h
  · exact State.SameSetup.raise (h.withDevice (by rfl))
  · exact h.withDevice (by rfl)

theorem Sourcing.takeClaims_sameSetup (d : Fin 6) (p : Nat) (mine : Bool) (l : List Nat) (x : Sourcing)
    (h : s.SameSetup x.state) : s.SameSetup (x.takeClaims d p mine l).1.state := by
  induction l generalizing x with
  | nil => exact h
  | cons o l ih =>
    unfold Sourcing.takeClaims
    split
    · refine ih _ (State.SameSetup.requestEject ?_)
      cases mine
      · exact h.then_frame
      · exact h
    · exact ih x h

theorem Sourcing.claimsStep_sameSetup (p : Nat) (mine : Bool) (x : Sourcing) (d : Fin 6) (h : s.SameSetup x.state) :
    s.SameSetup (x.claimsStep p mine d).state :=
  (Sourcing.takeClaims_sameSetup d p mine (x.state.claimsOf d) x h).claims

theorem Sourcing.stockStep_sameSetup (x : Sourcing) (d : Fin 6) (h : s.SameSetup x.state) :
    s.SameSetup (x.stockStep d).state := by
  unfold Sourcing.stockStep
  dsimp only
  split
  · exact h.requestEject
  · exact h

theorem Sourcing.troughStep_sameSetup (x : Sourcing) (h : s.SameSetup x.state) : s.SameSetup x.troughStep.state := by
  unfold Sourcing.troughStep
  split
  · exact h.requestEject
  · exact h

theorem State.SameSetup.source {p n : Nat} (h : s.SameSetup t) : s.SameSetup (t.source p n).state := by
  have fold : ∀ (f : Sourcing → Fin 6 → Sourcing), (∀ (x : Sourcing) d, s.SameSetup x.state → s.SameSetup (f x d).state) →
      ∀ x : Sourcing, s.SameSetup x.state → s.SameSetup (lockDevices.foldl f x).state :=
    fun f hf x hx => foldl_keeps (fun x : Sourcing => s.SameSetup x.state) f hf _ x hx
  have h1 := fold _ (Sourcing.claimsStep_sameSetup p true) ⟨t, n, 0⟩ h
  have h2 := fold _ Sourcing.stockStep_sameSetup _ h1
  have h3 := fold _ (Sourcing.claimsStep_sameSetup p false) _ h2
  exact (Sourcing.troughStep_sameSetup _ h3).claims

theorem State.SameSetup.completeStart {p : Nat} (h : s.SameSetup t) : s.SameSetup (t.completeStart p) := h.then_frame

theorem State.SameSetup.startMultiball {p : Nat} (h : s.SameSetup t) : s.SameSetup (t.startMultiball p).1 :=
  h.source.completeStart

theorem State.SameSetup.ballEndCheck (h : s.SameSetup t) : s.SameSetup t.ballEndCheck := h.then_frame

theorem State.SameSetup.ballEndCheckInPlay (h : s.SameSetup t) : s.SameSetup t.ballEndCheckInPlay := h.then_frame

theorem State.SameSetup.afterLock {d : Fin 6} {p : Nat} (h : s.SameSetup t) : s.SameSetup (t.afterLock d p) := by
  unfold State.afterLock State.kickOut
  split
  · exact h.startMultiball
  · split
    · exact h.requestEject
    · split
      · exact .ite h.requestEject.ballEndCheck h.requestEject
      · exact h

theorem State.SameSetup.lockEntry {d : Fin 6} (h : s.SameSetup t) : s.SameSetup (t.lockEntry d) := by
  unfold State.lockEntry State.makeLock State.kickOut
  split
  · exact .afterLock h.then_frame
  · split
    · exact h
    · exact .ite h.ballEndCheckInPlay h.requestEject

theorem State.SameSetup.drain (h : s.SameSetup t) : s.SameSetup t.drain := by
  unfold State.drain State.saveStep
  have heject : s.SameSetup ((t.requestEject 0 1).1.raise .ballSaved) := h.requestEject.raise
  have hsave := State.SameSetup.ite (c := t.ballSaveActive = true ∧ t.gpc.tilted = false ∧ (t.device 0).faulted = false)
    (.ite (c := t.lmc.multiball = true) heject (heject.releaseBinding (b := .ballSave))) h
  exact (hsave.then_frame (u := State.multiballCheck _)).ballEndCheck

theorem State.SameSetup.handleEntry {d : Fin 6} (h : s.SameSetup t) : s.SameSetup (t.handleEntry d) := by
  unfold State.handleEntry State.kickOut
  split
  · exact .ite h.drain h
  · exact h.lockEntry
  · exact .ite h (.ite h.ballEndCheckInPlay h.requestEject)
  · exact h

theorem State.SameSetup.accountEntry {d : Fin 6} (h : s.SameSetup t) : s.SameSetup (t.accountEntry d).1 := by
  unfold State.accountEntry
  dsimp only
  split
  · exact h.trackingFault
  · split
    · exact h.modifyDevice.ballCount
    · exact h.modifyDevice.trackingFault

theorem State.SameSetup.enterDevice {d : Fin 6} (h : s.SameSetup t) : s.SameSetup (t.enterDevice d) :=
  .ite h.accountEntry.handleEntry h.accountEntry

theorem State.SameSetup.confirmExit {d : Fin 6} (h : s.SameSetup t) : s.SameSetup (t.confirmExit d) := by
  unfold State.confirmExit State.confirmEject State.cancelLaunch
  split
  · exact .ite h.modifyDevice h.modifyDevice.raise
  · split
    · exact .ite h.modifyDevice h.modifyDevice.modifyDevice
    · exact h

theorem State.SameSetup.accountExit {d : Fin 6} (h : s.SameSetup t) : s.SameSetup (t.accountExit d) := by
  unfold State.accountExit
  exact .ite h.modifyDevice.ballCount h.modifyDevice.trackingFault

theorem State.SameSetup.troughStep {d : Fin 6} (h : s.SameSetup t) : s.SameSetup (t.troughStep d) := h.then_frame

theorem State.SameSetup.exitDevice {d : Fin 6} (h : s.SameSetup t) : s.SameSetup (t.exitDevice d) := by
  have hclaims : s.SameSetup ((t.accountExit d).claimCheck d) := (h.accountExit (d := d)).then_frame
  exact .ite h.trackingFault.troughStep hclaims.confirmExit.troughStep

theorem State.SameSetup.evaluate {e : Entry} (h : s.SameSetup t) : s.SameSetup (t.evaluate e) := by
  unfold State.evaluate
  split
  · exact .ite h.then_frame h
  · next d g l _ _ =>
    have henter : s.SameSetup (t.enterDevice d) := h.enterDevice
    exact .ite henter.then_frame henter
  · exact h.exitDevice
  · exact h
  · exact h.trackingFault
  · exact h.trackingFault

end

/-! ### The take and the discards (R26 to R28, R41, R42) -/

section
variable {s : State} {e : Entry} {rest : List Entry}

theorem exec_awardEvaluation_idle (h : s.swi.queue = [] ∨ s.lineState = .held) : exec .awardEvaluation s = .next s := by
  refine congrArg Host.Outcome.next ?_
  split
  · next e rest hq => exact if_pos (h.resolve_left fun hnil => nomatch hq.symm.trans hnil)
  · rfl

theorem exec_awardEvaluation_takes (hq : s.swi.queue = e :: rest) (hl : s.lineState ≠ .held) :
    exec .awardEvaluation s = .next ((s.afterTake rest).evaluate e) := by
  refine congrArg Host.Outcome.next ?_
  split
  · next e' rest' hq' =>
    obtain ⟨rfl, rfl⟩ := List.cons.inj (hq'.symm.trans hq)
    exact if_neg hl
  · next hnil => nomatch hq.symm.trans hnil

theorem State.afterTake_keeps (hq : s.swi.queue = e :: rest) : Keeps s (s.afterTake rest) := State.takeHead_keeps hq

theorem State.evaluate_scoring {x : Edge} {g : Fin 16} {l : List Award} (hc : e.cls = .scoring)
    (hr : s.evl.rules[e.switch] = .scoring x g l) :
    s.evaluate e = if s.scores then s.scoreHit g e.count l s.mst.stack else s := by
  simp only [State.evaluate, hc, hr]

/-- A scoring entry taken IN_PLAY on an untilted ball, its switch still SCORING, is a hit on the stack. -/
theorem exec_awardEvaluation_hit {sw : Fin 128} {k : Nat} {x : Edge} {g : Fin 16} {l : List Award}
    (hq : s.swi.queue = ⟨sw, .scoring, k⟩ :: rest) (hl : s.lineState ≠ .held) (hgame : s.gpc.game = .inPlay)
    (htilt : s.gpc.tilted = false) (hr : s.evl.rules[sw] = .scoring x g l) :
    exec .awardEvaluation s = .next ((s.afterTake rest).scoreHit g k l s.mst.stack) := by
  have hs : (s.afterTake rest).scores = true := State.scores_iff.mpr ⟨hgame, htilt⟩
  rw [exec_awardEvaluation_takes hq hl,
    State.evaluate_scoring (s := s.afterTake rest) (e := ⟨sw, .scoring, k⟩) rfl hr, if_pos hs]
  rfl

theorem State.evaluate_scoring_discarded (hc : e.cls = .scoring)
    (h : s.gpc.game ≠ .inPlay ∨ s.gpc.tilted = true ∨ ∀ x g l, s.evl.rules[e.switch] ≠ .scoring x g l) :
    s.evaluate e = s := by
  unfold State.evaluate
  split
  · next x g l _ hr =>
    refine if_neg fun hs => ?_
    obtain ⟨hgame, htilt⟩ := State.scores_iff.mp hs
    rcases h with h | h | h
    · exact h hgame
    · exact absurd (h.symm.trans htilt) nofun
    · exact h x g l hr
  · next hc' _ => nomatch hc.symm.trans hc'
  · next hc' _ => nomatch hc.symm.trans hc'
  · rfl
  · next hc' _ => nomatch hc.symm.trans hc'
  · next hc' _ => nomatch hc.symm.trans hc'

theorem State.evaluate_entry_discarded (hc : e.cls = .deviceEntry)
    (h : ∀ d g l, s.evl.rules[e.switch] ≠ .deviceEntry d g l) : s.evaluate e = s.trackingFault := by
  unfold State.evaluate
  split
  · next hc' _ => nomatch hc.symm.trans hc'
  · next d g l _ hr => exact absurd hr (h d g l)
  · next hc' _ => nomatch hc.symm.trans hc'
  · next hc' _ => nomatch hc.symm.trans hc'
  · rfl
  · rfl

theorem State.evaluate_exit_discarded (hc : e.cls = .deviceExit)
    (h : ∀ d, s.evl.rules[e.switch] ≠ .deviceExit d) : s.evaluate e = s.trackingFault := by
  unfold State.evaluate
  split
  · next hc' _ => nomatch hc.symm.trans hc'
  · next hc' _ => nomatch hc.symm.trans hc'
  · next d _ hr => exact absurd hr (h d)
  · next hc' _ => nomatch hc.symm.trans hc'
  · rfl
  · rfl

end

/-! ### The walk (R47) -/

section
variable {s : State} {g : Fin 16} {k : Nat} {alive above below : List (Fin 12)} {x : Fin 12}

/-- Contexts that do not claim the group are passed over. -/
theorem State.walk_unclaimed (h : ∀ y ∈ above, s.claims y g = false) :
    s.walk g k alive (above ++ below) = s.walk g k alive below := by
  induction above with
  | nil => rfl
  | cons y above ih =>
    have hy : ¬ (y ∈ alive ∧ s.claims y g = true) := fun hc =>
      Bool.false_ne_true ((h y List.mem_cons_self).symm.trans hc.2)
    rw [List.cons_append, State.walk, if_neg hy, ih fun z hz => h z (List.mem_cons_of_mem _ hz)]

theorem State.walk_none (h : ∀ y ∈ above, s.claims y g = false) : s.walk g k alive above = (s, false) := by
  have hwalk := State.walk_unclaimed (below := []) (alive := alive) (k := k) h
  rwa [List.append_nil] at hwalk

theorem State.walk_claimed (hx : x ∈ alive) (hc : s.claims x g = true) : s.walk g k alive (x :: below) =
    if (s.claimHit x k).2 then ((s.claimHit x k).1, true)
    else (s.claimHit x k).1.walk g k (alive.filter (s.claimHit x k).1.isRunning) below := by
  rw [State.walk, if_pos ⟨hx, hc⟩]

/-- A hit that no context claims is paid by the rule's list. -/
theorem State.scoreHit_unclaimed {l : List Award} {st : List (Fin 12)} (h : ∀ y ∈ st, s.claims y g = false) :
    s.scoreHit g k l st = s.baseAwards k l := by
  simp only [State.scoreHit, State.walk_none h, Bool.false_eq_true, if_false]

end

/-- Settles O24: the frame by `evaluate_sameSetup` and what every operation of play keeps, the discards by the case of
the entry, the unclaimed hit by the walk that passes over every context. -/
theorem headsAreTakenDiscardedAndPaid : Obligations.HeadsAreTakenDiscardedAndPaid := by
  unfold Obligations.HeadsAreTakenDiscardedAndPaid
  refine ⟨fun s => ⟨exec_awardEvaluation_idle, fun e rest hq hl => ⟨_, exec_awardEvaluation_takes hq hl, ?_⟩⟩,
    fun s e rest hq hl => ⟨fun hc h => ?_, fun u hu => ⟨fun hc h => ?_, fun hc h => ?_⟩⟩,
    fun s u sw k rest x g l hq hl hgame htilt hr hclaims hu => ?_⟩
  · have hsetup := (State.SameSetup.refl (s.afterTake rest)).evaluate (e := e)
    have hkeeps := (State.afterTake_keeps hq).evaluate (e := e)
    exact ⟨by rw [hsetup.swi]; rfl, by rw [hsetup.swi]; rfl, hsetup.evl, hsetup.scu, hkeeps.templates,
      hsetup.definition, hkeeps.params, hkeeps.count, hkeeps.gpc, hsetup.glk, hkeeps.notices.enabled⟩
  · rw [exec_awardEvaluation_takes hq hl, State.evaluate_scoring_discarded (s := s.afterTake rest) hc h]
  · rw [exec_awardEvaluation_takes hq hl, State.evaluate_entry_discarded (s := s.afterTake rest) hc h, hu]
    rfl
  · rw [exec_awardEvaluation_takes hq hl, State.evaluate_exit_discarded (s := s.afterTake rest) hc h, hu]
    rfl
  · subst hu
    rw [exec_awardEvaluation_hit hq hl hgame htilt hr]
    exact congrArg Host.Outcome.next (State.scoreHit_unclaimed hclaims)

end Sys2Proof.Machine
end

section
/-! PROOFS. The mode stack as one table (05, 5.2, 5.3): its law slot by slot, and a record put into a slot. -/

namespace Sys2Proof.Machine

/-! ### Priorities and groups, by the table alone -/

/-- The template of a slot's context. -/
def Mst.template? (m : Mst) (x : Fin 12) : Option Template := (m.slots[x]).bind fun c => m.templates[c.template]

/-- The priority of a slot's template. -/
def Mst.priority (m : Mst) (x : Fin 12) : Nat := ((m.template? x).map Template.priority).getD 0

/-- The exclusion group of a slot's template. -/
def Mst.group (m : Mst) (x : Fin 12) : Fin 8 := ((m.template? x).map Template.exclusionGroup).getD 0

theorem State.slotTemplate?_eq (s : State) (x : Fin 12) : s.slotTemplate? x = s.mst.template? x := rfl
theorem State.slotPriority_eq (s : State) : s.slotPriority = s.mst.priority := rfl
theorem State.slotGroup_eq (s : State) (x : Fin 12) : s.slotGroup x = s.mst.group x := rfl

section
variable {m : Mst} {x : Fin 12} {c : Context} {tm : Template}

theorem Mst.template?_eq (hc : m.slots[x] = some c) : m.template? x = m.templates[c.template] := by
  rw [Mst.template?, hc, Option.bind_some]

theorem Mst.priority_eq (hc : m.slots[x] = some c) (ht : m.templates[c.template] = some tm) :
    m.priority x = tm.priority := by rw [Mst.priority, Mst.template?_eq hc, ht]; rfl

theorem Mst.group_eq (hc : m.slots[x] = some c) (ht : m.templates[c.template] = some tm) :
    m.group x = tm.exclusionGroup := by rw [Mst.group, Mst.template?_eq hc, ht]; rfl

end

/-! ### The law of the mode stack, slot by slot (R77 to R80) -/

/-- Whether a phase is RUNNING or PAUSED. -/
def Phase.live : Phase → Bool
  | .running | .paused => true
  | .parked | .ended _ => false

theorem Phase.live_iff {p : Phase} : p.live = true ↔ p = .running ∨ p = .paused := by cases p <;> simp [Phase.live]

theorem Phase.stands_of_live {p : Phase} (h : p.live = true) : p.stands = true := by
  rcases Phase.live_iff.mp h with rfl | rfl <;> rfl

/-- The laws of the mode stack over a table: the RUNNING and PAUSED contexts are `cur`'s and stand only where `live`
holds. -/
structure Mst.Fits (m : Mst) (cur : Nat) (live : Prop) : Prop where
  stackNodup : m.stack.Nodup
  pauseNodup : m.pauseOrder.Nodup
  endedNodup : m.ended.Nodup
  stack : ∀ x : Fin 12, x ∈ m.stack ↔ ∃ c : Context, m.slots[x] = some c ∧ c.phase = .running
  pause : ∀ x : Fin 12, x ∈ m.pauseOrder ↔ ∃ c : Context, m.slots[x] = some c ∧ c.phase = .paused
  ended : ∀ x : Fin 12, x ∈ m.ended ↔ ∃ c : Context, m.slots[x] = some c ∧ c.phase.stands = false
  sorted : m.stack.Pairwise fun a b => m.priority b ≤ m.priority a
  template : ∀ (x : Fin 12) (c : Context), m.slots[x] = some c → ∃ tm, m.templates[c.template] = some tm
  owner : ∀ (x : Fin 12) (c : Context), m.slots[x] = some c → c.phase.live = true → c.owner = cur ∧ live
  standing : ∀ (x y : Fin 12) (c d : Context), m.slots[x] = some c → m.slots[y] = some d → c.phase.stands = true → d.phase.stands = true →
    c.owner = d.owner → c.template = d.template → x = y
  running : ∀ (x y : Fin 12) (c d : Context), m.slots[x] = some c → m.slots[y] = some d → c.phase = .running → d.phase = .running →
    c.owner = d.owner → m.group x ≠ 0 → m.group x = m.group y → x = y

section
variable {s : State} {x y : Fin 12} {c : Context}

theorem State.isLive_eq (hc : s.mst.slots[x] = some c) : s.isLive x = c.phase.live := by
  have hslot : s.slot? x = some c := hc
  simp only [State.isLive, hslot]
  cases c.phase <;> simp [Phase.live]

theorem State.isStanding_eq (hc : s.mst.slots[x] = some c) : s.isStanding x = c.phase.stands := by
  have hslot : s.slot? x = some c := hc
  simp only [State.isStanding, hslot]

theorem State.isEnded_eq (hc : s.mst.slots[x] = some c) : s.isEnded x = !c.phase.stands := by
  have hslot : s.slot? x = some c := hc
  simp only [State.isEnded, hslot]

theorem State.isRunning_eq (hc : s.mst.slots[x] = some c) : s.isRunning x = decide (c.phase = .running) := by
  have hslot : s.slot? x = some c := hc
  simp only [State.isRunning, hslot]

theorem State.isEnded_iff : s.isEnded x = true ↔ ∃ c, s.mst.slots[x] = some c ∧ c.phase.stands = false := by
  cases hc : s.mst.slots[x] with
  | none =>
    have hslot : s.slot? x = none := hc
    simp [State.isEnded, hslot]
  | some c => simp [State.isEnded_eq hc]

theorem State.isLive_iff : s.isLive x = true ↔ ∃ c, s.mst.slots[x] = some c ∧ c.phase.live = true := by
  cases hc : s.mst.slots[x] with
  | none =>
    have hslot : s.slot? x = none := hc
    simp [State.isLive, hslot]
  | some c => simp [State.isLive_eq hc]

theorem State.isRunning_iff : s.isRunning x = true ↔ ∃ c, s.mst.slots[x] = some c ∧ c.phase = .running := by
  cases hc : s.mst.slots[x] with
  | none =>
    have hslot : s.slot? x = none := hc
    simp [State.isRunning, hslot]
  | some c => simp [State.isRunning_eq hc]

theorem State.phase?_iff {p : Phase} : s.phase? x = some p ↔ ∃ c, s.mst.slots[x] = some c ∧ c.phase = p :=
  Option.map_eq_some_iff

theorem State.standingKey?_eq_some {k : Nat × Fin 32} : s.standingKey? x = some k ↔
    ∃ c, s.mst.slots[x] = some c ∧ c.phase.stands = true ∧ (c.owner, c.template) = k := by
  cases hc : s.mst.slots[x] with
  | none =>
    have hslot : s.slot? x = none := hc
    simp [State.standingKey?, State.isStanding, hslot]
  | some c =>
    have hslot : s.slot? x = some c := hc
    simp [State.standingKey?, State.isStanding_eq hc, hslot]

theorem State.runningKey?_eq_some {k : Nat × Fin 8} : s.runningKey? x = some k ↔
    ∃ c, s.mst.slots[x] = some c ∧ c.phase = .running ∧ s.mst.group x ≠ 0 ∧ (c.owner, s.mst.group x) = k := by
  cases hc : s.mst.slots[x] with
  | none =>
    have hslot : s.slot? x = none := hc
    simp [State.runningKey?, State.isRunning, hslot]
  | some c =>
    have hslot : s.slot? x = some c := hc
    simp [State.runningKey?, State.isRunning_eq hc, hslot, State.slotGroup_eq, and_assoc]

theorem key_ne_iff {α : Type} {a b : Option α} : (a ≠ none → a ≠ b) ↔ ∀ k, a = some k → b ≠ some k := by
  cases a <;> cases b <;> simp [eq_comm]

/-- The laws of the mode stack are the law of the table, with every slot FREE in IDLE. -/
theorem modeLaw_iff : ModeLaw s ↔ s.mst.Fits s.currentPlayer (s.gpc.game = .starting ∨ s.gpc.game = .inPlay) ∧
    (s.gpc.game = .idle → ∀ x : Fin 12, s.mst.slots[x] = none) := by
  constructor
  · rintro ⟨⟨h1, h2, h3, h4, h5, h6, h7⟩, ⟨hidle, hown⟩, hexcl⟩
    refine ⟨⟨h1, h2, h3, fun x => (h4 x).trans State.phase?_iff, fun x => (h5 x).trans State.phase?_iff,
      fun x => (h6 x).trans State.isEnded_iff, h7, fun x c hc => ?_, fun x c hc hl => ?_,
      fun x y c d hc hd hcs hds ho ht => ?_, fun x y c d hc hd hcs hds ho hg hxy => ?_⟩, hidle⟩
    · have hslot : s.slot? x = some c := hc
      have htm := (hown x).1 (by rw [hslot]; nofun)
      rw [State.slotTemplate?_eq, Mst.template?_eq hc] at htm
      exact Option.ne_none_iff_exists'.mp htm
    · obtain ⟨howner, hlive⟩ := (hown x).2 ((State.isLive_eq hc).trans hl)
      have hslot : s.slot? x = some c := hc
      rw [hslot] at howner
      exact ⟨Option.some.inj howner, hlive⟩
    · by_contra hne
      exact key_ne_iff.mp (hexcl x y hne).1 _ (State.standingKey?_eq_some.mpr ⟨c, hc, hcs, rfl⟩)
        (State.standingKey?_eq_some.mpr ⟨d, hd, hds, by rw [ho, ht]⟩)
    · by_contra hne
      exact key_ne_iff.mp (hexcl x y hne).2 _ (State.runningKey?_eq_some.mpr ⟨c, hc, hcs, hg, rfl⟩)
        (State.runningKey?_eq_some.mpr ⟨d, hd, hds, hxy ▸ hg, by rw [ho, hxy]⟩)
  · rintro ⟨h, hidle⟩
    refine ⟨⟨h.stackNodup, h.pauseNodup, h.endedNodup, fun x => (h.stack x).trans State.phase?_iff.symm,
      fun x => (h.pause x).trans State.phase?_iff.symm, fun x => (h.ended x).trans State.isEnded_iff.symm, h.sorted⟩,
      ⟨hidle, fun x => ⟨fun hx => ?_, fun hl => ?_⟩⟩, fun x y hne => ⟨?_, ?_⟩⟩
    · obtain ⟨c, hc⟩ := Option.ne_none_iff_exists'.mp hx
      obtain ⟨tm, htm⟩ := h.template x c hc
      rw [State.slotTemplate?_eq, Mst.template?_eq hc, htm]
      nofun
    · obtain ⟨c, hc, hl⟩ := State.isLive_iff.mp hl
      obtain ⟨howner, hlive⟩ := h.owner x c hc hl
      have hslot : s.slot? x = some c := hc
      exact ⟨by rw [hslot, ← howner]; rfl, hlive⟩
    · refine key_ne_iff.mpr fun k hx hy => ?_
      obtain ⟨c, hc, hcs, hk⟩ := State.standingKey?_eq_some.mp hx
      obtain ⟨d, hd, hds, hk'⟩ := State.standingKey?_eq_some.mp hy
      obtain ⟨ho, ht⟩ := Prod.mk.inj (hk.trans hk'.symm)
      exact hne (h.standing x y c d hc hd hcs hds ho ht)
    · refine key_ne_iff.mpr fun k hx hy => ?_
      obtain ⟨c, hc, hcs, hg, hk⟩ := State.runningKey?_eq_some.mp hx
      obtain ⟨d, hd, hds, -, hk'⟩ := State.runningKey?_eq_some.mp hy
      obtain ⟨ho, ht⟩ := Prod.mk.inj (hk.trans hk'.symm)
      exact hne (h.running x y c d hc hd hcs hds ho hg ht)

end

/-! ### A record put into a slot -/

/-- Record c put into slot x, which goes from the lists it stood in to the list of the phase of c. -/
def Mst.put (m : Mst) (x : Fin 12) (c : Context) : Mst where
  templates := m.templates
  slots := m.slots.set x.val (some c) x.isLt
  stack :=
    if c.phase = .running then
      insertByPriority { m with slots := m.slots.set x.val (some c) x.isLt }.priority x
        ({ m with slots := m.slots.set x.val (some c) x.isLt }.priority x) (m.stack.erase x)
    else m.stack.erase x
  pauseOrder := if c.phase = .paused then m.pauseOrder.erase x ++ [x] else m.pauseOrder.erase x
  ended := if c.phase.stands = false then m.ended.erase x ++ [x] else m.ended.erase x

section
variable {m : Mst} {x y : Fin 12} {c d : Context} {cur : Nat} {live : Prop}

theorem Mst.put_slots_same : (m.put x c).slots[x] = some c := Vector.getElem_set_self x.isLt

theorem Mst.put_slots_other (h : y ≠ x) : (m.put x c).slots[y] = m.slots[y] :=
  Vector.getElem_set_ne x.isLt y.isLt fun e => h (Fin.ext e.symm)

theorem Mst.put_slots : (m.put x c).slots[y] = if y = x then some c else m.slots[y] := by
  split
  · next h => subst h; exact Mst.put_slots_same
  · next h => exact Mst.put_slots_other h

theorem Mst.put_template?_other (h : y ≠ x) : (m.put x c).template? y = m.template? y := by
  rw [Mst.template?, Mst.put_slots_other h]; rfl

theorem Mst.put_priority_other (h : y ≠ x) : (m.put x c).priority y = m.priority y := by
  rw [Mst.priority, Mst.put_template?_other h]; rfl

theorem Mst.put_group_other (h : y ≠ x) : (m.put x c).group y = m.group y := by
  rw [Mst.group, Mst.put_template?_other h]; rfl

theorem Mst.put_stack_running (h : c.phase = .running) :
    (m.put x c).stack = insertByPriority (m.put x c).priority x ((m.put x c).priority x) (m.stack.erase x) := if_pos h

theorem Mst.put_stack_of_ne (h : c.phase ≠ .running) : (m.put x c).stack = m.stack.erase x := if_neg h

/-- An insertion changes the list by the one slot. -/
theorem mem_insertByPriority {p : Fin 12 → Nat} {n : Nat} {l : List (Fin 12)} :
    y ∈ insertByPriority p x n l ↔ y = x ∨ y ∈ l := by
  obtain ⟨above, below, rfl, hi, -, -⟩ := insertByPriority_split p x n l
  simp [hi, or_left_comm]

theorem insertByPriority_nodup {p : Fin 12 → Nat} {n : Nat} {l : List (Fin 12)} (h : l.Nodup) (hx : x ∉ l) :
    (insertByPriority p x n l).Nodup := by
  obtain ⟨above, below, rfl, hi, -, -⟩ := insertByPriority_split p x n l
  rw [hi, List.perm_middle.nodup_iff]
  exact List.nodup_cons.mpr ⟨hx, h⟩

/-- An insertion by the slot's own priority keeps the order. -/
theorem insertByPriority_sorted {p : Fin 12 → Nat} {l : List (Fin 12)} (h : l.Pairwise fun a b => p b ≤ p a) :
    (insertByPriority p x (p x) l).Pairwise fun a b => p b ≤ p a := by
  obtain ⟨above, below, rfl, hi, ha, hb⟩ := insertByPriority_split p x (p x) l
  obtain ⟨h1, h2, h3⟩ := List.pairwise_append.mp h
  have hbelow : ∀ y ∈ below, p y ≤ p x := by
    cases below with
    | nil => nofun
    | cons z below =>
      have hz : p z ≤ p x := hb z rfl
      intro y hy
      rcases List.mem_cons.mp hy with rfl | hy
      · exact hz
      · exact ((List.pairwise_cons.mp h2).1 y hy).trans hz
  rw [hi, List.pairwise_append, List.pairwise_cons]
  refine ⟨h1, ⟨hbelow, h2⟩, fun a hm b hn => ?_⟩
  rcases List.mem_cons.mp hn with rfl | hn
  · exact (ha a hm).le
  · exact h3 a hm b hn

/-- Which slots stand in the lists after a put. -/
theorem Mst.mem_put_stack (h : m.Fits cur live) :
    y ∈ (m.put x c).stack ↔ ∃ d, (m.put x c).slots[y] = some d ∧ d.phase = .running := by
  by_cases hyx : y = x
  · subst hyx
    have hnot : y ∉ m.stack.erase y := h.stackNodup.not_mem_erase
    rw [Mst.put_slots_same]
    by_cases hc : c.phase = .running
    · rw [Mst.put_stack_running hc]
      exact ⟨fun _ => ⟨c, rfl, hc⟩, fun _ => mem_insertByPriority.mpr (.inl rfl)⟩
    · rw [Mst.put_stack_of_ne hc]
      exact ⟨fun hy => absurd hy hnot, fun ⟨d, hd, hr⟩ => absurd (Option.some.inj hd ▸ hr) hc⟩
  · have hmem : y ∈ (m.put x c).stack ↔ y ∈ m.stack := by
      by_cases hc : c.phase = .running
      · rw [Mst.put_stack_running hc, mem_insertByPriority, List.mem_erase_of_ne hyx]
        exact ⟨fun hy => hy.resolve_left hyx, .inr⟩
      · rw [Mst.put_stack_of_ne hc, List.mem_erase_of_ne hyx]
    rw [hmem, Mst.put_slots_other hyx]
    exact h.stack y

theorem Mst.mem_put_pause (h : m.Fits cur live) :
    y ∈ (m.put x c).pauseOrder ↔ ∃ d, (m.put x c).slots[y] = some d ∧ d.phase = .paused := by
  have hlist : y ∈ (m.put x c).pauseOrder ↔ y ∈ m.pauseOrder.erase x ∨ (c.phase = .paused ∧ y = x) := by
    unfold Mst.put
    dsimp only
    split
    · next hc => simp [hc]
    · next hc => simp [hc]
  rw [hlist]
  by_cases hyx : y = x
  · subst hyx
    have hnot : y ∉ m.pauseOrder.erase y := h.pauseNodup.not_mem_erase
    rw [Mst.put_slots_same]
    exact ⟨fun hy => ⟨c, rfl, (hy.resolve_left hnot).1⟩, fun ⟨d, hd, hp⟩ => .inr ⟨Option.some.inj hd ▸ hp, rfl⟩⟩
  · rw [List.mem_erase_of_ne hyx, Mst.put_slots_other hyx, ← h.pause y]
    exact ⟨fun hy => hy.resolve_right fun hc => hyx hc.2, .inl⟩

theorem Mst.mem_put_ended (h : m.Fits cur live) :
    y ∈ (m.put x c).ended ↔ ∃ d, (m.put x c).slots[y] = some d ∧ d.phase.stands = false := by
  have hlist : y ∈ (m.put x c).ended ↔ y ∈ m.ended.erase x ∨ (c.phase.stands = false ∧ y = x) := by
    unfold Mst.put
    dsimp only
    split
    · next hc => simp [hc]
    · next hc => simp [hc]
  rw [hlist]
  by_cases hyx : y = x
  · subst hyx
    have hnot : y ∉ m.ended.erase y := h.endedNodup.not_mem_erase
    rw [Mst.put_slots_same]
    exact ⟨fun hy => ⟨c, rfl, (hy.resolve_left hnot).1⟩, fun ⟨d, hd, hp⟩ => .inr ⟨Option.some.inj hd ▸ hp, rfl⟩⟩
  · rw [List.mem_erase_of_ne hyx, Mst.put_slots_other hyx, ← h.ended y]
    exact ⟨fun hy => hy.resolve_right fun hc => hyx hc.2, .inl⟩

theorem Mst.put_stack_nodup (h : m.Fits cur live) : (m.put x c).stack.Nodup := by
  unfold Mst.put
  dsimp only
  split
  · exact insertByPriority_nodup (h.stackNodup.erase x) h.stackNodup.not_mem_erase
  · exact h.stackNodup.erase x

theorem append_singleton_nodup {l : List (Fin 12)} (h : l.Nodup) : (l.erase x ++ [x]).Nodup :=
  List.nodup_append.mpr ⟨h.erase x, List.nodup_singleton x, fun a ha b hb hab =>
    by
    rw [hab, List.mem_singleton.mp hb] at ha
    exact h.not_mem_erase ha⟩

theorem Mst.put_sorted (h : m.Fits cur live) :
    (m.put x c).stack.Pairwise fun a b => (m.put x c).priority b ≤ (m.put x c).priority a := by
  have hkept : (m.stack.erase x).Pairwise fun a b => (m.put x c).priority b ≤ (m.put x c).priority a := by
    refine (h.sorted.sublist List.erase_sublist).imp_of_mem fun {a b} ha hb hab => ?_
    have hne : ∀ z ∈ m.stack.erase x, z ≠ x := fun z hz e => h.stackNodup.not_mem_erase (e ▸ hz)
    rwa [Mst.put_priority_other (hne a ha), Mst.put_priority_other (hne b hb)]
  by_cases hc : c.phase = .running
  · rw [Mst.put_stack_running hc]
    exact insertByPriority_sorted hkept
  · rw [Mst.put_stack_of_ne hc]
    exact hkept

/-- A put keeps the law: the record's template is defined, a live one is the current player's, and no other slot
holds a standing context of its owner and template or, for a RUNNING one, runs in its group. -/
theorem Mst.Fits.put (h : m.Fits cur live) (htm : ∃ tm, m.templates[c.template] = some tm)
    (howner : c.phase.live = true → c.owner = cur ∧ live)
    (hstanding : c.phase.stands = true → ∀ (y : Fin 12) (d : Context), y ≠ x → m.slots[y] = some d → d.phase.stands = true →
      d.owner = c.owner → d.template ≠ c.template)
    (hrunning : c.phase = .running → (m.put x c).group x ≠ 0 → ∀ (y : Fin 12) (d : Context), y ≠ x → m.slots[y] = some d →
      d.phase = .running → d.owner = c.owner → m.group y ≠ (m.put x c).group x) : (m.put x c).Fits cur live where
  stackNodup := Mst.put_stack_nodup h
  pauseNodup := by
    unfold Mst.put
    dsimp only
    split
    · exact append_singleton_nodup h.pauseNodup
    · exact h.pauseNodup.erase x
  endedNodup := by
    unfold Mst.put
    dsimp only
    split
    · exact append_singleton_nodup h.endedNodup
    · exact h.endedNodup.erase x
  stack _ := Mst.mem_put_stack h
  pause _ := Mst.mem_put_pause h
  ended _ := Mst.mem_put_ended h
  sorted := Mst.put_sorted h
  template y d hd := by
    by_cases hyx : y = x
    · subst hyx
      rw [Mst.put_slots_same] at hd
      exact Option.some.inj hd ▸ htm
    · exact h.template y d (Mst.put_slots_other hyx ▸ hd)
  owner y d hd hl := by
    by_cases hyx : y = x
    · subst hyx
      rw [Mst.put_slots_same] at hd
      obtain rfl := Option.some.inj hd
      exact howner hl
    · exact h.owner y d (Mst.put_slots_other hyx ▸ hd) hl
  standing y z d e hd he hds hes ho ht := by
    by_cases hyx : y = x
    · by_cases hzx : z = x
      · rw [hyx, hzx]
      · subst hyx
        rw [Mst.put_slots_same] at hd
        obtain rfl := Option.some.inj hd
        exact absurd ht.symm (hstanding hds z e hzx (Mst.put_slots_other hzx ▸ he) hes ho.symm)
    · rw [Mst.put_slots_other hyx] at hd
      by_cases hzx : z = x
      · subst hzx
        rw [Mst.put_slots_same] at he
        obtain rfl := Option.some.inj he
        exact absurd ht (hstanding hes y d hyx hd hds ho)
      · exact h.standing y z d e hd (Mst.put_slots_other hzx ▸ he) hds hes ho ht
  running y z d e hd he hds hes ho hg hyz := by
    by_cases hyx : y = x
    · by_cases hzx : z = x
      · rw [hyx, hzx]
      · subst hyx
        rw [Mst.put_slots_same] at hd
        obtain rfl := Option.some.inj hd
        rw [Mst.put_group_other hzx] at hyz
        exact absurd hyz.symm (hrunning hds hg z e hzx (Mst.put_slots_other hzx ▸ he) hes ho.symm)
    · rw [Mst.put_slots_other hyx] at hd
      rw [Mst.put_group_other hyx] at hg hyz
      by_cases hzx : z = x
      · subst hzx
        rw [Mst.put_slots_same] at he
        obtain rfl := Option.some.inj he
        exact absurd hyz (hrunning hes (hyz ▸ hg) y d hyx hd hds ho)
      · rw [Mst.put_group_other hzx] at hyz
        exact h.running y z d e hd (Mst.put_slots_other hzx ▸ he) hds hes ho hg hyz

end

end Sys2Proof.Machine
end

section
/-! PROOFS. Contexts and timers bound to each other (05, 8.1): the law slot by slot, and a put that moves a timer. -/

namespace Sys2Proof.Machine

/-! ### The law of the timer pool (R77, R78, R146, R153) -/

/-- The state a context's timer has in a phase. -/
def Phase.timerState (p : Phase) : TimerState := if p = .running then .running else .frozen

/-- The law of the timer pool over a table of contexts: bound timers stand only where `live` holds. -/
structure Mst.Timed (m : Mst) (ts : Vector (Option Timer) 16) (live : Prop) : Prop where
  held : ∀ (x : Fin 12) (c : Context) (tm : Template), m.slots[x] = some c → m.templates[c.template] = some tm →
    c.timer.isSome = (c.phase.live && tm.period?.isSome) ∧ ∀ u : Fin 16, c.timer = some u →
      ∃ r : Timer, ts[u] = some r ∧ r.binding = tm.binding x ∧ r.state = c.phase.timerState
  bound : ∀ (u : Fin 16) (r : Timer), ts[u] = some r → r.binding ≠ .user → r.pauses = true ∧ r.state ≠ .idle ∧ live
  frozen : ∀ (u : Fin 16) (r : Timer), ts[u] = some r → r.state = .frozen →
    r.binding ≠ .user ∧ r.binding ≠ .ballSave ∧ r.binding ≠ .pfMult
  back : ∀ (u : Fin 16) (r : Timer) (x : Fin 12), ts[u] = some r → r.binding = .context x ∨ r.binding = .hurry x →
    ∃ c : Context, m.slots[x] = some c ∧ c.timer = some u
  unique : ∀ (u v : Fin 16) (r q : Timer), ts[u] = some r → ts[v] = some q → r.binding = q.binding →
    r.binding = .ballSave ∨ r.binding = .pfMult → u = v

/-- The ranges of a timer's counts (R146). -/
def Timer.Counted (r : Timer) : Prop :=
  (1 ≤ r.period ∧ r.period ≤ 65535) ∧ (∀ n ∈ r.staged, 1 ≤ n ∧ n ≤ 65535) ∧ r.remaining ≤ 65535 ∧
    (r.state ≠ .idle → 1 ≤ r.remaining)

/-- The ranges of the counts over a table of contexts and the timers (R74, R77, R146). -/
structure Mst.Counted (m : Mst) (ts : Vector (Option Timer) 16) : Prop where
  timers : ∀ (u : Fin 16) (r : Timer), ts[u] = some r → r.Counted
  periods : ∀ (i : Fin 32) (tm : Template), m.templates[i] = some tm → ∀ n, tm.period? = some n → 1 ≤ n ∧ n ≤ 65535
  parked : ∀ (x : Fin 12) (c : Context), m.slots[x] = some c → c.phase = .parked →
    c.stored ≤ 65535 ∧ ∀ tm : Template, m.templates[c.template] = some tm → tm.period? ≠ none → 1 ≤ c.stored

theorem Template.binding_slot {tm : Template} {x : Fin 12} : tm.binding x = .context x ∨ tm.binding x = .hurry x := by
  unfold Template.binding
  split
  · exact .inr rfl
  · exact .inl rfl

/-- The binding of a context's timer names its slot. -/
theorem Template.binding_inj {tm tm' : Template} {x y : Fin 12} (h : tm.binding x = tm'.binding y) : x = y := by
  unfold Template.binding at h
  split at h <;> split at h <;> cases h <;> rfl

theorem Template.binding_names {tm : Template} {x y : Fin 12} (h : tm.binding x = .context y ∨ tm.binding x = .hurry y) :
    y = x := by
  unfold Template.binding at h
  split at h <;> rcases h with h | h <;> cases h <;> rfl

theorem Template.binding_ne {tm : Template} {x : Fin 12} :
    tm.binding x ≠ .user ∧ tm.binding x ≠ .ballSave ∧ tm.binding x ≠ .pfMult := by
  rcases Template.binding_slot (tm := tm) (x := x) with h | h <;> rw [h] <;> exact ⟨nofun, nofun, nofun⟩

section
variable {s : State} {x : Fin 12} {c : Context} {tm : Template}

theorem State.slotTimer?_eq (hc : s.mst.slots[x] = some c) : s.slotTimer? x = c.timer := by
  have hslot : s.slot? x = some c := hc
  rw [State.slotTimer?, hslot, Option.bind_some]

theorem State.needsTimer_eq (hc : s.mst.slots[x] = some c) (ht : s.mst.templates[c.template] = some tm) :
    s.needsTimer x = (c.phase.live && tm.period?.isSome) := by
  rw [State.needsTimer, State.isLive_eq hc, State.slotTemplate?_eq, Mst.template?_eq hc, ht, Option.bind_some]

theorem State.wantedKey?_eq (hc : s.mst.slots[x] = some c) (ht : s.mst.templates[c.template] = some tm) :
    s.wantedKey? x = some (tm.binding x, c.phase.timerState) := by
  rw [State.wantedKey?, State.slotTemplate?_eq, Mst.template?_eq hc, ht, State.isRunning_eq hc, Phase.timerState]
  simp

theorem State.timerKey?_eq_some {u : Fin 16} {k : Binding × TimerState} :
    s.timerKey? u = some k ↔ ∃ r, s.tmu.timers[u] = some r ∧ (r.binding, r.state) = k := Option.map_eq_some_iff

theorem State.slotTimer?_eq_some {u : Fin 16} :
    s.slotTimer? x = some u ↔ ∃ c, s.mst.slots[x] = some c ∧ c.timer = some u := Option.bind_eq_some_iff

/-- The law of the timer pool is the law of the tables. -/
theorem timerLaw_iff (hm : ModeLaw s) : TimerLaw s ↔
    s.mst.Timed s.tmu.timers (s.gpc.game = .starting ∨ s.gpc.game = .inPlay) := by
  obtain ⟨hfits, -⟩ := modeLaw_iff.mp hm
  constructor
  · rintro ⟨hheld, hown, hunique⟩
    refine ⟨fun x c tm hc ht => ?_, fun u r hu => (hown u r hu).1, fun u r hu => (hown u r hu).2.1,
      fun u r x hu hb => State.slotTimer?_eq_some.mp ((hown u r hu).2.2 x hb), fun u v r q hu hv hb hk => ?_⟩
    · obtain ⟨hsome, hkey⟩ := hheld x
      rw [State.slotTimer?_eq hc, State.needsTimer_eq hc ht] at hsome
      refine ⟨hsome, fun u hu => ?_⟩
      have hkey := hkey u ((State.slotTimer?_eq hc).trans hu)
      rw [State.wantedKey?_eq hc ht] at hkey
      obtain ⟨r, hr, hrk⟩ := State.timerKey?_eq_some.mp hkey
      obtain ⟨hb, hst⟩ := Prod.mk.inj hrk
      exact ⟨r, hr, hb, hst⟩
    · by_contra hne
      obtain ⟨h1, h2⟩ := hunique u v hne r hu q hv hb
      exact hk.elim h1 h2
  · intro h
    refine ⟨fun x => ?_, fun u r hu => ⟨h.bound u r hu, h.frozen u r hu, fun x hb =>
      State.slotTimer?_eq_some.mpr (h.back u r x hu hb)⟩, fun u v hne r hu q hv hb =>
        ⟨fun hk => hne (h.unique u v r q hu hv hb (.inl hk)), fun hk => hne (h.unique u v r q hu hv hb (.inr hk))⟩⟩
    cases hc : s.mst.slots[x] with
    | none =>
      have hslot : s.slot? x = none := hc
      simp [State.slotTimer?, State.needsTimer, State.isLive, hslot]
    | some c =>
      obtain ⟨tm, ht⟩ := hfits.template x c hc
      obtain ⟨hsome, hkey⟩ := h.held x c tm hc ht
      rw [State.slotTimer?_eq hc, State.needsTimer_eq hc ht, State.wantedKey?_eq hc ht]
      refine ⟨hsome, fun u hu => ?_⟩
      obtain ⟨r, hr, hb, hst⟩ := hkey u hu
      exact State.timerKey?_eq_some.mpr ⟨r, hr, by rw [hb, hst]⟩

theorem countLaw_iff : CountLaw s ↔ s.mst.Counted s.tmu.timers ∧ s.gpc.params.ballSaveTicks ≤ 65535 ∧
    s.lmc.params.mbSaveTicks ≤ 65535 := by
  constructor
  · rintro ⟨htimers, hperiods, hparked, hp⟩
    refine ⟨⟨htimers, hperiods, fun x c hc hph => ?_⟩, hp⟩
    obtain ⟨h1, h2⟩ := hparked x c hc hph
    refine ⟨h1, fun tm ht hn => ?_⟩
    obtain ⟨n, hn⟩ := Option.ne_none_iff_exists'.mp hn
    exact h2 n (by rw [State.slotTemplate?_eq, Mst.template?_eq hc, ht]; exact hn)
  · rintro ⟨h, hp⟩
    refine ⟨h.timers, h.periods, fun x c hc hph => ?_, hp⟩
    obtain ⟨h1, h2⟩ := h.parked x c hc hph
    refine ⟨h1, fun n hn => ?_⟩
    rw [State.slotTemplate?_eq, Mst.template?_eq hc] at hn
    obtain ⟨tm, ht, hn⟩ := Option.bind_eq_some_iff.mp hn
    exact h2 tm ht (by rw [hn]; nofun)

end

/-! ### A put that moves a timer -/

section
variable {m : Mst} {ts ts' : Vector (Option Timer) 16} {cur : Nat} {live : Prop} {x : Fin 12} {c : Context} {tm : Template}

/-- What becomes of the timers when record c comes into slot x: the timer the slot held is released unless c holds it,
the timer c holds was FREE or the slot's own and is bound to the slot, in the state of the phase; no other changes. -/
structure Mst.Retimes (m : Mst) (ts ts' : Vector (Option Timer) 16) (x : Fin 12) (c : Context) (tm : Template) : Prop where
  kept : ∀ v : Fin 16, c.timer ≠ some v → (m.slots[x]).bind Context.timer ≠ some v → ts'[v] = ts[v]
  released : ∀ v : Fin 16, (m.slots[x]).bind Context.timer = some v → c.timer ≠ some v → ts'[v] = none
  taken : ∀ v : Fin 16, c.timer = some v → (ts[v] = none ∨ (m.slots[x]).bind Context.timer = some v) ∧
    ∃ r : Timer, ts'[v] = some r ∧ r.binding = tm.binding x ∧ r.state = c.phase.timerState ∧ r.pauses = true
  needed : c.timer.isSome = (c.phase.live && tm.period?.isSome)

/-- A timer held by the context of another slot is no timer of x, old or new. -/
theorem Mst.Retimes.other (hr : m.Retimes ts ts' x c tm) (hm : m.Fits cur live) (h : m.Timed ts live) {y : Fin 12}
    {d : Context} {u : Fin 16} (hyx : y ≠ x) (hd : m.slots[y] = some d) (hu : d.timer = some u) :
    c.timer ≠ some u ∧ (m.slots[x]).bind Context.timer ≠ some u := by
  obtain ⟨tm', ht'⟩ := hm.template y d hd
  obtain ⟨r, hr', hb, -⟩ := (h.held y d tm' hd ht').2 u hu
  have hold : (m.slots[x]).bind Context.timer ≠ some u := fun hold => by
    obtain ⟨e, he, heu⟩ := Option.bind_eq_some_iff.mp hold
    obtain ⟨tm'', ht''⟩ := hm.template x e he
    obtain ⟨q, hq, hqb, -⟩ := (h.held x e tm'' he ht'').2 u heu
    obtain rfl := Option.some.inj (hr'.symm.trans hq)
    exact hyx (Template.binding_inj (hb.symm.trans hqb))
  refine ⟨fun hnew => ?_, hold⟩
  rcases (hr.taken u hnew).1 with hfree | hsame
  · nomatch hfree.symm.trans hr'
  · exact hold hsame

/-- A timer record after the put is the one taken by c, or an old one that x did not hold. -/
theorem Mst.Retimes.cases (hr : m.Retimes ts ts' x c tm) {u : Fin 16} {r : Timer} (hu : ts'[u] = some r) :
    (c.timer = some u ∧ r.binding = tm.binding x ∧ r.state = c.phase.timerState ∧ r.pauses = true) ∨
    (c.timer ≠ some u ∧ (m.slots[x]).bind Context.timer ≠ some u ∧ ts[u] = some r) := by
  by_cases hnew : c.timer = some u
  · obtain ⟨q, hq, hb, hst, hp⟩ := (hr.taken u hnew).2
    obtain rfl := Option.some.inj (hu.symm.trans hq)
    exact .inl ⟨hnew, hb, hst, hp⟩
  · by_cases hold : (m.slots[x]).bind Context.timer = some u
    · nomatch (hr.released u hold hnew).symm.trans hu
    · exact .inr ⟨hnew, hold, (hr.kept u hnew hold).symm.trans hu⟩

theorem Phase.timerState_ne_idle (p : Phase) : p.timerState ≠ .idle := by
  unfold Phase.timerState
  split <;> nofun

theorem Mst.Timed.put (h : m.Timed ts live) (hm : m.Fits cur live) (ht : m.templates[c.template] = some tm)
    (hlive : c.phase.live = true → live) (hr : m.Retimes ts ts' x c tm) : (m.put x c).Timed ts' live where
  held y d tm' hd ht' := by
    by_cases hyx : y = x
    · subst hyx
      rw [Mst.put_slots_same] at hd
      obtain rfl := Option.some.inj hd
      obtain rfl := Option.some.inj (ht.symm.trans ht')
      refine ⟨hr.needed, fun u hu => ?_⟩
      obtain ⟨r, hru, hb, hst, -⟩ := (hr.taken u hu).2
      exact ⟨r, hru, hb, hst⟩
    · rw [Mst.put_slots_other hyx] at hd
      obtain ⟨hsome, hheld⟩ := h.held y d tm' hd ht'
      refine ⟨hsome, fun u hu => ?_⟩
      obtain ⟨hnew, hold⟩ := hr.other hm h hyx hd hu
      rw [hr.kept u hnew hold]
      exact hheld u hu
  bound u r hu hb := by
    rcases hr.cases hu with ⟨hnew, -, hst, hp⟩ | ⟨-, -, hts⟩
    · have hneeded := hr.needed
      rw [hnew, Option.isSome_some] at hneeded
      exact ⟨hp, hst ▸ Phase.timerState_ne_idle _, hlive (Bool.and_eq_true_iff.mp hneeded.symm).1⟩
    · exact h.bound u r hts hb
  frozen u r hu hst := by
    rcases hr.cases hu with ⟨-, hb, -, -⟩ | ⟨-, -, hts⟩
    · exact hb ▸ Template.binding_ne
    · exact h.frozen u r hts hst
  back u r z hu hb := by
    rcases hr.cases hu with ⟨hnew, hbx, -, -⟩ | ⟨-, hold, hts⟩
    · obtain rfl := Template.binding_names (hbx ▸ hb)
      exact ⟨c, Mst.put_slots_same, hnew⟩
    · obtain ⟨d, hd, hdu⟩ := h.back u r z hts hb
      have hzx : z ≠ x := fun e => hold (Option.bind_eq_some_iff.mpr ⟨d, e ▸ hd, hdu⟩)
      exact ⟨d, (Mst.put_slots_other hzx).trans hd, hdu⟩
  unique u v r q hu hv hrq hk := by
    have old : ∀ {w : Fin 16} {k : Timer}, ts'[w] = some k → k.binding = .ballSave ∨ k.binding = .pfMult →
        ts[w] = some k := fun {w k} hw hk => by
      rcases hr.cases hw with ⟨-, hb, -, -⟩ | ⟨-, -, hts⟩
      · obtain ⟨-, h1, h2⟩ := Template.binding_ne (tm := tm) (x := x)
        exact absurd (hb ▸ hk) (not_or.mpr ⟨h1, h2⟩)
      · exact hts
    exact h.unique u v r q (old hu hk) (old hv (hrq ▸ hk)) hrq hk

theorem Mst.Counted.put (h : m.Counted ts)
    (htimers : ∀ (u : Fin 16) (r : Timer), ts'[u] = some r → ts[u] = some r ∨ r.Counted)
    (hparked : c.phase = .parked → c.stored ≤ 65535 ∧ ∀ tm : Template, m.templates[c.template] = some tm →
      tm.period? ≠ none → 1 ≤ c.stored) : (m.put x c).Counted ts' where
  timers u r hu := (htimers u r hu).elim (h.timers u r) id
  periods := h.periods
  parked y d hd hp := by
    by_cases hyx : y = x
    · subst hyx
      rw [Mst.put_slots_same] at hd
      obtain rfl := Option.some.inj hd
      exact hparked hp
    · exact h.parked y d (Mst.put_slots_other hyx ▸ hd) hp

end

/-! ### The laws of the stack, the timers and the counts, kept together -/

/-- What an operation keeps of the laws of the mode stack, the timer pool and the counts, the current player being
`cur`, the game in a state in which contexts run exactly where `live` holds, and the parameters within their
bounds where `ok` holds. -/
structure ModesKept (cur : Nat) (live ok : Prop) (s t : State) : Prop where
  modes : s.mst.Fits cur live → t.mst.Fits cur live
  timers : s.mst.Fits cur live → s.mst.Timed s.tmu.timers live → t.mst.Timed t.tmu.timers live
  counts : ok → s.mst.Fits cur live → s.mst.Timed s.tmu.timers live → s.mst.Counted s.tmu.timers →
    t.mst.Counted t.tmu.timers
  free : ¬ live → (∀ x : Fin 12, s.mst.slots[x] = none) → ∀ x : Fin 12, t.mst.slots[x] = none

section
variable {cur : Nat} {live ok : Prop} {s t u : State}

theorem ModesKept.refl (s : State) : ModesKept cur live ok s s := ⟨id, fun _ => id, fun _ _ _ => id, fun _ => id⟩

theorem ModesKept.trans (h : ModesKept cur live ok s t) (h' : ModesKept cur live ok t u) : ModesKept cur live ok s u where
  modes := h'.modes ∘ h.modes
  timers hm ht := h'.timers (h.modes hm) (h.timers hm ht)
  counts hok hm ht hc := h'.counts hok (h.modes hm) (h.timers hm ht) (h.counts hok hm ht hc)
  free hl hs := h'.free hl (h.free hl hs)

theorem ModesKept.ite {c : Prop} [Decidable c] (h : ModesKept cur live ok s t) (h' : ModesKept cur live ok s u) :
    ModesKept cur live ok s (if c then t else u) := by split <;> assumption

/-- An operation after others that leaves contexts and timers alone. -/
theorem ModesKept.then_frame (h : ModesKept cur live ok s t) (hm : u.mst = t.mst := by simp)
    (ht : u.tmu.timers = t.tmu.timers := by simp) : ModesKept cur live ok s u where
  modes := hm ▸ h.modes
  timers := by rw [hm, ht]; exact h.timers
  counts := by rw [hm, ht]; exact h.counts
  free := hm ▸ h.free

end

end Sys2Proof.Machine
end

section
/-! PROOFS. The moves of a context (05, 5.3 to 5.8): each is a put, with the timers it freezes, thaws, takes or releases. -/

namespace Sys2Proof.Machine

/-! ### The timers of the operations (R152 to R154) -/

section
variable (s : State) (v : Fin 16)

theorem State.setTimer_timers (u : Fin 16) (r : Option Timer) :
    (s.setTimer u r).tmu.timers[v] = if v = u then r else s.tmu.timers[v] := by
  split
  · next h => subst h; exact Vector.getElem_set_self v.isLt
  · next h => exact Vector.getElem_set_ne u.isLt v.isLt fun e => h (Fin.ext e.symm)

theorem State.modifyTimer_timers (u : Fin 16) (f : Timer → Timer) :
    (s.modifyTimer u f).tmu.timers[v] = if v = u then (s.tmu.timers[v]).map f else s.tmu.timers[v] := by
  rw [State.modifyTimer, State.setTimer_timers]
  split
  · next h => rw [h]
  · rfl

theorem State.amendTimer_timerAt (u : Fin 16) (f : Timer → Timer) :
    (s.amendTimer u f).tmu.timers[v] = if v = u then (s.tmu.timers[v]).map f else s.tmu.timers[v] := by
  split
  · next h => subst h; exact Vector.getElem_set_self v.isLt
  · next h => exact Vector.getElem_set_ne u.isLt v.isLt fun e => h (Fin.ext e.symm)

theorem State.modifyHeld_timers (o : Option (Fin 16)) (f : Timer → Timer) :
    (s.modifyHeld o f).tmu.timers[v] = if o = some v then (s.tmu.timers[v]).map f else s.tmu.timers[v] := by
  cases o with
  | none => rfl
  | some u => simp only [State.modifyHeld, State.modifyTimer_timers, Option.some.injEq, eq_comm (a := v)]

theorem State.amendHeld_timers (o : Option (Fin 16)) (f : Timer → Timer) :
    (s.amendHeld o f).tmu.timers[v] = if o = some v then (s.tmu.timers[v]).map f else s.tmu.timers[v] := by
  cases o with
  | none => rfl
  | some u => simp only [State.amendHeld, State.amendTimer_timerAt, Option.some.injEq, eq_comm (a := v)]

theorem State.releaseHeld_timers (o : Option (Fin 16)) :
    (s.releaseHeld o).tmu.timers[v] = if o = some v then none else s.tmu.timers[v] := by
  cases o with
  | none => rfl
  | some u => simp only [State.releaseHeld, State.releaseTimer, State.setTimer_timers, Option.some.injEq, eq_comm (a := v)]

end

/-! ### The moves as puts -/

section
variable {m : Mst} {x : Fin 12} {c c' : Context} {o : Option Context} {cur : Nat} {live : Prop}

/-- What a put leaves is the same whatever the slot held before. -/
theorem Mst.put_set : Mst.put { m with slots := m.slots.set x.val o x.isLt } x c = m.put x c := by
  simp only [Mst.put, Vector.set_set]

theorem Mst.put_template? (hc : m.slots[x] = some c) (ht : c'.template = c.template) :
    (m.put x c').template? = m.template? := by
  funext y
  by_cases hyx : y = x
  · subst hyx
    rw [Mst.template?_eq hc, Mst.template?_eq Mst.put_slots_same]
    simp only [ht]
    rfl
  · exact Mst.put_template?_other hyx

theorem Mst.put_priority (hc : m.slots[x] = some c) (ht : c'.template = c.template) :
    (m.put x c').priority = m.priority := by
  funext y
  rw [Mst.priority, Mst.put_template? hc ht]
  rfl

theorem Mst.put_group (hc : m.slots[x] = some c) (ht : c'.template = c.template) :
    (m.put x c').group = m.group := by
  funext y
  rw [Mst.group, Mst.put_template? hc ht]
  rfl

theorem Mst.Fits.not_mem_ended (h : m.Fits cur live) (hc : m.slots[x] = some c) (hs : c.phase.stands = true) :
    x ∉ m.ended := fun hx => by
  obtain ⟨d, hd, hds⟩ := (h.ended x).mp hx
  obtain rfl := Option.some.inj (hc.symm.trans hd)
  exact Bool.false_ne_true (hds.symm.trans hs)

theorem Mst.Fits.not_mem_stack (h : m.Fits cur live) (hc : m.slots[x] = some c) (hs : c.phase ≠ .running) :
    x ∉ m.stack := fun hx => by
  obtain ⟨d, hd, hds⟩ := (h.stack x).mp hx
  obtain rfl := Option.some.inj (hc.symm.trans hd)
  exact hs hds

theorem Mst.Fits.not_mem_pause (h : m.Fits cur live) (hc : m.slots[x] = some c) (hs : c.phase ≠ .paused) :
    x ∉ m.pauseOrder := fun hx => by
  obtain ⟨d, hd, hds⟩ := (h.pause x).mp hx
  obtain rfl := Option.some.inj (hc.symm.trans hd)
  exact hs hds

end

section
variable {s : State} {x : Fin 12} {c : Context} {v : Option (Fin 16)} {tm : Template}

theorem State.modifySlot_present (f : Context → Context) (hc : s.mst.slots[x] = some c) :
    (s.modifySlot x f).mst = { s.mst with slots := s.mst.slots.set x.val (some (f c)) x.isLt } := by
  have hslot : s.slot? x = some c := hc
  rw [State.modifySlot, hslot]
  rfl

theorem State.slotTimer?_modifySlot (f : Context → Context) (hc : s.mst.slots[x] = some c) :
    (s.modifySlot x f).slotTimer? x = (f c).timer := by
  refine State.slotTimer?_eq ?_
  rw [State.modifySlot_present f hc]
  exact Vector.getElem_set_self x.isLt

/-- A context that enters RUNNING, its ended list apart, is put there. -/
theorem State.enterRunning_put (hc : s.mst.slots[x] = some c) :
    (s.enterRunning x).mst = { s.mst.put x { c with phase := .running } with ended := s.mst.ended } := by
  have hslot : s.slot? x = some c := hc
  have hprio := Mst.put_priority (c' := { c with phase := .running }) hc rfl
  rw [State.enterRunning_mst, hslot, State.slotPriority_eq, Mst.put]
  simp only [if_true, reduceCtorEq, if_false, Option.map_some]
  exact congrArg (fun p => { s.mst with
    slots := s.mst.slots.set x.val (some { c with phase := .running }) x.isLt
    stack := insertByPriority p x (p x) (s.mst.stack.erase x)
    pauseOrder := s.mst.pauseOrder.erase x }) hprio.symm

theorem State.enterPaused_put (hc : s.mst.slots[x] = some c) :
    (s.enterPaused x).mst = { s.mst.put x { c with phase := .paused } with ended := s.mst.ended } := by
  have hslot : s.slot? x = some c := hc
  rw [State.enterPaused_mst, hslot]
  rfl

theorem State.enterRunning_timers (hc : s.mst.slots[x] = some c) (u : Fin 16) :
    (s.enterRunning x).tmu.timers[u] = if c.timer = some u then (s.tmu.timers[u]).map Timer.thaw else s.tmu.timers[u] := by
  have hslot : (State.modifySlot { s.leaveLists x with mst := { (s.leaveLists x).mst with
      stack := insertByPriority (s.leaveLists x).slotPriority x ((s.leaveLists x).slotPriority x)
        (s.leaveLists x).mst.stack } } x fun c => { c with phase := .running }).slotTimer? x = c.timer :=
    State.slotTimer?_modifySlot _ hc
  rw [State.enterRunning, hslot, State.modifyHeld_timers]
  rfl

theorem State.enterPaused_timers (hc : s.mst.slots[x] = some c) (u : Fin 16) :
    (s.enterPaused x).tmu.timers[u] = if c.timer = some u then (s.tmu.timers[u]).map Timer.freeze else s.tmu.timers[u] := by
  have hslot : (State.modifySlot { s.leaveLists x with mst := { (s.leaveLists x).mst with
      pauseOrder := (s.leaveLists x).mst.pauseOrder ++ [x] } } x fun c => { c with phase := .paused }).slotTimer? x =
        c.timer :=
    State.slotTimer?_modifySlot _ hc
  rw [State.enterPaused, hslot, State.modifyHeld_timers]
  rfl

/-- A context as its end leaves it (R91). -/
def Context.endedWith (c : Context) (reason : EndReason) (n : Nat) : Context :=
  { c with phase := .ended reason, timer := none, stored := n }

theorem State.endContext_standing {reason : EndReason} {returns : Bool} (hc : s.mst.slots[x] = some c)
    (hs : c.phase.stands = true) : s.endContext x reason returns =
      (if returns = true ∧ c.phase = .running then
        ((s.releaseHeld c.timer).leaveLists x).returnPaused c.owner (s.slotGroup x)
      else (s.releaseHeld c.timer).leaveLists x).enterEnded x reason (s.remainingOf c) := by
  have hslot : s.slot? x = some c := hc
  simp only [State.endContext, hslot, hs, if_true]

theorem State.endContext_quiet {reason : EndReason} (hc : s.mst.slots[x] = some c) (hs : c.phase.stands = true) :
    s.endContext x reason false =
      ((s.releaseHeld c.timer).leaveLists x).enterEnded x reason (s.remainingOf c) := by
  rw [State.endContext_standing hc hs, if_neg fun h => Bool.false_ne_true h.1]

theorem State.released_mst (o : Option (Fin 16)) : ((s.releaseHeld o).leaveLists x).mst =
    { s.mst with stack := s.mst.stack.erase x, pauseOrder := s.mst.pauseOrder.erase x } := by
  simp only [State.leaveLists, State.releaseHeld_mst]

/-- The end of a standing context, no return made, puts it among the ended (R91). -/
theorem State.endContext_put {reason : EndReason} (hc : s.mst.slots[x] = some c) (hs : c.phase.stands = true)
    (hx : x ∉ s.mst.ended) :
    (s.endContext x reason false).mst = s.mst.put x (c.endedWith reason (s.remainingOf c)) := by
  have hleft : ((s.releaseHeld c.timer).leaveLists x).slot? x = some c := by
    rw [State.slot?, State.released_mst]
    exact hc
  rw [State.endContext_quiet hc hs, State.enterEnded_mst, hleft, State.released_mst, Mst.put,
    List.erase_of_not_mem hx]
  rfl

theorem State.endContext_timers {reason : EndReason} (hc : s.mst.slots[x] = some c) (hs : c.phase.stands = true)
    (u : Fin 16) : (s.endContext x reason false).tmu.timers[u] = if c.timer = some u then none else s.tmu.timers[u] := by
  rw [State.endContext_quiet hc hs]
  exact State.releaseHeld_timers s u c.timer

/-- A context parked is put there with its count stored and no timer (R94). -/
theorem State.park_put (hc : s.mst.slots[x] = some c) (hx : x ∉ s.mst.ended) : (s.park x).mst =
    s.mst.put x { c with phase := .parked, timer := none, stored := s.remainingOf c } := by
  have hslot : s.slot? x = some c := hc
  have hleft : ((s.releaseHeld c.timer).leaveLists x).mst.slots[x] = some c := by
    rw [State.released_mst]
    exact hc
  simp only [State.park, hslot]
  rw [State.modifySlot_present _ hleft, State.released_mst, Mst.put, List.erase_of_not_mem hx]
  rfl

theorem State.park_timers (hc : s.mst.slots[x] = some c) (u : Fin 16) :
    (s.park x).tmu.timers[u] = if c.timer = some u then none else s.tmu.timers[u] := by
  have hslot : s.slot? x = some c := hc
  simp only [State.park, hslot]
  exact State.releaseHeld_timers s u c.timer

/-- A context with the timer it takes, when it takes one. -/
def Context.taking (c : Context) (v : Option (Fin 16)) : Context := { c with timer := v.or c.timer }

theorem State.takeTimer_slot (n : Nat) (hc : s.mst.slots[x] = some c) :
    (s.takeTimer x tm v n).mst = { s.mst with slots := s.mst.slots.set x.val (some (c.taking v)) x.isLt } := by
  cases v with
  | none =>
    have hset : s.mst.slots.set x.val (some c) x.isLt = s.mst.slots := by
      conv_rhs => rw [← Vector.set_getElem_self (xs := s.mst.slots) x.isLt]
      exact congrArg (fun o => s.mst.slots.set x.val o x.isLt) hc.symm
    exact congrArg (fun l => { s.mst with slots := l }) hset.symm
  | some u => exact State.modifySlot_present (s := s.setTimer u _) _ hc

theorem State.takeTimer_timers (n : Nat) (u : Fin 16) : (s.takeTimer x tm v n).tmu.timers[u] =
    if v = some u then some (tm.timer x (tm.period?.getD 0) n) else s.tmu.timers[u] := by
  cases v with
  | none => rfl
  | some w =>
    rw [show (s.takeTimer x tm (some w) n).tmu = (s.setTimer w _).tmu from rfl, State.setTimer_timers]
    simp only [Option.some.injEq, eq_comm (a := u)]

end

end Sys2Proof.Machine
end

section
/-! PROOFS. What the moves of a context keep (05, 08): ends, parking, pauses, returns, amended records and timers. -/

namespace Sys2Proof.Machine

/-! ### Kept by a put -/

section
variable {cur : Nat} {live ok : Prop} {s t : State} {x : Fin 12} {c : Context}

/-- An operation that puts a record into a slot. -/
theorem ModesKept.of_put {c' : Context} (hput : s.mst.Fits cur live → t.mst = s.mst.put x c')
    (htm : s.mst.Fits cur live → ∃ tm, s.mst.templates[c'.template] = some tm)
    (howner : s.mst.Fits cur live → c'.phase.live = true → c'.owner = cur ∧ live)
    (hstanding : s.mst.Fits cur live → c'.phase.stands = true → ∀ (y : Fin 12) (d : Context), y ≠ x →
      s.mst.slots[y] = some d → d.phase.stands = true → d.owner = c'.owner → d.template ≠ c'.template)
    (hrunning : s.mst.Fits cur live → c'.phase = .running → (s.mst.put x c').group x ≠ 0 →
      ∀ (y : Fin 12) (d : Context), y ≠ x → s.mst.slots[y] = some d → d.phase = .running → d.owner = c'.owner →
        s.mst.group y ≠ (s.mst.put x c').group x)
    (htimers : s.mst.Fits cur live → s.mst.Timed s.tmu.timers live → ∀ tm, s.mst.templates[c'.template] = some tm →
      s.mst.Retimes s.tmu.timers t.tmu.timers x c' tm)
    (hcounts : s.mst.Fits cur live → s.mst.Timed s.tmu.timers live → s.mst.Counted s.tmu.timers →
      (∀ (u : Fin 16) (r : Timer), t.tmu.timers[u] = some r → s.tmu.timers[u] = some r ∨ r.Counted) ∧
      (c'.phase = .parked → c'.stored ≤ 65535 ∧ ∀ tm : Template, s.mst.templates[c'.template] = some tm →
        tm.period? ≠ none → 1 ≤ c'.stored))
    (hfree : ¬ live → s.mst.slots[x] ≠ none) : ModesKept cur live ok s t where
  modes h := by
    rw [hput h]
    exact h.put (htm h) (howner h) (hstanding h) (hrunning h)
  timers h ht := by
    obtain ⟨tm, htmpl⟩ := htm h
    rw [hput h]
    exact ht.put h htmpl (fun hl => (howner h hl).2) (htimers h ht tm htmpl)
  counts _ h ht hc := by
    obtain ⟨h1, h2⟩ := hcounts h ht hc
    rw [hput h]
    exact hc.put h1 h2
  free hl hall := absurd (hall x) (hfree hl)

/-- The end of a context without a return keeps the laws (R91). -/
theorem ModesKept.endContext (s : State) (x : Fin 12) (reason : EndReason) :
    ModesKept cur live ok s (s.endContext x reason false) := by
  cases hc : s.mst.slots[x] with
  | none =>
    have hslot : s.slot? x = none := hc
    rw [State.endContext, hslot]
    exact .refl s
  | some c =>
    by_cases hs : c.phase.stands = true
    · refine ModesKept.of_put (x := x) (c' := c.endedWith reason (s.remainingOf c))
        (fun h => State.endContext_put hc hs (h.not_mem_ended hc hs)) (fun h => h.template x c hc) nofun nofun nofun
        (fun h ht tm htm => ?_) (fun h ht hcount => ⟨fun u r hu => ?_, nofun⟩) fun _ => by rw [hc]; nofun
      · refine ⟨fun v _ hv => ?_, fun v hv _ => ?_, nofun, rfl⟩
        · rw [hc, Option.bind_some] at hv
          rw [State.endContext_timers hc hs, if_neg hv]
        · rw [hc, Option.bind_some] at hv
          rw [State.endContext_timers hc hs, if_pos hv]
      · rw [State.endContext_timers hc hs] at hu
        split at hu
        · nomatch hu
        · exact .inl hu
    · have hslot : s.slot? x = some c := hc
      rw [State.endContext, hslot]
      simp only [if_neg hs]
      exact .refl s

theorem ModesKept.endAll (s : State) (which : State → Fin 12 → Bool) (reason : EndReason) :
    ModesKept cur live ok s (s.endAll which reason) :=
  foldl_keeps (ModesKept cur live ok s) _ (fun t x h => .ite (h.trans (.endContext t x reason)) h) _ _ (.refl s)

theorem State.remainingOf_untimed (hl : c.phase.live = true) (hv : c.timer = none) : s.remainingOf c = 0 := by
  rcases Phase.live_iff.mp hl with hp | hp <;> simp only [State.remainingOf, hp, hv]

theorem State.remainingOf_timed {u : Fin 16} (hl : c.phase.live = true) (hv : c.timer = some u) :
    s.remainingOf c = ((s.tmu.timers[u]).map Timer.remaining).getD 0 := by
  rcases Phase.live_iff.mp hl with hp | hp <;> simp only [State.remainingOf, hp, hv]

/-- The count a RUNNING or PAUSED context has left is one of a timer that counts (R77). -/
theorem State.remainingOf_counted (h : s.mst.Fits cur live) (ht : s.mst.Timed s.tmu.timers live)
    (hcount : s.mst.Counted s.tmu.timers) (hc : s.mst.slots[x] = some c) (hl : c.phase.live = true) :
    s.remainingOf c ≤ 65535 ∧ ∀ tm : Template, s.mst.templates[c.template] = some tm → tm.period? ≠ none →
      1 ≤ s.remainingOf c := by
  obtain ⟨tm, htm⟩ := h.template x c hc
  obtain ⟨hsome, hheld⟩ := ht.held x c tm hc htm
  rw [hl, Bool.true_and] at hsome
  cases hv : c.timer with
  | none =>
    rw [hv] at hsome
    refine ⟨by rw [State.remainingOf_untimed hl hv]; exact Nat.zero_le _, fun tm' htm' hper => ?_⟩
    obtain rfl := Option.some.inj (htm.symm.trans htm')
    exact absurd (Option.isSome_eq_false_iff.mp hsome.symm) (by simpa using hper)
  | some u =>
    obtain ⟨r, hr, -, hst⟩ := hheld u hv
    obtain ⟨-, -, h2, h3⟩ := hcount.timers u r hr
    rw [State.remainingOf_timed hl hv, hr, Option.map_some, Option.getD_some]
    exact ⟨h2, fun _ _ _ => h3 (hst ▸ Phase.timerState_ne_idle _)⟩

/-- A context's owner and template stand once: what takes the place of a standing record is as unique as it was. -/
theorem Mst.Fits.standing_ne {m : Mst} (h : m.Fits cur live) (hc : m.slots[x] = some c) (hs : c.phase.stands = true)
    {y : Fin 12} {d : Context} (hyx : y ≠ x) (hd : m.slots[y] = some d) (hds : d.phase.stands = true)
    (ho : d.owner = c.owner) : d.template ≠ c.template := fun ht =>
  hyx (h.standing y x d c hd hc hds hs ho ht)

/-- Parking a RUNNING or PAUSED context keeps the laws (R94). -/
theorem ModesKept.park (hc : s.mst.slots[x] = some c) (hl : c.phase.live = true) : ModesKept cur live ok s (s.park x) := by
  have hs := Phase.stands_of_live hl
  refine ModesKept.of_put (x := x) (c' := { c with phase := .parked, timer := none, stored := s.remainingOf c })
    (fun h => State.park_put hc (h.not_mem_ended hc hs)) (fun h => h.template x c hc) nofun
    (fun h _ y d hyx hd hds ho => h.standing_ne hc hs hyx hd hds ho) nofun (fun h ht tm htm => ?_)
    (fun h ht hcount => ⟨fun u r hu => ?_, fun _ => State.remainingOf_counted h ht hcount hc hl⟩)
    fun _ => by rw [hc]; nofun
  · refine ⟨fun v _ hv => ?_, fun v hv _ => ?_, nofun, rfl⟩
    · rw [hc, Option.bind_some] at hv
      rw [State.park_timers hc, if_neg hv]
    · rw [hc, Option.bind_some] at hv
      rw [State.park_timers hc, if_pos hv]
  · rw [State.park_timers hc] at hu
    split at hu
    · nomatch hu
    · exact .inl hu

theorem ModesKept.parkOrEnd (hl : s.isLive x = true) : ModesKept cur live ok s (s.parkOrEnd x) := by
  obtain ⟨c, hc, hcl⟩ := State.isLive_iff.mp hl
  unfold State.parkOrEnd
  split
  · exact .refl s
  · exact .ite (.endContext ..) (.ite (.endContext ..) (.ite (.park hc hcl) (.endContext ..)))

theorem ModesKept.parkAll (s : State) : ModesKept cur live ok s s.parkAll := by
  refine foldl_keeps (ModesKept cur live ok s) _ (fun t x h => ?_) _ _ (.refl s)
  split
  · next hl => exact h.trans (.parkOrEnd (Bool.and_eq_true_iff.mp hl).1)
  · exact h

/-! ### Pauses and returns (R85, R91) -/

theorem Timer.freeze_fields (r : Timer) : r.freeze.binding = r.binding ∧ r.freeze.pauses = r.pauses ∧
    r.freeze.period = r.period ∧ r.freeze.staged = r.staged ∧ r.freeze.remaining = r.remaining ∧
    (r.state = .running ∨ r.state = .frozen → r.freeze.state = .frozen) := by
  unfold Timer.freeze
  split
  · exact ⟨rfl, rfl, rfl, rfl, rfl, fun _ => rfl⟩
  · next h => exact ⟨rfl, rfl, rfl, rfl, rfl, fun hs => hs.resolve_left h⟩

theorem Timer.thaw_fields (r : Timer) : r.thaw.binding = r.binding ∧ r.thaw.pauses = r.pauses ∧
    r.thaw.period = r.period ∧ r.thaw.staged = r.staged ∧ r.thaw.remaining = r.remaining ∧
    (r.state = .running ∨ r.state = .frozen → r.thaw.state = .running) := by
  unfold Timer.thaw
  split
  · exact ⟨rfl, rfl, rfl, rfl, rfl, fun _ => rfl⟩
  · next h => exact ⟨rfl, rfl, rfl, rfl, rfl, fun hs => hs.resolve_right h⟩

theorem Phase.timerState_counts (p : Phase) : p.timerState = .running ∨ p.timerState = .frozen := by
  unfold Phase.timerState
  split
  · exact .inl rfl
  · exact .inr rfl

/-- A context that keeps its timer, the timer's state set by a function f that changes nothing else of its record. -/
theorem Mst.Retimes.of_held {m : Mst} {ts ts' : Vector (Option Timer) 16} {c' : Context} {tm : Template}
    {f : Timer → Timer} (h : m.Timed ts live) (hc : m.slots[x] = some c) (htm : m.templates[c.template] = some tm)
    (hcl : c.phase.live = true) (hcl' : c'.phase.live = true) (htimer : c'.timer = c.timer)
    (hts : ∀ u : Fin 16, ts'[u] = if c.timer = some u then (ts[u]).map f else ts[u])
    (hf : ∀ r : Timer, (f r).binding = r.binding ∧ (f r).pauses = r.pauses ∧
      (r.state = .running ∨ r.state = .frozen → (f r).state = c'.phase.timerState)) :
    m.Retimes ts ts' x c' tm where
  kept v hv _ := by rw [hts, if_neg (htimer ▸ hv)]
  released v hv hv' := by
    rw [hc, Option.bind_some] at hv
    exact absurd (htimer ▸ hv) hv'
  taken v hv := by
    obtain ⟨r, hr, hb, hst⟩ := (h.held x c tm hc htm).2 v (htimer ▸ hv)
    obtain ⟨h1, h2, h3⟩ := hf r
    refine ⟨.inr (by rw [hc, Option.bind_some]; exact htimer ▸ hv), f r, ?_, h1.trans hb, h3 (hst ▸ Phase.timerState_counts _), ?_⟩
    · rw [hts, if_pos (htimer ▸ hv), hr, Option.map_some]
    · rw [h2]
      exact (h.bound v r hr (hb ▸ Template.binding_ne.1)).1
  needed := by rw [htimer, hcl', ← hcl]; exact (h.held x c tm hc htm).1

/-- What a function that changes only the state of a timer that counts does to the ranges. -/
theorem Timer.Counted.of_same {r q : Timer} (h : r.Counted) (hp : q.period = r.period) (hs : q.staged = r.staged)
    (hr : q.remaining = r.remaining) (hst : r.state ≠ .idle) : q.Counted := by
  obtain ⟨h1, h2, h3, h4⟩ := h
  exact ⟨hp ▸ h1, hs ▸ h2, hr ▸ h3, fun _ => hr ▸ h4 hst⟩

/-- A RUNNING context that is paused: the laws are kept (R85). -/
theorem ModesKept.enterPaused (hc : s.mst.slots[x] = some c) (hp : c.phase = .running) :
    ModesKept cur live ok s (s.enterPaused x) := by
  have hl : c.phase.live = true := Phase.live_iff.mpr (.inl hp)
  have hs := Phase.stands_of_live hl
  refine ModesKept.of_put (x := x) (c' := { c with phase := .paused }) (fun h => ?_) (fun h => h.template x c hc)
    (fun h _ => h.owner x c hc hl) (fun h _ y d hyx hd hds ho => h.standing_ne hc hs hyx hd hds ho) nofun
    (fun h ht tm htm => .of_held (f := Timer.freeze) ht hc htm hl rfl rfl (State.enterPaused_timers hc) fun r => ?_)
    (fun h ht hcount => ⟨fun u r hu => ?_, nofun⟩) fun _ => by rw [hc]; nofun
  · rw [State.enterPaused_put hc]
    exact congrArg (fun l => { s.mst.put x { c with phase := .paused } with ended := l })
      (List.erase_of_not_mem (h.not_mem_ended hc hs)).symm
  · obtain ⟨h1, h2, -, -, -, h6⟩ := r.freeze_fields
    exact ⟨h1, h2, h6⟩
  · rw [State.enterPaused_timers hc] at hu
    split at hu
    · next hv =>
      obtain ⟨q, hq, rfl⟩ := Option.map_eq_some_iff.mp hu
      obtain ⟨tm, htm⟩ := h.template x c hc
      obtain ⟨q', hq', -, hst⟩ := (ht.held x c tm hc htm).2 u hv
      obtain rfl := Option.some.inj (hq.symm.trans hq')
      obtain ⟨-, -, h3, h4, h5, -⟩ := q.freeze_fields
      exact .inr ((hcount.timers u q hq).of_same h3 h4 h5 (hst ▸ Phase.timerState_ne_idle _))
    · exact .inl hu

/-- A PAUSED context that returns: no context of its owner runs in its group (R91). -/
theorem ModesKept.enterRunning (hc : s.mst.slots[x] = some c) (hp : c.phase = .paused)
    (hgroup : s.mst.Fits cur live → s.mst.group x ≠ 0 → ∀ (y : Fin 12) (d : Context), s.mst.slots[y] = some d →
      d.phase = .running → d.owner = c.owner → s.mst.group y ≠ s.mst.group x) :
    ModesKept cur live ok s (s.enterRunning x) := by
  have hl : c.phase.live = true := Phase.live_iff.mpr (.inr hp)
  have hs := Phase.stands_of_live hl
  refine ModesKept.of_put (x := x) (c' := { c with phase := .running }) (fun h => ?_) (fun h => h.template x c hc)
    (fun h _ => h.owner x c hc hl) (fun h _ y d hyx hd hds ho => h.standing_ne hc hs hyx hd hds ho)
    (fun h _ hg y d _ hd hdr ho => ?_)
    (fun h ht tm htm => .of_held (f := Timer.thaw) ht hc htm hl rfl rfl (State.enterRunning_timers hc) fun r => ?_)
    (fun h ht hcount => ⟨fun u r hu => ?_, nofun⟩) fun _ => by rw [hc]; nofun
  · rw [State.enterRunning_put hc]
    exact congrArg (fun l => { s.mst.put x { c with phase := .running } with ended := l })
      (List.erase_of_not_mem (h.not_mem_ended hc hs)).symm
  · rw [Mst.put_group (c' := { c with phase := .running }) hc rfl] at hg ⊢
    exact hgroup h hg y d hd hdr ho
  · obtain ⟨h1, h2, -, -, -, h6⟩ := r.thaw_fields
    exact ⟨h1, h2, h6⟩
  · rw [State.enterRunning_timers hc] at hu
    split at hu
    · next hv =>
      obtain ⟨q, hq, rfl⟩ := Option.map_eq_some_iff.mp hu
      obtain ⟨tm, htm⟩ := h.template x c hc
      obtain ⟨q', hq', -, hst⟩ := (ht.held x c tm hc htm).2 u hv
      obtain rfl := Option.some.inj (hq.symm.trans hq')
      obtain ⟨-, -, h3, h4, h5, -⟩ := q.thaw_fields
      exact .inr ((hcount.timers u q hq).of_same h3 h4 h5 (hst ▸ Phase.timerState_ne_idle _))
    · exact .inl hu

/-- The return into a group of a player in which none of his contexts runs keeps the laws (R91). -/
theorem ModesKept.returnPaused {p : Nat} {g : Fin 8} (hfits : s.mst.Fits cur live)
    (hgroup : g ≠ 0 → ∀ (y : Fin 12) (d : Context), s.mst.slots[y] = some d → d.phase = .running → d.owner = p →
      s.mst.group y ≠ g) : ModesKept cur live ok s (s.returnPaused p g) := by
  unfold State.returnPaused
  split
  · exact .refl s
  · next hg =>
    split
    · next x hx =>
      obtain ⟨hmem, howner, hxg⟩ := State.returning?_some hx
      obtain ⟨c, hc, hp⟩ := (hfits.pause x).mp hmem
      have hslot : s.slot? x = some c := hc
      rw [hslot] at howner
      obtain rfl := Option.some.inj howner
      rw [State.slotGroup_eq] at hxg
      exact .enterRunning hc hp fun _ _ y d hd hdr ho => hxg ▸ hgroup hg y d hd hdr ho
    · exact .refl s

end

end Sys2Proof.Machine
end

section
/-! PROOFS. Starts, ends with a return and resumes (05, 5.4, 5.7, 5.8): what they choose, what they put, what they keep. -/

namespace Sys2Proof.Machine

/-! ### An end with a return is the end and then the return (R91) -/

section
variable {s a : State} {x y : Fin 12} {c : Context} {reason : EndReason} {n p : Nat} {g : Fin 8}

/-- The context that returns is chosen by pause order, owners, groups and priorities alone. -/
theorem State.returning?_congr {s t : State} (hp : t.mst.pauseOrder = s.mst.pauseOrder)
    (ho : ∀ y, (t.slot? y).map Context.owner = (s.slot? y).map Context.owner) (ht : t.mst.template? = s.mst.template?)
    (p : Nat) (g : Fin 8) : t.returning? p g = s.returning? p g := by
  have hprio : t.slotPriority = s.slotPriority := by
    funext y
    rw [State.slotPriority_eq, State.slotPriority_eq, Mst.priority, Mst.priority, ht]
  have hgroup (y : Fin 12) : t.slotGroup y = s.slotGroup y := by
    rw [State.slotGroup_eq, State.slotGroup_eq, Mst.group, Mst.group, ht]
  have hfilter : (fun y => match t.slot? y with
      | some c => decide (c.owner = p) && decide (t.slotGroup y = g)
      | none => false) = fun y => match s.slot? y with
      | some c => decide (c.owner = p) && decide (s.slotGroup y = g)
      | none => false := by
    funext y
    have hy := ho y
    rw [hgroup]
    cases h1 : t.slot? y <;> cases h2 : s.slot? y <;> simp_all
  unfold State.returning?
  rw [hp, hprio]
  exact congrArg (fun f => (s.mst.pauseOrder.filter f).foldl _ none) hfilter

theorem State.slot?_enterEnded_other (hyx : y ≠ x) : (a.enterEnded x reason n).slot? y = a.slot? y := by
  rw [State.slot?, State.enterEnded_mst]
  exact Vector.getElem_set_ne x.isLt y.isLt fun e => hyx (Fin.ext e.symm)

theorem State.slot?_enterEnded_same : (a.enterEnded x reason n).slot? x =
    (a.slot? x).map fun c => c.endedWith reason n := by
  rw [State.slot?, State.enterEnded_mst]
  exact Vector.getElem_set_self x.isLt

theorem State.enterEnded_template? : (a.enterEnded x reason n).mst.template? = a.mst.template? := by
  funext y
  have hslots : ((a.enterEnded x reason n).mst.slots[y]).map Context.template =
      (a.mst.slots[y]).map Context.template := by
    change ((a.enterEnded x reason n).slot? y).map Context.template = (a.slot? y).map Context.template
    by_cases hyx : y = x
    · subst hyx
      rw [State.slot?_enterEnded_same, Option.map_map]
      rfl
    · rw [State.slot?_enterEnded_other hyx]
  have hbind (m : Mst) : m.template? y = ((m.slots[y]).map Context.template).bind fun i => m.templates[i] := by
    rw [Option.bind_map]
    rfl
  rw [hbind, hbind, hslots]
  rfl

theorem State.enterEnded_returning? : (a.enterEnded x reason n).returning? p g = a.returning? p g := by
  refine State.returning?_congr (s := a) (t := a.enterEnded x reason n) rfl (fun y => ?_) State.enterEnded_template? p g
  by_cases hyx : y = x
  · subst hyx
    rw [State.slot?_enterEnded_same, Option.map_map]
    rfl
  · rw [State.slot?_enterEnded_other hyx]

/-- The entry of x into the ended and the return of another context may be made in either order. -/
theorem State.enterEnded_enterRunning (hyx : y ≠ x) {d : Context} (hd : a.mst.slots[y] = some d) :
    ((a.enterRunning y).enterEnded x reason n).mst = ((a.enterEnded x reason n).enterRunning y).mst ∧
    ∀ u : Fin 16, ((a.enterRunning y).enterEnded x reason n).tmu.timers[u] =
      ((a.enterEnded x reason n).enterRunning y).tmu.timers[u] := by
  have hd' : (a.enterEnded x reason n).mst.slots[y] = some d :=
    (State.slot?_enterEnded_other (a := a) (reason := reason) (n := n) hyx).trans hd
  have hslot : (a.enterRunning y).slot? x = a.slot? x := by
    rw [State.slot?, State.enterRunning_mst]
    exact Vector.getElem_set_ne y.isLt x.isLt fun e => hyx (Fin.ext e)
  have hprio : (a.enterEnded x reason n).slotPriority = a.slotPriority := by
    funext z
    rw [State.slotPriority_eq, State.slotPriority_eq, Mst.priority, Mst.priority, State.enterEnded_template?]
  constructor
  · rw [State.enterEnded_mst, hslot, State.enterRunning_mst a y, State.enterRunning_mst (a.enterEnded x reason n) y,
      State.slot?_enterEnded_other hyx, hprio, State.enterEnded_mst]
    simp only [Mst.mk.injEq, true_and, and_true]
    exact Vector.set_comm _ _ fun e => hyx (Fin.ext e)
  · intro u
    rw [State.enterRunning_timers hd']
    exact State.enterRunning_timers hd u

/-- The end of a RUNNING context with a return leaves what its end and then the return leave. -/
theorem State.endContext_returns (hfits : s.mst.pauseOrder.Nodup ∧ ∀ z, z ∈ s.mst.pauseOrder → s.mst.slots[z] ≠ none)
    (hc : s.mst.slots[x] = some c) (hp : c.phase = .running) :
    (s.endContext x reason true).mst =
      ((s.endContext x reason false).returnPaused c.owner (s.slotGroup x)).mst ∧
    ∀ u : Fin 16, (s.endContext x reason true).tmu.timers[u] =
      ((s.endContext x reason false).returnPaused c.owner (s.slotGroup x)).tmu.timers[u] := by
  have hs : c.phase.stands = true := hp ▸ rfl
  rw [State.endContext_standing hc hs, if_pos ⟨rfl, hp⟩, State.endContext_quiet hc hs]
  have hpause : ((s.releaseHeld c.timer).leaveLists x).mst.pauseOrder = s.mst.pauseOrder.erase x := by
    rw [State.released_mst]
  have hslots : ((s.releaseHeld c.timer).leaveLists x).mst.slots = s.mst.slots := by rw [State.released_mst]
  generalize (s.releaseHeld c.timer).leaveLists x = a at hpause hslots ⊢
  unfold State.returnPaused
  split
  · exact ⟨rfl, fun _ => rfl⟩
  · rw [State.enterEnded_returning?]
    cases hy : a.returning? c.owner (s.slotGroup x) with
    | none => exact ⟨rfl, fun _ => rfl⟩
    | some y =>
      have hmem := (State.returning?_some hy).1
      rw [hpause] at hmem
      have hyx : y ≠ x := fun e => hfits.1.not_mem_erase (e ▸ hmem)
      obtain ⟨d, hd⟩ := Option.ne_none_iff_exists'.mp (hfits.2 y (List.mem_of_mem_erase hmem))
      exact State.enterEnded_enterRunning hyx (hslots ▸ hd)

end

section
variable {cur : Nat} {live ok : Prop} {s t t' : State} {x : Fin 12} {c : Context}

theorem ModesKept.of_fits (h : s.mst.Fits cur live → ModesKept cur live ok s t)
    (hfree : ¬ live → (∀ x : Fin 12, s.mst.slots[x] = none) → ∀ x : Fin 12, t.mst.slots[x] = none) :
    ModesKept cur live ok s t :=
  ⟨fun hm => (h hm).modes hm, fun hm => (h hm).timers hm, fun hok hm => (h hm).counts hok hm, hfree⟩

theorem ModesKept.congr (h : ModesKept cur live ok s t) (hm : t'.mst = t.mst)
    (ht : s.mst.Fits cur live → s.mst.Timed s.tmu.timers live →
      ∀ u : Fin 16, t'.tmu.timers[u] = t.tmu.timers[u]) : ModesKept cur live ok s t' where
  modes := hm ▸ h.modes
  timers hf htm := by
    rw [hm, Vector.ext (fun i hi => ht hf htm ⟨i, hi⟩)]
    exact h.timers hf htm
  counts hok hf htm hc := by
    rw [hm, Vector.ext (fun i hi => ht hf htm ⟨i, hi⟩)]
    exact h.counts hok hf htm hc
  free := hm ▸ h.free

theorem State.endContext_none {reason : EndReason} {b : Bool} (hc : s.mst.slots[x] = none) :
    s.endContext x reason b = s := by
  have hslot : s.slot? x = none := hc
  rw [State.endContext, hslot]

theorem State.endContext_no_return {reason : EndReason} {b : Bool} (hc : s.mst.slots[x] = some c)
    (hp : c.phase ≠ .running) : s.endContext x reason b = s.endContext x reason false := by
  by_cases hs : c.phase.stands = true
  · rw [State.endContext_standing hc hs, State.endContext_quiet hc hs, if_neg fun h => hp h.2]
  · have hslot : s.slot? x = some c := hc
    rw [State.endContext, State.endContext, hslot]
    simp only [if_neg hs]

/-- No RUNNING context is left in the group of one that ended, for its owner (R78). -/
theorem Mst.Fits.group_free {m : Mst} {c' : Context} (h : m.Fits cur live) (hc : m.slots[x] = some c)
    (hp : c.phase = .running) (hp' : c'.phase ≠ .running) (ht : c'.template = c.template) (hg : m.group x ≠ 0)
    (y : Fin 12) (d : Context) (hd : (m.put x c').slots[y] = some d) (hdr : d.phase = .running)
    (ho : d.owner = c.owner) : (m.put x c').group y ≠ m.group x := by
  by_cases hyx : y = x
  · subst hyx
    rw [Mst.put_slots_same] at hd
    exact absurd (Option.some.inj hd ▸ hdr) hp'
  · rw [Mst.put_slots_other hyx] at hd
    rw [Mst.put_group hc ht]
    exact fun hyg => hyx (h.running x y c d hc hd hp hdr ho.symm hg hyg.symm).symm

/-- A return made at the end of a RUNNING context keeps the laws when the end alone does (R91). -/
theorem ModesKept.then_return {reason : EndReason} (hend : ModesKept cur live ok s (t.endContext x reason false))
    (hm : t.mst = s.mst) (hc : s.mst.slots[x] = some c) (hp : c.phase = .running) :
    ModesKept cur live ok s (t.endContext x reason true) := by
  refine .of_fits (fun h => ?_) fun _ hall => absurd (hc.symm.trans (hall x)) nofun
  have hs : c.phase.stands = true := hp ▸ rfl
  have hct : t.mst.slots[x] = some c := hm ▸ hc
  have hput := State.endContext_put (reason := reason) hct hs (hm ▸ h.not_mem_ended hc hs)
  obtain ⟨hmst, htimers⟩ := State.endContext_returns (s := t) (reason := reason)
    (by rw [hm]; exact ⟨h.pauseNodup, fun z hz => by obtain ⟨d, hd, -⟩ := (h.pause z).mp hz; rw [hd]; nofun⟩) hct hp
  refine (hend.trans (.returnPaused (hend.modes h) fun hg y d hd hdr ho => ?_)).congr hmst fun _ _ => htimers
  rw [State.slotGroup_eq, hm] at hg ⊢
  rw [hput, hm] at hd ⊢
  exact h.group_free (c' := c.endedWith reason (t.remainingOf c)) hc hp nofun rfl hg y d hd hdr ho

/-- The end of a context, with a return or without, keeps the laws (R91). -/
theorem ModesKept.endContextWith (s : State) (x : Fin 12) (reason : EndReason) (b : Bool) :
    ModesKept cur live ok s (s.endContext x reason b) := by
  cases hc : s.mst.slots[x] with
  | none =>
    rw [State.endContext_none hc]
    exact .refl s
  | some c =>
    by_cases hp : c.phase = .running
    · cases b with
      | false => exact .endContext s x reason
      | true => exact (ModesKept.endContext s x reason).then_return rfl hc hp
    · rw [State.endContext_no_return hc hp]
      exact .endContext s x reason

end

/-! ### What a start chooses (R81 to R85) -/

section
variable {s : State} {p : Nat} {g : Fin 8} {i : Fin 32} {x : Fin 12} {tm : Template} {v : Option (Fin 16)}

theorem State.runningInGroup_none (h : s.runningInGroup p g = none) (hg : g ≠ 0) (y : Fin 12) (d : Context)
    (hd : s.mst.slots[y] = some d) (hr : d.phase = .running) (ho : d.owner = p) : s.mst.group y ≠ g := by
  rw [State.runningInGroup, if_neg hg, List.find?_eq_none] at h
  have hslot : s.slot? y = some d := hd
  have hy := h y (List.mem_finRange y)
  simp only [hslot, hr, ho, decide_true, Bool.true_and, State.slotGroup_eq] at hy
  exact fun hg => hy (decide_eq_true hg)

theorem State.runningInGroup_some (h : s.runningInGroup p g = some x) : g ≠ 0 ∧ ∃ d, s.mst.slots[x] = some d ∧
    d.phase = .running ∧ d.owner = p ∧ s.mst.group x = g := by
  unfold State.runningInGroup at h
  split at h
  · nomatch h
  · next hg =>
    have hx := List.find?_some h
    cases hd : s.mst.slots[x] with
    | none =>
      have hslot : s.slot? x = none := hd
      simp [hslot] at hx
    | some d =>
      have hslot : s.slot? x = some d := hd
      simp only [hslot, Bool.and_eq_true, decide_eq_true_eq, State.slotGroup_eq] at hx
      obtain ⟨⟨hr, ho⟩, hgr⟩ := hx
      exact ⟨hg, d, rfl, hr, ho, of_decide_eq_true hgr⟩

theorem State.standing?_none (h : s.standing? p i = none) (y : Fin 12) (d : Context) (hd : s.mst.slots[y] = some d)
    (hs : d.phase.stands = true) (ho : d.owner = p) : d.template ≠ i := by
  rw [State.standing?, List.find?_eq_none] at h
  have hslot : s.slot? y = some d := hd
  have hy := h y (List.mem_finRange y)
  simp only [hslot, hs, ho, decide_true, Bool.true_and, Bool.and_true, decide_eq_true_eq] at hy
  exact hy

theorem State.standing?_some (h : s.standing? p i = some x) : ∃ d, s.mst.slots[x] = some d ∧ d.phase.stands = true ∧
    d.template = i ∧ d.owner = p := by
  have hx := List.find?_some h
  cases hd : s.mst.slots[x] with
  | none =>
    have hslot : s.slot? x = none := hd
    simp [hslot] at hx
  | some d =>
    have hslot : s.slot? x = some d := hd
    simp only [hslot, Bool.and_eq_true, decide_eq_true_eq] at hx
    obtain ⟨⟨hs, ht⟩, ho⟩ := hx
    exact ⟨d, rfl, hs, ht, ho⟩

theorem State.chooseSlot?_some (h : s.chooseSlot? = some x) : s.mst.slots[x] = none ∨ x ∈ s.mst.ended := by
  unfold State.chooseSlot? at h
  split at h
  · next y hy =>
    obtain rfl := Option.some.inj h
    have hnone := List.find?_some hy
    exact .inl (Option.isNone_iff_eq_none.mp hnone)
  · exact .inr (List.mem_of_head? h)

/-- The timer of a start: none for an untimed template, else a FREE one (R82). -/
theorem State.timerFor?_some (h : s.timerFor? tm = some v) : (v = none ∧ tm.period? = none) ∨
    ∃ u : Fin 16, v = some u ∧ s.tmu.timers[u] = none ∧ tm.period? ≠ none := by
  unfold State.timerFor? at h
  split at h
  · next hn => exact .inl ⟨(Option.some.inj h).symm, hn⟩
  · next n hn =>
    obtain ⟨u, hu, rfl⟩ := Option.map_eq_some_iff.mp h
    exact .inr ⟨u, rfl, (State.freeTimer?_eq_some.mp hu).1, by rw [hn]; nofun⟩

theorem State.timerFor?_none (h : s.timerFor? tm = none) :
    tm.period? ≠ none ∧ ∀ u : Fin 16, s.tmu.timers[u] ≠ none := by
  unfold State.timerFor? at h
  split at h
  · nomatch h
  · next n hn => exact ⟨by rw [hn]; nofun, State.freeTimer?_eq_none.mp (Option.map_eq_none_iff.mp h)⟩

end

/-! ### A context that takes a timer and enters RUNNING or PAUSED (R82, R84) -/

section
variable {cur : Nat} {live ok : Prop} {s : State} {x : Fin 12} {c c' : Context} {tm : Template} {v : Option (Fin 16)} {n : Nat}

theorem State.takeTimer_same (hc : s.mst.slots[x] = some c) :
    (s.takeTimer x tm v n).mst.slots[x] = some (c.taking v) := by
  rw [State.takeTimer_slot n hc]
  exact Vector.getElem_set_self x.isLt

theorem State.takeTimer_enterRunning_mst (hc : s.mst.slots[x] = some c) :
    ((s.takeTimer x tm v n).enterRunning x).mst =
      { s.mst.put x { c.taking v with phase := .running } with ended := s.mst.ended } := by
  rw [State.enterRunning_put (State.takeTimer_same hc), State.takeTimer_slot n hc, Mst.put_set]

theorem State.takeTimer_enterPaused_mst (hc : s.mst.slots[x] = some c) :
    ((s.takeTimer x tm v n).enterPaused x).mst =
      { s.mst.put x { c.taking v with phase := .paused } with ended := s.mst.ended } := by
  rw [State.enterPaused_put (State.takeTimer_same hc), State.takeTimer_slot n hc, Mst.put_set]

theorem Context.taking_timer (h : c.timer = none) : (c.taking v).timer = v := by
  rw [Context.taking, h, Option.or_none]

theorem State.takeTimer_enterRunning_timers (hc : s.mst.slots[x] = some c) (ht : c.timer = none) (u : Fin 16) :
    ((s.takeTimer x tm v n).enterRunning x).tmu.timers[u] =
      if v = some u then some (tm.timer x (tm.period?.getD 0) n) else s.tmu.timers[u] := by
  rw [State.enterRunning_timers (State.takeTimer_same hc), Context.taking_timer ht, State.takeTimer_timers]
  split <;> rfl

theorem State.takeTimer_enterPaused_timers (hc : s.mst.slots[x] = some c) (ht : c.timer = none) (u : Fin 16) :
    ((s.takeTimer x tm v n).enterPaused x).tmu.timers[u] =
      if v = some u then some (tm.timer x (tm.period?.getD 0) n).freeze else s.tmu.timers[u] := by
  rw [State.enterPaused_timers (State.takeTimer_same hc), Context.taking_timer ht, State.takeTimer_timers]
  split <;> rfl

/-- The timers when a context without one takes the timer of a start. -/
theorem Mst.Retimes.of_taken {m : Mst} {ts ts' : Vector (Option Timer) 16} {r : Timer}
    (hold : (m.slots[x]).bind Context.timer = none) (htimer : c'.timer = v) (hl : c'.phase.live = true)
    (hv : (v = none ∧ tm.period? = none) ∨ ∃ u : Fin 16, v = some u ∧ ts[u] = none ∧ tm.period? ≠ none)
    (hts : ∀ u : Fin 16, ts'[u] = if v = some u then some r else ts[u])
    (hr : r.binding = tm.binding x ∧ r.state = c'.phase.timerState ∧ r.pauses = true) :
    m.Retimes ts ts' x c' tm where
  kept w hw _ := by rw [hts, if_neg (htimer ▸ hw)]
  released w hw _ := nomatch hold.symm.trans hw
  taken w hw := by
    rw [htimer] at hw
    refine ⟨.inl ?_, r, by rw [hts, if_pos hw], hr⟩
    rcases hv with ⟨h, -⟩ | ⟨u, h, hu, -⟩
    · nomatch h.symm.trans hw
    · obtain rfl := Option.some.inj (h.symm.trans hw)
      exact hu
  needed := by
    rw [htimer, hl, Bool.true_and]
    rcases hv with ⟨h, hp⟩ | ⟨u, h, -, hp⟩
    · rw [h, hp]
      rfl
    · rw [h, Option.isSome_some]
      exact (Option.isSome_iff_ne_none.mpr hp).symm

/-- The timer of a start counts within its ranges. -/
theorem Template.timer_counted {m : Mst} {ts : Vector (Option Timer) 16} {i : Fin 32} (h : m.Counted ts)
    (htm : m.templates[i] = some tm) (hp : tm.period? ≠ none) (h1 : 1 ≤ n) (h2 : n ≤ 65535) :
    (tm.timer x (tm.period?.getD 0) n).Counted := by
  obtain ⟨k, hk⟩ := Option.ne_none_iff_exists'.mp hp
  refine ⟨?_, nofun, h2, fun _ => h1⟩
  rw [hk]
  exact h.periods i tm htm k hk

/-- A context out of RUNNING and PAUSED holds no timer (R77). -/
theorem Mst.Timed.untimed {m : Mst} {ts : Vector (Option Timer) 16} (h : m.Timed ts live) (hm : m.Fits cur live)
    (hc : m.slots[x] = some c) (hl : c.phase.live = false) : c.timer = none := by
  obtain ⟨tm, htm⟩ := hm.template x c hc
  have hsome := (h.held x c tm hc htm).1
  rw [hl, Bool.false_and] at hsome
  exact Option.not_isSome_iff_eq_none.mp (by rw [hsome]; nofun)

/-- A PARKED context of the current player that resumes into RUNNING: none of his contexts runs in its group. -/
theorem ModesKept.resumeRunning (hc : s.mst.slots[x] = some c) (hp : c.phase = .parked)
    (htm : s.mst.templates[c.template] = some tm) (hv : s.timerFor? tm = some v) (ho : c.owner = cur) (hl : live)
    (hgroup : s.mst.Fits cur live → tm.exclusionGroup ≠ 0 → ∀ (y : Fin 12) (d : Context), s.mst.slots[y] = some d →
      d.phase = .running → d.owner = c.owner → s.mst.group y ≠ tm.exclusionGroup) :
    ModesKept cur live ok s ((s.takeTimer x tm v c.stored).enterRunning x) := by
  have hs : c.phase.stands = true := hp ▸ rfl
  have huntimed := fun (h : s.mst.Fits cur live) (ht : s.mst.Timed s.tmu.timers live) =>
    ht.untimed h hc (by rw [hp]; rfl)
  refine ModesKept.of_put (x := x) (c' := { c.taking v with phase := .running }) (fun h => ?_)
    (fun _ => ⟨tm, htm⟩) (fun _ _ => ⟨ho, hl⟩) (fun h _ y d hyx hd hds hdo => h.standing_ne hc hs hyx hd hds hdo)
    (fun h _ hg y d _ hd hdr hdo => ?_) (fun h ht tm' htm' => ?_) (fun h ht hcount => ⟨fun u r hu => ?_, nofun⟩)
    fun _ => by rw [hc]; nofun
  · rw [State.takeTimer_enterRunning_mst hc]
    exact congrArg (fun l => { s.mst.put x { c.taking v with phase := .running } with ended := l })
      (List.erase_of_not_mem (h.not_mem_ended hc hs)).symm
  · rw [Mst.put_group (c' := { c.taking v with phase := .running }) hc rfl, Mst.group_eq hc htm] at hg ⊢
    exact hgroup h hg y d hd hdr hdo
  · obtain rfl := Option.some.inj (htm.symm.trans htm')
    have hnone := huntimed h ht
    exact .of_taken (by rw [hc]; exact hnone) (Context.taking_timer hnone) rfl (State.timerFor?_some hv)
      (State.takeTimer_enterRunning_timers hc hnone) ⟨rfl, rfl, rfl⟩
  · rw [State.takeTimer_enterRunning_timers hc (huntimed h ht)] at hu
    split at hu
    · next hvu =>
      obtain rfl := Option.some.inj hu
      rcases State.timerFor?_some hv with ⟨hn, -⟩ | ⟨-, -, -, hper⟩
      · nomatch hn.symm.trans hvu
      · obtain ⟨h2, h1⟩ := hcount.parked x c hc hp
        exact .inr (Template.timer_counted hcount htm hper (h1 tm htm hper) h2)
    · exact .inl hu

/-- A PARKED context of the current player that resumes into PAUSED. -/
theorem ModesKept.resumePaused (hc : s.mst.slots[x] = some c) (hp : c.phase = .parked)
    (htm : s.mst.templates[c.template] = some tm) (hv : s.timerFor? tm = some v) (ho : c.owner = cur) (hl : live) :
    ModesKept cur live ok s ((s.takeTimer x tm v c.stored).enterPaused x) := by
  have hs : c.phase.stands = true := hp ▸ rfl
  have huntimed := fun (h : s.mst.Fits cur live) (ht : s.mst.Timed s.tmu.timers live) =>
    ht.untimed h hc (by rw [hp]; rfl)
  refine ModesKept.of_put (x := x) (c' := { c.taking v with phase := .paused }) (fun h => ?_)
    (fun _ => ⟨tm, htm⟩) (fun _ _ => ⟨ho, hl⟩) (fun h _ y d hyx hd hds hdo => h.standing_ne hc hs hyx hd hds hdo)
    nofun (fun h ht tm' htm' => ?_) (fun h ht hcount => ⟨fun u r hu => ?_, nofun⟩)
    fun _ => by rw [hc]; nofun
  · rw [State.takeTimer_enterPaused_mst hc]
    exact congrArg (fun l => { s.mst.put x { c.taking v with phase := .paused } with ended := l })
      (List.erase_of_not_mem (h.not_mem_ended hc hs)).symm
  · obtain rfl := Option.some.inj (htm.symm.trans htm')
    have hnone := huntimed h ht
    exact .of_taken (by rw [hc]; exact hnone) (Context.taking_timer hnone) rfl (State.timerFor?_some hv)
      (State.takeTimer_enterPaused_timers hc hnone) ⟨rfl, rfl, rfl⟩
  · rw [State.takeTimer_enterPaused_timers hc (huntimed h ht)] at hu
    split at hu
    · next hvu =>
      obtain rfl := Option.some.inj hu
      rcases State.timerFor?_some hv with ⟨hn, -⟩ | ⟨-, -, -, hper⟩
      · nomatch hn.symm.trans hvu
      · obtain ⟨h2, h1⟩ := hcount.parked x c hc hp
        exact .inr ((Template.timer_counted (x := x) hcount htm hper (h1 tm htm hper) h2).of_same rfl rfl rfl nofun)
    · exact .inl hu

/-! ### A new context set up (R81, R85) -/

/-- The record of a context set up, with its timer. -/
def startedContext (i : Fin 32) (tm : Template) (owner : Nat) (v : Option (Fin 16)) : Context :=
  { newContext i tm owner with timer := v }

/-- The table in which slot x holds the new record, out of the ended list, before it enters RUNNING. -/
def State.slotTaken (s : State) (x : Fin 12) (i : Fin 32) (tm : Template) : State :=
  State.setSlot { s with mst := { s.mst with ended := s.mst.ended.erase x } } x (some (newContext i tm s.currentPlayer))

theorem State.slotTaken_same (i : Fin 32) (tm : Template) :
    (s.slotTaken x i tm).mst.slots[x] = some (newContext i tm s.currentPlayer) := Vector.getElem_set_self x.isLt

theorem State.setUp_eq (i : Fin 32) : s.setUp x v i tm =
    (((s.slotTaken x i tm).takeTimer x tm v (tm.period?.getD 0)).enterRunning x).raise .modeStarted := rfl

theorem State.setUp_put (i : Fin 32) : (s.setUp x v i tm).mst = s.mst.put x (startedContext i tm s.currentPlayer v) := by
  have htaking : (newContext i tm s.currentPlayer).taking v = startedContext i tm s.currentPlayer v :=
    congrArg (fun o => { newContext i tm s.currentPlayer with timer := o }) Option.or_none
  rw [State.setUp_eq, State.raise_mst, State.takeTimer_enterRunning_mst (State.slotTaken_same i tm), htaking,
    show (s.slotTaken x i tm).mst = { { s.mst with ended := s.mst.ended.erase x } with
      slots := s.mst.slots.set x.val (some (newContext i tm s.currentPlayer)) x.isLt } from rfl]
  exact congrArg (fun m : Mst => { m with ended := s.mst.ended.erase x })
    (Mst.put_set (m := { s.mst with ended := s.mst.ended.erase x }) (x := x)
      (c := startedContext i tm s.currentPlayer v))

theorem State.setUp_timers (i : Fin 32) (u : Fin 16) : (s.setUp x v i tm).tmu.timers[u] =
    if v = some u then some (tm.timer x (tm.period?.getD 0) (tm.period?.getD 0)) else s.tmu.timers[u] :=
  State.takeTimer_enterRunning_timers (State.slotTaken_same i tm) rfl u

/-- A new context of the current player: no standing one has its template, none runs in its group. -/
theorem ModesKept.setUp {i : Fin 32} (htm : s.mst.templates[i] = some tm)
    (hx : s.mst.slots[x] = none ∨ x ∈ s.mst.ended) (hv : s.timerFor? tm = some v) (hcur : s.currentPlayer = cur) (hl : live)
    (hstanding : ∀ (y : Fin 12) (d : Context), s.mst.slots[y] = some d → d.phase.stands = true → d.owner = cur →
      d.template ≠ i)
    (hgroup : tm.exclusionGroup ≠ 0 → ∀ (y : Fin 12) (d : Context), s.mst.slots[y] = some d →
      d.phase = .running → d.owner = cur → s.mst.group y ≠ tm.exclusionGroup) :
    ModesKept cur live ok s (s.setUp x v i tm) := by
  have hput : (s.mst.put x (startedContext i tm s.currentPlayer v)).group x = tm.exclusionGroup :=
    Mst.group_eq Mst.put_slots_same htm
  refine ModesKept.of_put (x := x) (fun _ => State.setUp_put i) (fun _ => ⟨tm, htm⟩) (fun _ _ => ⟨hcur, hl⟩)
    (fun h _ y d hyx hd hds hdo => hstanding y d hd hds (hdo.trans hcur))
    (fun h _ hg y d _ hd hdr hdo => ?_) (fun h ht tm' htm' => ?_) (fun h ht hcount => ⟨fun u r hu => ?_, nofun⟩)
    fun hl' => absurd hl hl'
  · rw [hput] at hg ⊢
    exact hgroup hg y d hd hdr (hdo.trans hcur)
  · obtain rfl := Option.some.inj (htm.symm.trans htm')
    refine .of_taken ?_ rfl rfl (State.timerFor?_some hv) (State.setUp_timers i) ⟨rfl, rfl, rfl⟩
    rcases hx with hx | hx
    · rw [hx, Option.bind_none]
    · obtain ⟨d, hd, hds⟩ := (h.ended x).mp hx
      rw [hd, Option.bind_some]
      refine ht.untimed h hd ?_
      cases hdp : d.phase with
      | ended why => rfl
      | _ => rw [hdp] at hds; nomatch hds
  · rw [State.setUp_timers] at hu
    split at hu
    · next hvu =>
      obtain rfl := Option.some.inj hu
      rcases State.timerFor?_some hv with ⟨hn, -⟩ | ⟨-, -, -, hper⟩
      · nomatch hn.symm.trans hvu
      · obtain ⟨k, hk⟩ := Option.ne_none_iff_exists'.mp hper
        have hbounds := hcount.periods i tm htm k hk
        exact .inr (Template.timer_counted hcount htm hper (by rw [hk]; exact hbounds.1) (by rw [hk]; exact hbounds.2))
    · exact .inl hu

end

end Sys2Proof.Machine
end

section
/-! PROOFS. Amended records and timers (05, 06, 08): contexts that keep phase and timer, timers of no context, starts. -/

namespace Sys2Proof.Machine

/-! ### A record amended in its place -/

section
variable {cur : Nat} {live ok : Prop} {s t : State} {x : Fin 12} {c c' : Context}

/-- Record c' in the place of c, the lists as they are. -/
def Mst.amend (m : Mst) (x : Fin 12) (c' : Context) : Mst := { m with slots := m.slots.set x.val (some c') x.isLt }

theorem Mst.amend_slots_same {m : Mst} : (m.amend x c').slots[x] = some c' := Vector.getElem_set_self x.isLt

theorem Mst.amend_slots_other {m : Mst} {y : Fin 12} (h : y ≠ x) : (m.amend x c').slots[y] = m.slots[y] :=
  Vector.getElem_set_ne x.isLt y.isLt fun e => h (Fin.ext e.symm)

/-- A record of a slot after the amendment stands for one of the slot before. -/
theorem Mst.amend_cases {m : Mst} {y : Fin 12} {d : Context} (hc : m.slots[x] = some c)
    (h : (m.amend x c').slots[y] = some d) : (y = x ∧ d = c' ∧ m.slots[y] = some c) ∨ (y ≠ x ∧ m.slots[y] = some d) := by
  by_cases hyx : y = x
  · subst hyx
    rw [Mst.amend_slots_same] at h
    exact .inl ⟨rfl, (Option.some.inj h).symm, hc⟩
  · exact .inr ⟨hyx, (Mst.amend_slots_other hyx).symm.trans h⟩

/-- What the laws read of a record. -/
structure Context.Alike (c c' : Context) : Prop where
  phase : c'.phase = c.phase
  template : c'.template = c.template
  owner : c'.owner = c.owner
  timer : c'.timer = c.timer

theorem Context.Alike.refl (c : Context) : c.Alike c := ⟨rfl, rfl, rfl, rfl⟩

theorem Mst.amend_old {m : Mst} {y : Fin 12} {d : Context} (hc : m.slots[x] = some c) (ha : c.Alike c')
    (h : (m.amend x c').slots[y] = some d) : ∃ e, m.slots[y] = some e ∧ e.Alike d := by
  rcases Mst.amend_cases hc h with ⟨-, rfl, he⟩ | ⟨-, he⟩
  · exact ⟨c, he, ha⟩
  · exact ⟨d, he, .refl d⟩

theorem Mst.amend_new {m : Mst} {y : Fin 12} {e : Context} (hc : m.slots[x] = some c) (ha : c.Alike c')
    (h : m.slots[y] = some e) : ∃ d, (m.amend x c').slots[y] = some d ∧ e.Alike d := by
  by_cases hyx : y = x
  · subst hyx
    obtain rfl := Option.some.inj (hc.symm.trans h)
    exact ⟨c', Mst.amend_slots_same, ha⟩
  · exact ⟨e, (Mst.amend_slots_other hyx).trans h, .refl e⟩

theorem Mst.amend_template? {m : Mst} (hc : m.slots[x] = some c) (ha : c.Alike c') :
    (m.amend x c').template? = m.template? := by
  funext y
  by_cases hyx : y = x
  · subst hyx
    rw [Mst.template?_eq hc, Mst.template?_eq Mst.amend_slots_same]
    simp only [ha.template]
    rfl
  · rw [Mst.template?, Mst.amend_slots_other hyx]
    rfl

theorem Mst.amend_exists {m : Mst} {y : Fin 12} (hc : m.slots[x] = some c) (ha : c.Alike c') (P : Phase → Prop) :
    (∃ d, (m.amend x c').slots[y] = some d ∧ P d.phase) ↔ ∃ e, m.slots[y] = some e ∧ P e.phase := by
  constructor
  · rintro ⟨d, hd, hp⟩
    obtain ⟨e, he, hal⟩ := Mst.amend_old hc ha hd
    exact ⟨e, he, hal.phase ▸ hp⟩
  · rintro ⟨e, he, hp⟩
    obtain ⟨d, hd, hal⟩ := Mst.amend_new hc ha he
    exact ⟨d, hd, hal.phase ▸ hp⟩

theorem Mst.Fits.amend {m : Mst} (h : m.Fits cur live) (hc : m.slots[x] = some c) (ha : c.Alike c') :
    (m.amend x c').Fits cur live where
  stackNodup := h.stackNodup
  pauseNodup := h.pauseNodup
  endedNodup := h.endedNodup
  stack y := (h.stack y).trans (Mst.amend_exists hc ha fun p => p = .running).symm
  pause y := (h.pause y).trans (Mst.amend_exists hc ha fun p => p = .paused).symm
  ended y := (h.ended y).trans (Mst.amend_exists hc ha fun p => p.stands = false).symm
  sorted := by
    have hprio : (m.amend x c').priority = m.priority := by
      funext y
      rw [Mst.priority, Mst.amend_template? hc ha]
      rfl
    rw [hprio]
    exact h.sorted
  template y d hd := by
    obtain ⟨e, he, hal⟩ := Mst.amend_old hc ha hd
    simp only [hal.template]
    exact h.template y e he
  owner y d hd hl := by
    obtain ⟨e, he, hal⟩ := Mst.amend_old hc ha hd
    rw [hal.owner]
    exact h.owner y e he (hal.phase ▸ hl)
  standing y z d f hd hf hds hfs ho ht := by
    obtain ⟨e, he, hal⟩ := Mst.amend_old hc ha hd
    obtain ⟨k, hk, hkl⟩ := Mst.amend_old hc ha hf
    rw [hal.phase] at hds
    rw [hkl.phase] at hfs
    rw [hal.owner, hkl.owner] at ho
    rw [hal.template, hkl.template] at ht
    exact h.standing y z e k he hk hds hfs ho ht
  running y z d f hd hf hds hfs ho hg hgz := by
    have hgroup : (m.amend x c').group = m.group := by
      funext y
      rw [Mst.group, Mst.amend_template? hc ha]
      rfl
    obtain ⟨e, he, hal⟩ := Mst.amend_old hc ha hd
    obtain ⟨k, hk, hkl⟩ := Mst.amend_old hc ha hf
    rw [hal.phase] at hds
    rw [hkl.phase] at hfs
    rw [hal.owner, hkl.owner] at ho
    rw [hgroup] at hg hgz
    exact h.running y z e k he hk hds hfs ho hg hgz

theorem Mst.Timed.amend {m : Mst} {ts : Vector (Option Timer) 16} (h : m.Timed ts live) (hc : m.slots[x] = some c)
    (ha : c.Alike c') : (m.amend x c').Timed ts live where
  held y d tm hd htm := by
    obtain ⟨e, he, hal⟩ := Mst.amend_old hc ha hd
    have htm' : m.templates[e.template] = some tm := by simp only [← hal.template]; exact htm
    rw [hal.timer, hal.phase]
    exact h.held y e tm he htm'
  bound := h.bound
  frozen := h.frozen
  back u r y hu hb := by
    obtain ⟨e, he, heu⟩ := h.back u r y hu hb
    obtain ⟨d, hd, hal⟩ := Mst.amend_new hc ha he
    exact ⟨d, hd, hal.timer.trans heu⟩
  unique := h.unique

/-- An operation that amends a record in its place, its stored count in range when it is PARKED. -/
theorem ModesKept.of_amend (hc : s.mst.slots[x] = some c) (ha : c.Alike c') (hm : t.mst = s.mst.amend x c')
    (ht : t.tmu.timers = s.tmu.timers) (hstored : c'.phase = .parked → c.stored ≤ 65535 →
      c'.stored ≤ 65535 ∧ (1 ≤ c.stored → 1 ≤ c'.stored)) : ModesKept cur live ok s t where
  modes h := hm ▸ h.amend hc ha
  timers _ h := by rw [hm, ht]; exact h.amend hc ha
  counts _ _ _ h := by
    rw [hm, ht]
    refine ⟨h.timers, h.periods, fun y d hd hp => ?_⟩
    rcases Mst.amend_cases hc hd with ⟨-, rfl, he⟩ | ⟨-, he⟩
    · obtain ⟨h1, h2⟩ := h.parked y c he (ha.phase ▸ hp)
      obtain ⟨h3, h4⟩ := hstored hp h1
      refine ⟨h3, fun tm htm hper => h4 (h2 tm ?_ hper)⟩
      simp only [← ha.template]
      exact htm
    · exact h.parked y d he hp
  free _ hall := absurd (hc.symm.trans (hall x)) nofun

theorem ModesKept.modifySlot (s : State) (x : Fin 12) {f : Context → Context} (ha : ∀ c : Context, c.Alike (f c))
    (hstored : ∀ c : Context, (f c).phase = .parked → c.stored ≤ 65535 →
      (f c).stored ≤ 65535 ∧ (1 ≤ c.stored → 1 ≤ (f c).stored)) : ModesKept cur live ok s (s.modifySlot x f) := by
  cases hc : s.mst.slots[x] with
  | none =>
    refine (ModesKept.refl s).then_frame ?_ rfl
    have hslot : s.slot? x = none := hc
    rw [State.modifySlot, hslot, Option.map_none, State.setSlot]
    have hset : s.mst.slots.set x.val none x.isLt = s.mst.slots := by
      conv_rhs => rw [← Vector.set_getElem_self (xs := s.mst.slots) x.isLt]
      exact congrArg (fun o => s.mst.slots.set x.val o x.isLt) hc.symm
    exact congrArg (fun l => { s.mst with slots := l }) hset
  | some c => exact .of_amend hc (ha c) (State.modifySlot_present f hc) rfl (hstored c)

theorem ModesKept.addPayer (s : State) (payer : Option (Fin 12)) (n : Nat) :
    ModesKept cur live ok s (s.addPayer payer n) := by
  cases payer with
  | none => exact .refl s
  | some x =>
    unfold State.addPayer State.addTotal
    dsimp only
    split
    · next c hc =>
      exact .of_amend (c' := { c with total := min (c.total + n) scoreMax }) hc ⟨rfl, rfl, rfl, rfl⟩ rfl rfl
        fun _ h => ⟨h, id⟩
    · exact .refl s

theorem ModesKept.credit (s : State) (p n : Nat) (payer : Option (Fin 12)) :
    ModesKept cur live ok s (s.credit p n payer) := by
  unfold State.credit
  split
  · exact .refl s
  · dsimp only
    refine ModesKept.then_frame (ModesKept.trans ?_ (.addPayer _ payer n)) (by simp; rfl) (by simp)
    exact (ModesKept.refl s).then_frame

end

/-! ### Timers restarted, lowered or amended where they stand -/

section
variable {cur : Nat} {live ok : Prop} {s t : State}

/-- What the law reads of a timer. -/
def Timer.key (r : Timer) : Binding × TimerState × Bool := (r.binding, r.state, r.pauses)

theorem Mst.Timed.of_keys {m : Mst} {ts ts' : Vector (Option Timer) 16} (h : m.Timed ts live)
    (hkey : ∀ u : Fin 16, (ts'[u]).map Timer.key = (ts[u]).map Timer.key) : m.Timed ts' live := by
  have old : ∀ {u : Fin 16} {r : Timer}, ts'[u] = some r → ∃ q : Timer, ts[u] = some q ∧ q.key = r.key :=
    fun {u r} hu => Option.map_eq_some_iff.mp ((hkey u).symm.trans (by rw [hu, Option.map_some]))
  have new : ∀ {u : Fin 16} {q : Timer}, ts[u] = some q → ∃ r : Timer, ts'[u] = some r ∧ r.key = q.key :=
    fun {u q} hu => Option.map_eq_some_iff.mp ((hkey u).trans (by rw [hu, Option.map_some]))
  have parts : ∀ {q r : Timer}, q.key = r.key → q.binding = r.binding ∧ q.state = r.state ∧ q.pauses = r.pauses :=
    fun hk => by
      obtain ⟨h1, h2⟩ := Prod.mk.inj hk
      exact ⟨h1, Prod.mk.inj h2⟩
  refine ⟨fun x c tm hc htm => ?_, fun u r hu hb => ?_, fun u r hu hst => ?_, fun u r x hu hb => ?_,
    fun u v r q hu hv hb hk => ?_⟩
  · obtain ⟨hsome, hheld⟩ := h.held x c tm hc htm
    refine ⟨hsome, fun u hu => ?_⟩
    obtain ⟨q, hq, hqb, hqs⟩ := hheld u hu
    obtain ⟨r, hr, hk⟩ := new hq
    obtain ⟨h1, h2, -⟩ := parts hk
    exact ⟨r, hr, h1.trans hqb, h2.trans hqs⟩
  · obtain ⟨q, hq, hk⟩ := old hu
    obtain ⟨h1, h2, h3⟩ := parts hk
    rw [← h2, ← h3]
    exact h.bound u q hq (h1 ▸ hb)
  · obtain ⟨q, hq, hk⟩ := old hu
    obtain ⟨h1, h2, -⟩ := parts hk
    rw [← h1]
    exact h.frozen u q hq (h2.trans hst)
  · obtain ⟨q, hq, hk⟩ := old hu
    exact h.back u q x hq ((parts hk).1 ▸ hb)
  · obtain ⟨r', hr', hk'⟩ := old hu
    obtain ⟨q', hq', hk''⟩ := old hv
    have h1 := (parts hk').1
    exact h.unique u v r' q' hr' hq' (h1.trans (hb.trans (parts hk'').1.symm)) (h1 ▸ hk)

theorem ModesKept.of_keys (hm : t.mst = s.mst)
    (hkey : ∀ u : Fin 16, (t.tmu.timers[u]).map Timer.key = (s.tmu.timers[u]).map Timer.key)
    (hcount : ∀ (u : Fin 16) (r : Timer), t.tmu.timers[u] = some r →
      ∃ q : Timer, s.tmu.timers[u] = some q ∧ (q.Counted → r.Counted)) : ModesKept cur live ok s t where
  modes := hm ▸ id
  timers _ h := by rw [hm]; exact h.of_keys hkey
  counts _ _ _ h := by
    rw [hm]
    refine ⟨fun u r hu => ?_, h.periods, h.parked⟩
    obtain ⟨q, hq, hqr⟩ := hcount u r hu
    exact hqr (h.timers u q hq)
  free _ := by rw [hm]; exact id

/-- A held timer changed by a function that keeps what the law reads of it. -/
theorem ModesKept.modifyHeld (s : State) (o : Option (Fin 16)) {f : Timer → Timer} (hf : ∀ r : Timer, (f r).key = r.key)
    (hcount : ∀ r : Timer, r.Counted → (f r).Counted) : ModesKept cur live ok s (s.modifyHeld o f) := by
  refine .of_keys (by simp) (fun u => ?_) fun u r hu => ?_
  · rw [State.modifyHeld_timers]
    split
    · rw [Option.map_map]
      exact congrArg (fun g => Option.map g _) (funext hf)
    · rfl
  · rw [State.modifyHeld_timers] at hu
    split at hu
    · obtain ⟨q, hq, rfl⟩ := Option.map_eq_some_iff.mp hu
      exact ⟨q, hq, hcount q⟩
    · exact ⟨r, hu, id⟩

theorem ModesKept.amendHeld (s : State) (o : Option (Fin 16)) {f : Timer → Timer} (hf : ∀ r : Timer, (f r).key = r.key)
    (hcount : ∀ r : Timer, r.Counted → (f r).Counted) : ModesKept cur live ok s (s.amendHeld o f) := by
  refine .of_keys (by simp) (fun u => ?_) fun u r hu => ?_
  · rw [State.amendHeld_timers]
    split
    · rw [Option.map_map]
      exact congrArg (fun g => Option.map g _) (funext hf)
    · rfl
  · rw [State.amendHeld_timers] at hu
    split at hu
    · obtain ⟨q, hq, rfl⟩ := Option.map_eq_some_iff.mp hu
      exact ⟨q, hq, hcount q⟩
    · exact ⟨r, hu, id⟩

theorem Timer.load_counted {r : Timer} (h : r.Counted) : r.load.Counted := by
  obtain ⟨h1, h2, -, -⟩ := h
  have hperiod : 1 ≤ r.staged.getD r.period ∧ r.staged.getD r.period ≤ 65535 := by
    cases hs : r.staged with
    | none => exact h1
    | some n => exact h2 n hs
  exact ⟨hperiod, nofun, hperiod.2, fun _ => hperiod.1⟩

/-! ### Timers of no context -/

/-- Whether a binding names no slot. -/
def Binding.Slotless (b : Binding) : Prop := b = .user ∨ b = .ballSave ∨ b = .pfMult

theorem Template.binding_not_slotless {tm : Template} {x : Fin 12} : ¬ (tm.binding x).Slotless := fun h => by
  obtain ⟨h1, h2, h3⟩ := Template.binding_ne (tm := tm) (x := x)
  rcases h with h | h | h
  · exact h1 h
  · exact h2 h
  · exact h3 h

/-- A record a timer of no context may hold. -/
structure Timer.Loose (r : Timer) (live : Prop) : Prop where
  slotless : r.binding.Slotless
  thawed : r.state ≠ .frozen
  bound : r.binding ≠ .user → r.pauses = true ∧ r.state ≠ .idle ∧ live

/-- Only timers of no context change, and there is one at most for ball save and for the playfield multiplier. -/
theorem ModesKept.of_slotless (hm : t.mst = s.mst)
    (hts : s.mst.Timed s.tmu.timers live → ∀ u : Fin 16, t.tmu.timers[u] = s.tmu.timers[u] ∨
      ((∀ r : Timer, s.tmu.timers[u] = some r → r.binding.Slotless) ∧
        ∀ r : Timer, t.tmu.timers[u] = some r → r.Loose live))
    (hunique : s.mst.Timed s.tmu.timers live → ∀ (u v : Fin 16) (r q : Timer), t.tmu.timers[u] = some r →
      t.tmu.timers[v] = some q → r.binding = q.binding → r.binding = .ballSave ∨ r.binding = .pfMult → u = v)
    (hcount : ok → s.mst.Counted s.tmu.timers → ∀ (u : Fin 16) (r : Timer), t.tmu.timers[u] = some r → r.Counted) :
    ModesKept cur live ok s t where
  modes := hm ▸ id
  timers _ h := by
    have hts := hts h
    rw [hm]
    refine ⟨fun x c tm hc htm => ?_, fun u r hu hb => ?_, fun u r hu hst => ?_, fun u r x hu hb => ?_, hunique h⟩
    · obtain ⟨hsome, hheld⟩ := h.held x c tm hc htm
      refine ⟨hsome, fun u hu => ?_⟩
      obtain ⟨r, hr, hrb, hrs⟩ := hheld u hu
      rcases hts u with hsame | ⟨hold, -⟩
      · exact ⟨r, hsame.trans hr, hrb, hrs⟩
      · exact absurd (hrb ▸ hold r hr) Template.binding_not_slotless
    · rcases hts u with hsame | ⟨-, hnew⟩
      · exact h.bound u r (hsame.symm.trans hu) hb
      · exact (hnew r hu).bound hb
    · rcases hts u with hsame | ⟨-, hnew⟩
      · exact h.frozen u r (hsame.symm.trans hu) hst
      · exact absurd hst (hnew r hu).thawed
    · rcases hts u with hsame | ⟨-, hnew⟩
      · exact h.back u r x (hsame.symm.trans hu) hb
      · rcases (hnew r hu).slotless with hk | hk | hk <;> rw [hk] at hb <;> exact hb.elim nofun nofun
  counts hok _ _ h := by
    rw [hm]
    exact ⟨hcount hok h, h.periods, h.parked⟩
  free _ := by rw [hm]; exact id

/-- A timer of no context given back. -/
theorem ModesKept.released (hm : t.mst = s.mst)
    (hts : ∀ u : Fin 16, t.tmu.timers[u] = s.tmu.timers[u] ∨ (t.tmu.timers[u] = none ∧
      ∀ r : Timer, s.tmu.timers[u] = some r → r.binding.Slotless)) : ModesKept cur live ok s t := by
  have hold : ∀ {u : Fin 16} {r : Timer}, t.tmu.timers[u] = some r → s.tmu.timers[u] = some r := fun {u r} hu => by
    rcases hts u with h | ⟨h, -⟩
    · exact h.symm.trans hu
    · nomatch h.symm.trans hu
  exact .of_slotless hm (fun _ u => (hts u).imp_right fun h => ⟨h.2, fun r hr => nomatch h.1.symm.trans hr⟩)
    (fun h u v r q hu hv => h.unique u v r q (hold hu) (hold hv)) fun _ h u r hu => h.timers u r (hold hu)

theorem State.releaseBinding_timerAt (s : State) (b : Binding) (u : Fin 16) :
    (s.releaseBinding b).tmu.timers[u] = (s.tmu.timers[u]).bind fun r => if r.binding = b then none else some r := by
  rw [State.releaseBinding]
  simp only [mapTable_getElem]

theorem ModesKept.releaseBinding (s : State) {b : Binding} (hb : b.Slotless) :
    ModesKept cur live ok s (s.releaseBinding b) := by
  refine .released (by simp) fun u => ?_
  rw [State.releaseBinding_timerAt]
  cases hu : s.tmu.timers[u] with
  | none => exact .inl rfl
  | some r =>
    by_cases hr : r.binding = b
    · exact .inr ⟨by rw [Option.bind_some, if_pos hr], fun q hq => Option.some.inj hq ▸ hr ▸ hb⟩
    · exact .inl (by rw [Option.bind_some, if_neg hr])

/-- A timer set that is FREE or of no context. -/
theorem ModesKept.setTimer {u : Fin 16} {o : Option Timer}
    (hold : ∀ r : Timer, s.tmu.timers[u] = some r → r.binding.Slotless)
    (hnew : s.mst.Timed s.tmu.timers live → ∀ r : Timer, o = some r → r.Loose live)
    (hunique : s.mst.Timed s.tmu.timers live → ∀ r : Timer, o = some r → r.binding ≠ .user → ∀ (v : Fin 16) (q : Timer), v ≠ u →
      s.tmu.timers[v] = some q → q.binding ≠ r.binding)
    (hcount : ok → s.mst.Counted s.tmu.timers → ∀ r : Timer, o = some r → r.Counted) :
    ModesKept cur live ok s (s.setTimer u o) := by
  have hat (v : Fin 16) : (s.setTimer u o).tmu.timers[v] = if v = u then o else s.tmu.timers[v] :=
    State.setTimer_timers s v u o
  refine .of_slotless rfl (fun h v => ?_) (fun h v w r q hv hw hb hk => ?_) fun hok h v r hv => ?_
  · rw [hat]
    split
    · next hvu => exact .inr ⟨hvu ▸ hold, hnew h⟩
    · exact .inl rfl
  · have huser : r.binding ≠ .user := fun hu => by rw [hu] at hk; exact hk.elim nofun nofun
    rw [hat] at hv hw
    split at hv
    · next hvu =>
      split at hw
      · next hwu => rw [hvu, hwu]
      · next hwu => exact absurd hb.symm (hunique h r hv huser w q hwu hw)
    · next hvu =>
      split at hw
      · exact absurd hb (hunique h q hw (hb ▸ huser) v r hvu hv)
      · exact h.unique v w r q hv hw hb hk
  · rw [hat] at hv
    split at hv
    · exact hcount hok h r hv
    · exact h.timers v r hv

/-- The timer of a binding given ticks, while contexts may run (R6, R137). -/
theorem ModesKept.giveBoundTimer (s : State) {b : Binding} {n : Nat} (hb : b = .ballSave ∨ b = .pfMult) (hl : live)
    (h1 : 1 ≤ n) (h2 : ok → n ≤ 65535) : ModesKept cur live ok s (s.giveBoundTimer b n).1 := by
  have hslotless : b.Slotless := .inr hb
  have hcounted {st : TimerState} {k : TimerKind} {p : Bool} {b' : Binding} (hok : ok) : (⟨st, k, n, none, n, p, b'⟩ : Timer).Counted :=
    ⟨⟨h1, h2 hok⟩, nofun, h2 hok, fun _ => h1⟩
  unfold State.giveBoundTimer
  split
  · next u hu =>
    obtain ⟨r, hr, hrb⟩ := State.boundTimer?_some hu
    have hset : s.modifyTimer u (fun r => { r with period := n, staged := none, remaining := n, state := .running }) =
        s.setTimer u (some { r with period := n, staged := none, remaining := n, state := .running }) := by
      rw [State.modifyTimer, hr, Option.map_some]
    dsimp only
    rw [hset]
    refine .setTimer (fun q hq => ?_) (fun h q hq => ?_) (fun h q hq _ v k hvu hk => ?_) fun hok _ q hq => ?_
    · obtain rfl := Option.some.inj (hr.symm.trans hq)
      exact hrb ▸ hslotless
    · obtain rfl := Option.some.inj hq
      exact ⟨hrb ▸ hslotless, nofun, fun hne => ⟨(h.bound u r hr hne).1, nofun, hl⟩⟩
    · obtain rfl := Option.some.inj hq
      exact fun hkr => hvu (h.unique v u k r hk hr hkr (hkr ▸ hrb ▸ hb))
    · obtain rfl := Option.some.inj hq
      exact hcounted hok
  · next hnone =>
    split
    · next u hu =>
      have hfree := (State.freeTimer?_eq_some.mp hu).1
      refine .setTimer (fun r hr => nomatch hfree.symm.trans hr) (fun _ r hr => ?_) (fun _ r hr _ v q _ hq => ?_)
        fun hok _ r hr => ?_
      · obtain rfl := Option.some.inj hr
        exact ⟨hslotless, nofun, fun _ => ⟨rfl, nofun, hl⟩⟩
      · obtain rfl := Option.some.inj hr
        exact State.boundTimer?_eq_none.mp hnone v q hq
      · obtain rfl := Option.some.inj hr
        exact hcounted hok
    · exact .refl s

end

end Sys2Proof.Machine
end

section
/-! PROOFS. What starts, claimed hits, awards and expiries of contexts keep of the laws of the stack and the timers. -/

namespace Sys2Proof.Machine

/-! ### The game a start is made in -/

/-- The current player is `cur`, and `live` holds where contexts may run. -/
structure State.Runs (s : State) (cur : Nat) (live : Prop) : Prop where
  current : s.currentPlayer = cur
  game : s.gpc.game = .starting ∨ s.gpc.game = .inPlay → live

theorem State.Runs.of_gpc {s t : State} {cur : Nat} {live : Prop} (h : s.Runs cur live) (hg : t.gpc = s.gpc := by simp) :
    t.Runs cur live :=
  ⟨by rw [State.currentPlayer, hg]; exact h.current, by rw [hg]; exact h.game⟩

/-! ### A resume that pauses the RUNNING context of its group (R84, R85) -/

section
variable {cur : Nat} {live ok : Prop} {s t : State} {x y : Fin 12} {c d : Context} {tm : Template} {v : Option (Fin 16)} {n : Nat}

theorem State.runningInGroup_congr (h : ∀ y, (t.slot? y).map (fun c => (c.phase, c.owner)) =
      (s.slot? y).map fun c => (c.phase, c.owner)) (ht : t.mst.template? = s.mst.template?) (p : Nat) (g : Fin 8) :
    t.runningInGroup p g = s.runningInGroup p g := by
  have hgroup (y : Fin 12) : t.slotGroup y = s.slotGroup y := by
    rw [State.slotGroup_eq, State.slotGroup_eq, Mst.group, Mst.group, ht]
  have hpred : (fun y => match t.slot? y with
      | some c => decide (c.phase = Phase.running) && decide (c.owner = p) && decide (t.slotGroup y = g)
      | none => false) = fun y => match s.slot? y with
      | some c => decide (c.phase = Phase.running) && decide (c.owner = p) && decide (s.slotGroup y = g)
      | none => false := by
    funext y
    have hy := h y
    rw [hgroup]
    cases h1 : t.slot? y <;> cases h2 : s.slot? y <;> simp_all
  unfold State.runningInGroup
  split
  · rfl
  · exact congrArg (fun f => (List.finRange 12).find? f) hpred

theorem State.takeTimer_mst_amend (hc : s.mst.slots[x] = some c) :
    (s.takeTimer x tm v n).mst = s.mst.amend x (c.taking v) := State.takeTimer_slot n hc

theorem State.runningInGroup_takeTimer (hc : s.mst.slots[x] = some c) (p : Nat) (g : Fin 8) :
    (s.takeTimer x tm v n).runningInGroup p g = s.runningInGroup p g := by
  have hmst := State.takeTimer_mst_amend (tm := tm) (v := v) (n := n) hc
  refine State.runningInGroup_congr (fun y => ?_) ?_ p g
  · rw [State.slot?, hmst]
    by_cases hyx : y = x
    · subst hyx
      have hslot : s.slot? y = some c := hc
      rw [Mst.amend_slots_same, hslot]
      rfl
    · rw [Mst.amend_slots_other hyx]
      rfl
  · rw [hmst]
    funext y
    by_cases hyx : y = x
    · subst hyx
      rw [Mst.template?_eq hc, Mst.template?_eq Mst.amend_slots_same]
      rfl
    · rw [Mst.template?, Mst.amend_slots_other hyx]
      rfl

/-- A timer taken by one context and the pause of another may be made in either order. -/
theorem State.takeTimer_enterPaused_comm (hyx : y ≠ x) (hc : s.mst.slots[x] = some c) (hd : s.mst.slots[y] = some d) :
    ((s.takeTimer x tm v n).enterPaused y).mst = ((s.enterPaused y).takeTimer x tm v n).mst := by
  have hd' : (s.takeTimer x tm v n).mst.slots[y] = some d := by
    rw [State.takeTimer_mst_amend hc, Mst.amend_slots_other hyx]
    exact hd
  have hc' : (s.enterPaused y).mst.slots[x] = some c := by
    rw [State.enterPaused_put hd]
    exact (Mst.put_slots_other (m := s.mst) (c := { d with phase := .paused }) fun e => hyx e.symm).trans hc
  rw [State.enterPaused_put hd', State.takeTimer_slot n hc, State.takeTimer_slot n hc', State.enterPaused_put hd]
  simp only [Mst.put, reduceCtorEq, if_false, if_true, Mst.mk.injEq, true_and, and_true]
  exact Vector.set_comm _ _ fun e => hyx (Fin.ext e.symm)

theorem State.enterRunning_mst_congr (h : t.mst = s.mst) : (t.enterRunning x).mst = (s.enterRunning x).mst := by
  rw [State.enterRunning_mst, State.enterRunning_mst, State.slot?, State.slot?, State.slotPriority_eq,
    State.slotPriority_eq, h]

theorem State.timerFor?_congr (h : ∀ u : Fin 16, (t.tmu.timers[u]).isNone = (s.tmu.timers[u]).isNone) :
    t.timerFor? tm = s.timerFor? tm := by
  have hfree : t.freeTimer? = s.freeTimer? :=
    congrArg (fun f : Fin 16 → Bool => (List.finRange 16).find? f) (funext h)
  rw [State.timerFor?, State.timerFor?, hfree]

theorem State.enterPaused_timerFor? (hd : s.mst.slots[y] = some d) : (s.enterPaused y).timerFor? tm = s.timerFor? tm :=
  State.timerFor?_congr fun u => by
    rw [State.enterPaused_timers hd]
    split
    · rw [Option.isNone_map]
    · rfl

theorem State.enterPaused_other (hyx : x ≠ y) (hd : s.mst.slots[y] = some d) :
    (s.enterPaused y).mst.slots[x] = s.mst.slots[x] := by
  rw [State.enterPaused_put hd]
  exact Mst.put_slots_other (m := s.mst) hyx

theorem State.enterPaused_templates (i : Fin 32) : (s.enterPaused y).mst.templates[i] = s.mst.templates[i] := by
  rw [State.enterPaused_mst]

/-- Once the RUNNING context of a group is PAUSED, its owner has none in the group (R78, R85). -/
theorem Mst.Fits.group_free_paused (h : s.mst.Fits cur live) (hd : s.mst.slots[y] = some d) (hp : d.phase = .running)
    (hg : s.mst.group y ≠ 0) (z : Fin 12) (e : Context) (he : (s.enterPaused y).mst.slots[z] = some e)
    (her : e.phase = .running) (ho : e.owner = d.owner) : (s.enterPaused y).mst.group z ≠ s.mst.group y := by
  have hput := State.enterPaused_put hd
  rw [hput] at he ⊢
  exact h.group_free (c' := { d with phase := .paused }) hd hp nofun rfl hg z e he her ho

/-- The timers of a resume that pauses another context are those of the pause and then the resume. -/
theorem State.resumeOver_timers (hm : s.mst.Fits cur live) (ht : s.mst.Timed s.tmu.timers live) (hyx : y ≠ x)
    (hc : s.mst.slots[x] = some c) (hcp : c.phase = .parked) (hd : s.mst.slots[y] = some d) (hv : s.timerFor? tm = some v)
    (u : Fin 16) : (((s.takeTimer x tm v n).enterPaused y).enterRunning x).tmu.timers[u] =
      (((s.enterPaused y).takeTimer x tm v n).enterRunning x).tmu.timers[u] := by
  have hnone : c.timer = none := ht.untimed hm hc (by rw [hcp]; rfl)
  have hd' : (s.takeTimer x tm v n).mst.slots[y] = some d := by
    rw [State.takeTimer_mst_amend hc, Mst.amend_slots_other hyx]
    exact hd
  have hxy : x ≠ y := fun e => hyx e.symm
  have hc' : ((s.takeTimer x tm v n).enterPaused y).mst.slots[x] = some (c.taking v) :=
    (State.enterPaused_other hxy hd').trans (State.takeTimer_same hc)
  rw [State.enterRunning_timers hc', State.enterPaused_timers hd', State.takeTimer_timers, Context.taking_timer hnone,
    State.takeTimer_enterRunning_timers ((State.enterPaused_other hxy hd).trans hc) hnone, State.enterPaused_timers hd]
  by_cases hvu : v = some u
  · have hdu : d.timer ≠ some u := fun hdu => by
      rcases State.timerFor?_some hv with ⟨h, -⟩ | ⟨w, h, hw, -⟩
      · nomatch h.symm.trans hvu
      · obtain rfl := Option.some.inj (h.symm.trans hvu)
        obtain ⟨tm', htm'⟩ := hm.template y d hd
        obtain ⟨r, hr, -⟩ := (ht.held y d tm' hd htm').2 w hdu
        nomatch hw.symm.trans hr
    simp only [if_pos hvu, if_neg hdu]
    rfl
  · simp only [if_neg hvu]

/-- A PARKED context that resumes by a start (R84). -/
theorem ModesKept.resumeByStart (hc : s.mst.slots[x] = some c) (hp : c.phase = .parked)
    (htm : s.mst.templates[c.template] = some tm) (ho : c.owner = cur) (hl : live) :
    ModesKept cur live ok s (s.resumeByStart x c tm).1 := by
  unfold State.resumeByStart
  split
  · exact .endContext ..
  · next v hv =>
    dsimp only
    rw [State.runningInGroup_takeTimer hc]
    split
    · next hnone =>
      exact (ModesKept.resumeRunning hc hp htm hv ho hl fun _ hg =>
        State.runningInGroup_none hnone hg).then_frame
    · next y hy =>
      obtain ⟨hg, d, hd, hdr, hdo, hyg⟩ := State.runningInGroup_some hy
      have hyx : y ≠ x := fun e => by
        subst e
        obtain rfl := Option.some.inj (hc.symm.trans hd)
        nomatch hp.symm.trans hdr
      split
      · exact (ModesKept.resumePaused hc hp htm hv ho hl).then_frame
      · refine ModesKept.then_frame (t := ((s.takeTimer x tm v c.stored).enterPaused y).enterRunning x)
          (.congr (.of_fits (fun h => (ModesKept.enterPaused hd hdr).trans ?_) fun hl' => absurd hl hl')
            (State.enterRunning_mst_congr (State.takeTimer_enterPaused_comm hyx hc hd)) fun hm ht u =>
              State.resumeOver_timers hm ht hyx hc hp hd hv u) rfl rfl
        have hxy : x ≠ y := fun e => hyx e.symm
        refine .resumeRunning ((State.enterPaused_other hxy hd).trans hc) hp ((State.enterPaused_templates _).trans htm)
          ((State.enterPaused_timerFor? hd).trans hv) ho hl fun _ _ z e he her heo => ?_
        exact hyg ▸ h.group_free_paused hd hdr (hyg ▸ hg) z e he her (heo.trans hdo.symm)

theorem ModesKept.startStanding (hc : s.mst.slots[x] = some c) (htm : s.mst.templates[c.template] = some tm)
    (ho : c.owner = cur) (hl : live) : ModesKept cur live ok s (s.startStanding x c tm).1 := by
  unfold State.startStanding
  split
  · next hp => exact .resumeByStart hc hp htm ho hl
  · split
    · exact .modifyHeld s _ (fun _ => rfl) fun _ => Timer.load_counted
    · exact .refl s

theorem State.enterPaused_current : (s.enterPaused y).currentPlayer = s.currentPlayer := by
  rw [State.currentPlayer, State.currentPlayer, show (s.enterPaused y).gpc = s.gpc by simp]

/-- A start with no standing context (R81 to R85). -/
theorem ModesKept.startNew {i : Fin 32} (htm : s.mst.templates[i] = some tm) (hcur : s.currentPlayer = cur) (hl : live)
    (hnone : s.standing? cur i = none) : ModesKept cur live ok s (s.startNew i tm).1 := by
  have hstanding := State.standing?_none hnone
  unfold State.startNew
  split
  · exact .refl s
  · next x hx =>
    have hfree := State.chooseSlot?_some hx
    split
    · exact .refl s
    · next v hv =>
      split
      · next hgroup =>
        rw [hcur] at hgroup
        exact .setUp htm hfree hv hcur hl hstanding fun hg => State.runningInGroup_none hgroup hg
      · next y hy =>
        rw [hcur] at hy
        obtain ⟨hg, d, hd, hdr, hdo, hyg⟩ := State.runningInGroup_some hy
        split
        · exact .refl s
        · refine .of_fits (fun h => (ModesKept.enterPaused hd hdr).trans ?_) fun hl' => absurd hl hl'
          refine .setUp ((State.enterPaused_templates i).trans htm) ?_ ((State.enterPaused_timerFor? hd).trans hv)
            (State.enterPaused_current.trans hcur) hl (fun z e he hes heo => ?_) fun _ z e he her heo => ?_
          · rcases hfree with hfree | hended
            · have hxy : x ≠ y := fun e => nomatch (e ▸ hfree).symm.trans hd
              exact .inl ((State.enterPaused_other hxy hd).trans hfree)
            · exact .inr (by rw [State.enterPaused_mst]; exact hended)
          · by_cases hzy : z = y
            · subst hzy
              rw [State.enterPaused_put hd] at he
              obtain rfl := Option.some.inj
                ((Mst.put_slots_same (m := s.mst) (c := { d with phase := .paused })).symm.trans he)
              exact hstanding z d hd (hdr ▸ rfl) heo
            · exact hstanding z e ((State.enterPaused_other hzy hd).symm.trans he) hes heo
          · exact hyg ▸ h.group_free_paused hd hdr (hyg ▸ hg) z e he her (heo.trans hdo.symm)

/-- A start, whatever comes of it (R83 to R85). -/
theorem ModesKept.startMode {i : Fin 32} (hr : s.Runs cur live) : ModesKept cur live ok s (s.startMode i).1 := by
  unfold State.startMode
  split
  · exact .refl s
  · next tm htm =>
    split
    · exact .refl s
    · split
      · exact .refl s
      · next hgame =>
        have hl : live := hr.game (by tauto)
        split
        · exact .refl s
        · split
          · next x hx =>
            obtain ⟨d, hd, -, ht, ho⟩ := State.standing?_some hx
            have hslot : s.slot? x = some d := hd
            rw [hslot]
            dsimp only
            have htmd : s.mst.templates[d.template] = some tm := by simp only [ht]; exact htm
            exact .startStanding hd htmd (ho.trans hr.current) hl
          · next hnone => exact .startNew htm hr.current hl (hr.current ▸ hnone)

theorem ModesKept.autoStart {i : Fin 32} (hr : s.Runs cur live) : ModesKept cur live ok s (s.autoStart i) := by
  have hstart : ModesKept cur live ok s (s.startMode i).1 := .startMode hr
  unfold State.autoStart
  split
  · next t _ heq =>
    rw [heq] at hstart
    exact hstart.then_frame
  · next t _ _ heq =>
    rw [heq] at hstart
    exact hstart

theorem ModesKept.startNext {o : Option (Fin 32)} (hr : s.Runs cur live) : ModesKept cur live ok s (s.startNext o) := by
  cases o with
  | none => exact .refl s
  | some i => exact .autoStart hr

/-! ### Claimed hits (R47, R88 to R90) -/

theorem ModesKept.payContext (s : State) (x : Fin 12) (c : Context) (tm : Template) (w k : Nat) :
    ModesKept cur live ok s (s.payContext x c tm w k) := .credit ..

theorem ModesKept.setHits (s : State) (x : Fin 12) (f : Context → Nat) :
    ModesKept cur live ok s (s.modifySlot x fun c => { c with hits := f c }) :=
  .modifySlot s x (fun _ => ⟨rfl, rfl, rfl, rfl⟩) fun _ _ h => ⟨h, id⟩

/-- An end followed by an automatic start (R86, R91). -/
theorem ModesKept.endAndStart {reason : EndReason} {b : Bool} {o : Option (Fin 32)} (hr : s.Runs cur live) :
    ModesKept cur live ok s ((s.endContext x reason b).startNext o) :=
  (ModesKept.endContextWith s x reason b).trans (.startNext hr.of_gpc)

theorem ModesKept.complete {f : ShotFields} (hr : s.Runs cur live) : ModesKept cur live ok s (s.complete x c tm f) :=
  (ModesKept.payContext s x c tm f.completionValue.worth 1).trans (.endAndStart hr.of_gpc)

theorem ModesKept.claimShot {f : ShotFields} {k : Nat} (hr : s.Runs cur live) :
    ModesKept cur live ok s (s.claimShot x c tm f k) := by
  have hpaid := (ModesKept.payContext (cur := cur) (live := live) (ok := ok) s x c tm c.value k).trans
    (.setHits _ x fun _ => min (c.hits + k) 255)
  unfold State.claimShot
  dsimp only
  split
  · refine hpaid.trans (.complete (State.Runs.of_gpc hr ?_))
    simp
  · split
    · exact hpaid.trans (.modifyHeld _ _ (fun _ => rfl) fun _ => Timer.load_counted)
    · exact hpaid

theorem ModesKept.collect {k : Nat} (hr : s.Runs cur live) : ModesKept cur live ok s (s.collect x c tm k) :=
  ((ModesKept.payContext s x c tm c.value 1).trans (.setHits _ x fun c => min (c.hits + k) 255)).trans
    (.endAndStart hr.of_gpc)

theorem ModesKept.claimHit {k : Nat} (hr : s.Runs cur live) : ModesKept cur live ok s (s.claimHit x k).1 := by
  unfold State.claimHit
  split
  · split
    · exact .claimShot hr
    · exact .claimShot hr
    · exact .collect hr
  · exact .refl s

theorem ModesKept.walk {g : Fin 16} {k : Nat} {alive l : List (Fin 12)} (hr : s.Runs cur live) :
    ModesKept cur live ok s (s.walk g k alive l).1 := by
  induction l generalizing s alive with
  | nil => exact .refl s
  | cons y l ih =>
    unfold State.walk
    split
    · have hclaim : ModesKept cur live ok s (s.claimHit y k).1 := .claimHit hr
      split
      · exact hclaim
      · exact hclaim.trans (ih hr.of_gpc)
    · exact ih hr

/-! ### Awards (R48 to R54) -/

theorem ModesKept.counterAction {a : CounterAction} (hr : s.Runs cur live) :
    ModesKept cur live ok s (s.counterAction a) := by
  cases a with
  | none => exact .refl s
  | notify n => exact (ModesKept.refl s).then_frame rfl rfl
  | lightLock => exact (ModesKept.refl s).then_frame (by simp [State.counterAction]) (by simp [State.counterAction])
  | startMode i => exact .autoStart hr
  | extraBall => exact (ModesKept.refl s).then_frame (by simp [State.counterAction]) (by simp [State.counterAction])
  | bonusMult => exact (ModesKept.refl s).then_frame (by simp [State.counterAction]) (by simp [State.counterAction])

theorem ModesKept.counterActions {a : CounterAction} {n : Nat} (hr : s.Runs cur live) :
    ModesKept cur live ok s (s.counterActions a n) := by
  induction n generalizing s with
  | zero => exact .refl s
  | succ n ih => exact (ModesKept.counterAction hr).trans (ih hr.of_gpc)

theorem ModesKept.advanceCounter {r : CounterRef} {k : Nat} (hr : s.Runs cur live) :
    ModesKept cur live ok s (s.advanceCounter r k) := by
  rw [State.advanceCounter_eq]
  split
  · exact .refl s
  · exact ((ModesKept.refl s).then_frame).trans (.counterActions hr.of_gpc)

theorem ModesKept.collectJackpot (s : State) (pf : Bool) : ModesKept cur live ok s (s.collectJackpot pf) := by
  unfold State.collectJackpot
  split
  · exact (ModesKept.credit s _ _ none).then_frame rfl rfl
  · exact .refl s

theorem ModesKept.performAward {k : Nat} {a : Award} (hr : s.Runs cur live) :
    ModesKept cur live ok s (s.performAward k a) := by
  cases a with
  | score v pf => exact .credit ..
  | bonus v => exact (ModesKept.refl s).then_frame (by simp [State.performAward]) (by simp [State.performAward])
  | bonusMult n => exact (ModesKept.refl s).then_frame (by simp [State.performAward]) (by simp [State.performAward])
  | advance r => exact .advanceCounter hr
  | jackpot pf => exact .collectJackpot s pf
  | lightLock => exact (ModesKept.refl s).then_frame (by simp [State.performAward]) (by simp [State.performAward])
  | startMode i => exact .autoStart hr
  | extraBall => exact (ModesKept.refl s).then_frame (by simp [State.performAward]) (by simp [State.performAward])

theorem ModesKept.baseAwards {k : Nat} {l : List Award} (hr : s.Runs cur live) :
    ModesKept cur live ok s (s.baseAwards k l) := by
  induction l generalizing s with
  | nil => exact .refl s
  | cons a l ih => exact (ModesKept.performAward hr).trans (ih hr.of_gpc)

theorem ModesKept.scoreHit {g : Fin 16} {k : Nat} {l : List Award} {st : List (Fin 12)} (hr : s.Runs cur live) :
    ModesKept cur live ok s (s.scoreHit g k l st) := by
  unfold State.scoreHit
  dsimp only
  split
  · exact .walk hr
  · exact (ModesKept.walk hr).trans (.baseAwards hr.of_gpc)

end

end Sys2Proof.Machine
end

section
/-! PROOFS. What expiries, the tick and the requests of MST and TMU keep of the laws of the stack and the timers. -/

namespace Sys2Proof.Machine

section
variable {cur : Nat} {live ok : Prop} {s t : State} {x : Fin 12} {c : Context} {tm : Template} {u : Fin 16} {r : Timer}

/-! ### Expiries (R92, R93, R149, R150) -/

/-- The end of a context whose timer, in hand already, may hold anything, keeps the laws. -/
theorem ModesKept.end_over {reason : EndReason} {b : Bool} (hm : t.mst = s.mst)
    (ht : ∀ v : Fin 16, v ≠ u → t.tmu.timers[v] = s.tmu.timers[v]) (hc : s.mst.slots[x] = some c)
    (hv : c.timer = some u) (hs : c.phase.stands = true) : ModesKept cur live ok s (t.endContext x reason b) := by
  have hct : t.mst.slots[x] = some c := hm ▸ hc
  have hat (v : Fin 16) : (t.endContext x reason false).tmu.timers[v] =
      if c.timer = some v then none else s.tmu.timers[v] := by
    rw [State.endContext_timers hct hs]
    split
    · rfl
    · next hne => exact ht v fun e => hne (e ▸ hv)
  have hend : ModesKept cur live ok s (t.endContext x reason false) := by
    refine ModesKept.of_put (x := x) (c' := c.endedWith reason (t.remainingOf c))
      (fun h => hm ▸ State.endContext_put hct hs (hm ▸ h.not_mem_ended hc hs)) (fun h => h.template x c hc) nofun nofun
      nofun (fun _ _ _ _ => ⟨fun v _ hv => ?_, fun v hv _ => ?_, nofun, rfl⟩)
      (fun _ _ _ => ⟨fun v r hr => ?_, nofun⟩) fun _ => by rw [hc]; nofun
    · rw [hc, Option.bind_some] at hv
      rw [hat, if_neg hv]
    · rw [hc, Option.bind_some] at hv
      rw [hat, if_pos hv]
    · rw [hat] at hr
      split at hr
      · nomatch hr
      · exact .inl hr
  by_cases hp : c.phase = .running
  · cases b with
    | false => exact hend
    | true => exact hend.then_return hm hc hp
  · rw [State.endContext_no_return hct hp]
    exact hend

theorem ModesKept.contextTimeout (hr : s.Runs cur live) : ModesKept cur live ok s (s.contextTimeout x) := by
  unfold State.contextTimeout
  split
  · exact .endAndStart hr
  · exact .refl s

theorem ModesKept.setValue (s : State) (x : Fin 12) (f : Context → Nat) :
    ModesKept cur live ok s (s.modifySlot x fun c => { c with value := f c }) :=
  .modifySlot s x (fun _ => ⟨rfl, rfl, rfl, rfl⟩) fun _ _ h => ⟨h, id⟩

theorem ModesKept.hurryExpiry (hr : s.Runs cur live) : ModesKept cur live ok s (s.hurryExpiry x u) := by
  unfold State.hurryExpiry
  split
  · split
    · split
      · next f _ _ =>
        exact (ModesKept.setValue s x fun c => decayStep c.value f.floor.worth f.decay f.unitExponent).trans
          (.modifyHeld _ (some u) (fun _ => rfl) fun _ => Timer.load_counted)
      · exact .endAndStart hr
    · exact .refl s
  · exact .refl s

/-- The timers are looked at only where the law of the timers is given. -/
theorem ModesKept.of_timed {t₀ : State} (h₀ : ModesKept cur live ok t₀ t) (hm : t₀.mst = s.mst)
    (h : s.mst.Fits cur live → s.mst.Timed s.tmu.timers live → ModesKept cur live ok s t) : ModesKept cur live ok s t :=
  ⟨hm ▸ h₀.modes, fun hf ht => (h hf ht).timers hf ht, fun hok hf ht => (h hf ht).counts hok hf ht, hm ▸ h₀.free⟩

/-- A timer bound to a slot is its context's, which stands there with a template (R78). -/
theorem Mst.Timed.bound_slot {m : Mst} {ts : Vector (Option Timer) 16} (h : m.Timed ts live) (hm : m.Fits cur live)
    (hr : ts[u] = some r) (hb : r.binding = .context x ∨ r.binding = .hurry x) : ∃ c tm, m.slots[x] = some c ∧
      m.templates[c.template] = some tm ∧ c.timer = some u ∧ c.phase.live = true ∧ r.binding = tm.binding x := by
  obtain ⟨c, hc, hv⟩ := h.back u r x hr hb
  obtain ⟨tm, htm⟩ := hm.template x c hc
  obtain ⟨hsome, hheld⟩ := h.held x c tm hc htm
  obtain ⟨q, hq, hqb, -⟩ := hheld u hv
  obtain rfl := Option.some.inj (hr.symm.trans hq)
  rw [hv, Option.isSome_some] at hsome
  exact ⟨c, tm, hc, htm, hv, (Bool.and_eq_true_iff.mp hsome.symm).1, hqb⟩

theorem Template.binding_hurry {y : Fin 12} (h : tm.binding x = .hurry y) : ∃ f, tm.kind = .hurry f := by
  unfold Template.binding Template.isHurry at h
  split at h
  · next f hf => exact ⟨f, hf⟩
  · nomatch h

theorem State.setTimer_off {o : Option Timer} (v : Fin 16) (h : v ≠ u) :
    (s.setTimer u o).tmu.timers[v] = s.tmu.timers[v] := by
  rw [State.setTimer_timers, if_neg h]

theorem State.setTimer_at {o : Option Timer} : (s.setTimer u o).tmu.timers[u] = o := by
  rw [State.setTimer_timers, if_pos rfl]

/-- A timer of a context brought to 0 and handed on: the context ends, or its value decays and the timer reloads. -/
theorem ModesKept.expireContext (hr : s.Runs cur live) (hu : s.tmu.timers[u] = some r) (hb : r.binding = .context x) :
    ModesKept cur live ok s
      (((s.setTimer u (some { r with remaining := 0 })).releaseTimer u).contextTimeout x) := by
  refine .of_timed (t₀ := (s.setTimer u (some { r with remaining := 0 })).releaseTimer u)
    (.contextTimeout hr.of_gpc) rfl fun hf ht => ?_
  obtain ⟨c, tm, hc, htm, hv, hl, -⟩ := ht.bound_slot hf hu (.inl hb)
  have hst : ((s.setTimer u (some { r with remaining := 0 })).releaseTimer u).slotTemplate? x = some tm := by
    rw [State.slotTemplate?_eq]
    exact (Mst.template?_eq hc).trans htm
  rw [State.contextTimeout, hst]
  have hended : ModesKept cur live ok s
      (((s.setTimer u (some { r with remaining := 0 })).releaseTimer u).endContext x .timedOut true) :=
    .end_over rfl (fun v h => by rw [State.releaseTimer, State.setTimer_off v h, State.setTimer_off v h]) hc hv
      (Phase.stands_of_live hl)
  exact hended.trans (.startNext hr.of_gpc)

theorem ModesKept.expireHurry (hr : s.Runs cur live) (hu : s.tmu.timers[u] = some r) (hb : r.binding = .hurry x) :
    ModesKept cur live ok s ((s.setTimer u (some { r with remaining := 0 })).hurryExpiry x u) := by
  refine .of_timed (t₀ := s.setTimer u (some { r with remaining := 0 })) (.hurryExpiry hr.of_gpc) rfl fun hf ht => ?_
  obtain ⟨c, tm, hc, htm, hv, hl, hbt⟩ := ht.bound_slot hf hu (.inr hb)
  obtain ⟨f, hk⟩ := Template.binding_hurry (hbt.symm.trans hb)
  have hslot : (s.setTimer u (some { r with remaining := 0 })).slot? x = some c := hc
  have hst : (s.setTimer u (some { r with remaining := 0 })).slotTemplate? x = some tm := by
    rw [State.slotTemplate?_eq]
    exact (Mst.template?_eq hc).trans htm
  rw [State.hurryExpiry, hslot, hst]
  simp only [hk]
  split
  · refine (ModesKept.setValue s x fun c => decayStep c.value f.floor.worth f.decay f.unitExponent).trans
      (.of_keys (by simp; rfl) (fun v => ?_) fun v q hq => ?_)
    · rw [State.modifyTimer_timers]
      by_cases hvu : v = u
      · subst hvu
        rw [if_pos rfl]
        rw [show (s.modifySlot x fun c => { c with value := decayStep c.value f.floor.worth f.decay f.unitExponent }).tmu =
          s.tmu from rfl, hu]
        exact congrArg (fun o => (o.map Timer.load).map Timer.key) State.setTimer_at
      · rw [if_neg hvu]
        exact congrArg (Option.map Timer.key) (State.setTimer_off v hvu)
    · rw [State.modifyTimer_timers] at hq
      by_cases hvu : v = u
      · subst hvu
        rw [if_pos rfl] at hq
        have hload : q = r.load :=
          (Option.some.inj ((congrArg (Option.map Timer.load) State.setTimer_at).symm.trans hq)).symm
        exact ⟨r, hu, fun h => hload ▸ Timer.load_counted h⟩
      · rw [if_neg hvu] at hq
        exact ⟨q, (State.setTimer_off v hvu).symm.trans hq, id⟩
  · have hended : ModesKept cur live ok s
        ((s.setTimer u (some { r with remaining := 0 })).endContext x .timedOut true) :=
      .end_over rfl (fun v h => State.setTimer_off v h) hc hv (Phase.stands_of_live hl)
    exact hended.trans (.startNext hr.of_gpc)

theorem State.setTimer_again {o o' : Option Timer} : (s.setTimer u o).setTimer u o' = s.setTimer u o' := by
  simp only [State.setTimer, Vector.set_set]

theorem State.modifyTimer_set {f : Timer → Timer} : (s.setTimer u (some r)).modifyTimer u f = s.setTimer u (some (f r)) := by
  rw [State.modifyTimer, State.setTimer_at, State.setTimer_again, Option.map_some]

/-- A timer of no context given back at its expiry. -/
theorem ModesKept.releaseTimer (hold : ∀ r : Timer, s.tmu.timers[u] = some r → r.binding.Slotless) :
    ModesKept cur live ok s (s.setTimer u none) :=
  .setTimer hold nofun nofun nofun

/-- A USER timer set to what a USER timer may be. -/
theorem ModesKept.setUser {q : Timer} (hold : ∀ r : Timer, s.tmu.timers[u] = some r → r.binding.Slotless)
    (hb : q.binding = .user) (hst : q.state ≠ .frozen) (hcount : s.mst.Counted s.tmu.timers → q.Counted) :
    ModesKept cur live ok s (s.setTimer u (some q)) := by
  refine .setTimer hold (fun _ r hr => ?_) (fun _ r hr hne => ?_) fun _ h r hr => ?_
  · obtain rfl := Option.some.inj hr
    exact ⟨.inl hb, hst, fun h => absurd hb h⟩
  · obtain rfl := Option.some.inj hr
    exact absurd hb hne
  · obtain rfl := Option.some.inj hr
    exact hcount h

theorem Timer.Counted.idle (h : r.Counted) : ({ r with state := .idle, remaining := 0 } : Timer).Counted :=
  ⟨h.1, h.2.1, Nat.zero_le _, fun hne => absurd rfl hne⟩

theorem ModesKept.userExpiry (hu : s.tmu.timers[u] = some r) (hb : r.binding = .user) (hst : r.state = .running) :
    ModesKept cur live ok s
      ((s.setTimer u (some { r with remaining := 0 })).userExpiry u { r with remaining := 0 }) := by
  have hold : ∀ q : Timer, s.tmu.timers[u] = some q → q.binding.Slotless := fun q hq =>
    .inl (Option.some.inj (hu.symm.trans hq) ▸ hb)
  have hidle : ModesKept cur live ok s
      (((s.setTimer u (some { r with remaining := 0 })).modifyTimer u fun r => { r with state := .idle, remaining := 0 }).raise
        (.userTimer u)) := by
    rw [State.modifyTimer_set]
    exact ModesKept.then_frame (.setUser (q := { r with state := .idle, remaining := 0 }) hold hb nofun
      fun h => (h.timers u r hu).idle) rfl rfl
  unfold State.userExpiry
  split
  · have hset : ((s.setTimer u (some { r with remaining := 0 })).raise (.userTimer u)).modifyTimer u Timer.load =
        (s.setTimer u (some r.load)).raise (.userTimer u) :=
      congrArg (fun t : State => t.raise (.userTimer u)) State.modifyTimer_set
    rw [hset]
    have hload : r.load.state ≠ .frozen := by rw [show r.load.state = r.state from rfl, hst]; nofun
    exact ModesKept.then_frame (.setUser (q := r.load) hold hb hload fun h => Timer.load_counted (h.timers u r hu)) rfl rfl
  · exact hidle
  · exact hidle

/-- A timer's last count taken (R147, R149). -/
theorem ModesKept.takeExpiry (hr : s.Runs cur live) (hu : s.tmu.timers[u] = some r) (hst : r.state = .running) :
    ModesKept cur live ok s (s.takeExpiry u r) := by
  have hslotless (h : r.binding.Slotless) (q : Timer) (hq : s.tmu.timers[u] = some q) : q.binding.Slotless :=
    Option.some.inj (hu.symm.trans hq) ▸ h
  unfold State.takeExpiry
  split
  · unfold State.expire
    split
    · next hb => exact .expireContext hr hu hb
    · next hb => exact .expireHurry hr hu hb
    · next hb =>
      rw [State.releaseTimer, State.setTimer_again]
      exact .releaseTimer (hslotless (.inr (.inl hb)))
    · next hb =>
      rw [State.releaseTimer, State.setTimer_again]
      exact (ModesKept.releaseTimer (hslotless (.inr (.inr hb)))).then_frame
    · next hb => exact .userExpiry hu hb hst
  · next hrem =>
    refine .of_keys rfl (fun v => ?_) fun v q hq => ?_
    · by_cases hvu : v = u
      · subst hvu
        rw [State.setTimer_at, hu]
        rfl
      · rw [State.setTimer_off v hvu]
    · by_cases hvu : v = u
      · subst hvu
        obtain rfl := Option.some.inj (State.setTimer_at.symm.trans hq)
        exact ⟨r, hu, fun h => ⟨h.1, h.2.1, (Nat.sub_le ..).trans h.2.2.1, fun _ => by dsimp only; omega⟩⟩
      · exact ⟨q, (State.setTimer_off v hvu).symm.trans hq, id⟩

/-- The tick lowers counts above 1 (R147). -/
theorem ModesKept.tmuTick (s : State) : ModesKept cur live ok s s.tmuTick := by
  have hat (v : Fin 16) : s.tmuTick.tmu.timers[v] =
      (s.tmu.timers[v]).map fun r => if s.counts r then r.lower else r := by
    simp only [State.tmuTick, mapTable_getElem]
  have hlower (r : Timer) : r.lower.key = r.key := by unfold Timer.lower; split <;> rfl
  refine .of_keys rfl (fun v => ?_) fun v q hq => ?_
  · rw [hat, Option.map_map]
    refine congrArg (fun f => Option.map f _) (funext fun r => ?_)
    dsimp only [Function.comp]
    split
    · exact hlower r
    · rfl
  · rw [hat] at hq
    obtain ⟨r, hr, rfl⟩ := Option.map_eq_some_iff.mp hq
    refine ⟨r, hr, fun h => ?_⟩
    split
    · unfold Timer.lower
      split
      · next hgt => exact ⟨h.1, h.2.1, (Nat.sub_le ..).trans h.2.2.1, fun _ => by dsimp only; omega⟩
      · exact h
    · exact h

/-! ### The requests of TMU (R155 to R159) -/

theorem State.userTimer_ok {n : Nat} {v : Fin 16 × Timer} (h : s.userTimer n = .ok v) :
    s.tmu.timers[v.1] = some v.2 ∧ v.2.binding = .user := by
  unfold State.userTimer at h
  split at h
  · nomatch h
  · split at h
    · next q hq =>
      split at h
      · next hb =>
        obtain rfl := Except.ok.inj h
        exact ⟨hq, hb⟩
      · nomatch h
    · nomatch h

theorem State.userTimer_slotless {n : Nat} {v : Fin 16 × Timer} (h : s.userTimer n = .ok v) (q : Timer)
    (hq : s.tmu.timers[v.1] = some q) : q.binding.Slotless := by
  obtain ⟨h1, h2⟩ := State.userTimer_ok h
  exact .inl (Option.some.inj (h1.symm.trans hq) ▸ h2)

theorem ModesKept.allocTimer (p : List Byte) (s : State) : ModesKept cur live ok s (allocTimer p s).1 := by
  unfold Machine.allocTimer
  split
  · dsimp only
    split
    · exact .refl s
    · next hper =>
      split
      · next v hv =>
        have h1 : 1 ≤ numberAt p 1 2 := Nat.one_le_iff_ne_zero.mpr hper
        have hfree := (State.freeTimer?_eq_some.mp hv).1
        exact .setUser (fun r hr => nomatch hfree.symm.trans hr) rfl nofun fun _ =>
          ⟨⟨h1, numberAt_two_le p 1⟩, nofun, numberAt_two_le p 1, fun _ => h1⟩
      · exact .refl s
  · exact .refl s

theorem ModesKept.startTimer (p : List Byte) (s : State) : ModesKept cur live ok s (startTimer p s).1 := by
  unfold Machine.startTimer
  split
  · exact .refl s
  · next v r h =>
    obtain ⟨h1, h2⟩ := State.userTimer_ok h
    split
    · refine .setUser (State.userTimer_slotless h) h2 nofun fun hc => ?_
      obtain ⟨h3, h4, h5, h6⟩ := Timer.load_counted (hc.timers v r h1)
      exact ⟨h3, h4, h5, fun _ => h3.1⟩
    · exact .refl s

theorem ModesKept.stopTimer (p : List Byte) (s : State) : ModesKept cur live ok s (stopTimer p s).1 := by
  unfold Machine.stopTimer
  split
  · exact .refl s
  · next v r h =>
    obtain ⟨h1, h2⟩ := State.userTimer_ok h
    refine .setUser (State.userTimer_slotless h) h2 nofun fun hc => ?_
    obtain ⟨h3, h4, h5, -⟩ := hc.timers v r h1
    exact ⟨h3, h4, h5, fun hne => absurd rfl hne⟩

theorem ModesKept.freeTimer (p : List Byte) (s : State) : ModesKept cur live ok s (freeTimer p s).1 := by
  unfold Machine.freeTimer
  split
  · exact .refl s
  · next v r h => exact .releaseTimer (State.userTimer_slotless h)

theorem Timer.Counted.staging {n : Nat} (h : r.Counted) (h1 : n ≠ 0) (h2 : n ≤ 65535) :
    ({ r with staged := some n } : Timer).Counted :=
  ⟨h.1, fun _ hk => Option.some.inj hk ▸ ⟨Nat.one_le_iff_ne_zero.mpr h1, h2⟩, h.2.2⟩

theorem ModesKept.stagePeriod (p : List Byte) (s : State) : ModesKept cur live ok s (stagePeriod p s).1 := by
  unfold Machine.stagePeriod
  split
  · exact .refl s
  · next v r h =>
    split
    · exact .refl s
    · next hper =>
      exact .amendHeld s (some v) (fun _ => rfl) fun _ h => h.staging hper (numberAt_two_le p 1)

/-! ### The requests of MST (R98 to R102) -/

theorem ModesKept.startModeRequest {p : List Byte} (hr : s.Runs cur live) :
    ModesKept cur live ok s (startModeRequest p s).1 := by
  unfold Machine.startModeRequest
  split
  · exact .refl s
  · next i _ =>
    have hstart : ModesKept cur live ok s (s.startMode i).1 := .startMode hr
    split
    · next heq => rw [heq] at hstart; exact hstart
    · next heq => rw [heq] at hstart; exact hstart
    · next heq => rw [heq] at hstart; exact hstart

theorem ModesKept.stopMode (p : List Byte) (s : State) : ModesKept cur live ok s (stopMode p s).1 := by
  unfold Machine.stopMode
  split
  · exact .refl s
  · split
    · exact .endContextWith ..
    · exact .refl s

theorem ModesKept.addTime (s : State) (x : Fin 12) (c : Context) (n : Nat) :
    ModesKept cur live ok s (s.addTime x c n) := by
  unfold State.addTime
  split
  · refine .modifySlot s x (fun _ => ⟨rfl, rfl, rfl, rfl⟩) fun d _ _ => ⟨Nat.min_le_right .., fun h => ?_⟩
    dsimp only
    omega
  · refine .amendHeld s c.timer (fun _ => rfl) fun q h => ⟨h.1, h.2.1, Nat.min_le_right .., fun hne => ?_⟩
    have := h.2.2.2 hne
    dsimp only
    omega

/-- The parts of an adjustment, each made when it is selected (R100). -/
def State.adjustTime (s : State) (x : Fin 12) (c : Context) (o : Option Nat) : State := o.elim s fun n => s.addTime x c n

def State.adjustValue (s : State) (x : Fin 12) (tm : Template) (o : Option PointValue) : State :=
  o.elim s fun v => s.modifySlot x fun c => { c with value := tm.adjusted v.worth }

def State.adjustMult (s : State) (x : Fin 12) (o : Option Nat) : State :=
  o.elim s fun m => s.modifySlot x fun c => { c with multiplier := heldMultiplier m }

def State.adjustPeriod (s : State) (c : Context) (o : Option Nat) : State :=
  o.elim s fun n => s.amendHeld c.timer fun r => { r with staged := some n }

theorem State.applyAdjustment_eq (a : Adjustment) : s.applyAdjustment x c tm a =
    (((s.adjustTime x c a.ticks).adjustValue x tm a.value).adjustMult x a.multiplier).adjustPeriod c a.period := by
  obtain ⟨o1, o2, o3, o4⟩ := a
  cases o1 <;> cases o2 <;> cases o3 <;> cases o4 <;> rfl

theorem ModesKept.option {α : Type} {o : Option α} {f : α → State} (hf : ∀ a, o = some a → ModesKept cur live ok s (f a)) :
    ModesKept cur live ok s (o.elim s f) := by
  cases o with
  | none => exact .refl s
  | some a => exact hf a rfl

/-- The parts of an adjustment that may be applied: a staged period is in range. -/
theorem ModesKept.applyAdjustment {a : Adjustment} (hper : ∀ n, a.period = some n → n ≠ 0 ∧ n ≤ 65535) :
    ModesKept cur live ok s (s.applyAdjustment x c tm a) := by
  have htime : ModesKept cur live ok s (s.adjustTime x c a.ticks) := .option fun n _ => .addTime s x c n
  have hvalue : ∀ t : State, ModesKept cur live ok t (t.adjustValue x tm a.value) := fun t =>
    .option fun v _ => .setValue t x fun _ => tm.adjusted v.worth
  have hmult : ∀ t : State, ModesKept cur live ok t (t.adjustMult x a.multiplier) := fun t =>
    .option fun _ _ => .modifySlot t x (fun _ => ⟨rfl, rfl, rfl, rfl⟩) fun _ _ h => ⟨h, id⟩
  have hperiod : ∀ t : State, ModesKept cur live ok t (t.adjustPeriod c a.period) := fun t =>
    .option fun n hn => .amendHeld t c.timer (fun _ => rfl) fun _ h => h.staging (hper n hn).1 (hper n hn).2
  rw [State.applyAdjustment_eq]
  exact ((htime.trans (hvalue _)).trans (hmult _)).trans (hperiod _)

theorem adjustment?_period {p : List Byte} {a : Adjustment} {n : Nat} (h : adjustment? p = some a)
    (hn : a.period = some n) : n ≤ 65535 := by
  unfold adjustment? at h
  split at h
  · nomatch h
  · obtain rfl := Option.some.inj h
    dsimp only at hn
    split at hn
    · exact Option.some.inj hn ▸ numberAt_two_le p 8
    · nomatch hn

theorem adjustmentRefused_period {a : Adjustment} {n : Nat} (h : adjustmentRefused c tm a = none) (hn : a.period = some n) :
    n ≠ 0 := by
  unfold adjustmentRefused at h
  split at h
  · nomatch h
  · rw [hn] at h
    dsimp only at h
    split at h
    · nomatch h
    · next hok => exact fun e => hok (.inr e)

theorem ModesKept.adjustMode (p : List Byte) (s : State) : ModesKept cur live ok s (adjustMode p s).1 := by
  unfold Machine.adjustMode
  split
  · next x a _ ha =>
    split
    · next c tm _ _ =>
      split
      · exact .refl s
      · split
        · exact .refl s
        · next href =>
          have happlied : ModesKept cur live ok s (s.applyAdjustment x c tm a) :=
            .applyAdjustment fun n hn => ⟨adjustmentRefused_period href hn, adjustment?_period ha hn⟩
          dsimp only
          split
          · exact happlied
          · exact .refl s
    · exact .refl s
  · exact .refl s

/-- A table of contexts with an ENDED slot set FREE (R102). -/
def Mst.retired (m : Mst) (x : Fin 12) : Mst :=
  { m with slots := m.slots.set x.val none x.isLt, ended := m.ended.erase x }

theorem Mst.retired_same {m : Mst} : (m.retired x).slots[x] = none := Vector.getElem_set_self x.isLt

theorem Mst.retired_other {m : Mst} {y : Fin 12} (h : y ≠ x) : (m.retired x).slots[y] = m.slots[y] :=
  Vector.getElem_set_ne x.isLt y.isLt fun e => h (Fin.ext e.symm)

theorem Mst.retired_cases {m : Mst} {y : Fin 12} {d : Context} (hd : (m.retired x).slots[y] = some d) :
    y ≠ x ∧ m.slots[y] = some d := by
  by_cases hyx : y = x
  · subst hyx
    nomatch Mst.retired_same.symm.trans hd
  · exact ⟨hyx, (Mst.retired_other hyx).symm.trans hd⟩

section
variable {m : Mst} {ts : Vector (Option Timer) 16}

theorem Mst.retired_exists (hc : m.slots[x] = some c) (hs : c.phase.stands = false) {P : Phase → Prop}
    (hP : ∀ p, P p → p.stands = true) (y : Fin 12) :
    (∃ d, (m.retired x).slots[y] = some d ∧ P d.phase) ↔ ∃ d, m.slots[y] = some d ∧ P d.phase := by
  constructor
  · rintro ⟨d, hd, hp⟩
    exact ⟨d, (Mst.retired_cases hd).2, hp⟩
  · rintro ⟨d, hd, hp⟩
    have hyx : y ≠ x := fun e => by
      subst e
      obtain rfl := Option.some.inj (hc.symm.trans hd)
      exact Bool.false_ne_true (hs.symm.trans (hP _ hp))
    exact ⟨d, (Mst.retired_other hyx).trans hd, hp⟩

theorem Mst.retired_priority {y : Fin 12} (h : y ≠ x) : (m.retired x).priority y = m.priority y := by
  rw [Mst.priority, Mst.priority, Mst.template?, Mst.template?, Mst.retired_other h]
  rfl

theorem Mst.retired_group {y : Fin 12} (h : y ≠ x) : (m.retired x).group y = m.group y := by
  rw [Mst.group, Mst.group, Mst.template?, Mst.template?, Mst.retired_other h]
  rfl

theorem Mst.Fits.retired (h : m.Fits cur live) (hc : m.slots[x] = some c) (hs : c.phase.stands = false) :
    (m.retired x).Fits cur live where
  stackNodup := h.stackNodup
  pauseNodup := h.pauseNodup
  endedNodup := h.endedNodup.erase x
  stack y := (h.stack y).trans (Mst.retired_exists hc hs (P := fun p => p = .running) (fun _ e => e ▸ rfl) y).symm
  pause y := (h.pause y).trans (Mst.retired_exists hc hs (P := fun p => p = .paused) (fun _ e => e ▸ rfl) y).symm
  ended y := by
    refine h.endedNodup.mem_erase_iff.trans ⟨fun ⟨hyx, hy⟩ => ?_, fun ⟨d, hd, hds⟩ => ?_⟩
    · obtain ⟨d, hd, hds⟩ := (h.ended y).mp hy
      exact ⟨d, (Mst.retired_other hyx).trans hd, hds⟩
    · obtain ⟨hyx, hy⟩ := Mst.retired_cases hd
      exact ⟨hyx, (h.ended y).mpr ⟨d, hy, hds⟩⟩
  sorted := by
    have hne {y : Fin 12} (hy : y ∈ m.stack) : y ≠ x := fun e => by
      subst e
      obtain ⟨d, hd, hdr⟩ := (h.stack y).mp hy
      obtain rfl := Option.some.inj (hc.symm.trans hd)
      exact Bool.false_ne_true (hs.symm.trans (by rw [hdr]; rfl))
    refine h.sorted.imp_of_mem fun ha hb hab => ?_
    rw [Mst.retired_priority (hne ha), Mst.retired_priority (hne hb)]
    exact hab
  template y d hd := h.template y d (Mst.retired_cases hd).2
  owner y d hd := h.owner y d (Mst.retired_cases hd).2
  standing y z d e hd he := h.standing y z d e (Mst.retired_cases hd).2 (Mst.retired_cases he).2
  running y z d e hd he := by
    obtain ⟨hyx, hy⟩ := Mst.retired_cases hd
    obtain ⟨hzx, hz⟩ := Mst.retired_cases he
    rw [Mst.retired_group hyx, Mst.retired_group hzx]
    exact h.running y z d e hy hz

theorem Mst.Timed.retired (h : m.Timed ts live) (hm : m.Fits cur live) (hc : m.slots[x] = some c)
    (hs : c.phase.stands = false) : (m.retired x).Timed ts live where
  held y d tm hd htm := h.held y d tm (Mst.retired_cases hd).2 htm
  bound := h.bound
  frozen := h.frozen
  back u r y hu hb := by
    obtain ⟨d, tm, hd, -, hv, hl, -⟩ := h.bound_slot hm hu hb
    have hyx : y ≠ x := fun e => by
      subst e
      obtain rfl := Option.some.inj (hc.symm.trans hd)
      exact Bool.false_ne_true (hs.symm.trans (Phase.stands_of_live hl))
    exact ⟨d, (Mst.retired_other hyx).trans hd, hv⟩
  unique := h.unique

end

theorem ModesKept.retireMode (p : List Byte) (s : State) : ModesKept cur live ok s (retireMode p s).1 := by
  unfold Machine.retireMode
  split
  · exact .refl s
  · next x _ =>
    split
    · next hx =>
      obtain ⟨c, hc, hs⟩ := State.isEnded_iff.mp hx
      exact {
        modes := fun h => h.retired hc hs
        timers := fun hm h => h.retired hm hc hs
        counts := fun _ _ _ h => ⟨h.timers, h.periods, fun y d hd => h.parked y d (Mst.retired_cases hd).2⟩
        free := fun _ hall => absurd (hc.symm.trans (hall x)) nofun }
    · exact .refl s

end

end Sys2Proof.Machine
end

section
/-! PROOFS. The end of multiball and the resume of a ball (R95, R96), and what a ball's or a game's end leaves. -/

namespace Sys2Proof.Machine

section
variable {cur : Nat} {live ok : Prop} {s t : State} {x : Fin 12} {c : Context} {tm : Template} {p : Nat} {g : Fin 8}

/-! ### The end of multiball (R96) -/

/-- No RUNNING context of player p is in group g. -/
def State.GroupFree (s : State) (p : Nat) (g : Fin 8) : Prop :=
  ∀ (y : Fin 12) (d : Context), s.mst.slots[y] = some d → d.phase = .running → d.owner = p → s.mst.group y ≠ g

theorem State.returning?_group (h : s.mst.Fits cur live) (hx : s.returning? p g = some x) :
    ∃ c, s.mst.slots[x] = some c ∧ c.phase = .paused ∧ c.owner = p ∧ s.mst.group x = g := by
  obtain ⟨hmem, howner, hxg⟩ := State.returning?_some hx
  obtain ⟨c, hc, hp⟩ := (h.pause x).mp hmem
  have hslot : s.slot? x = some c := hc
  rw [hslot] at howner
  exact ⟨c, hc, hp, Option.some.inj howner, (State.slotGroup_eq s x).symm.trans hxg⟩

/-- A return into one group leaves another free. -/
theorem State.GroupFree.returnPaused {g' : Fin 8} (h : s.GroupFree p g) (hf : s.mst.Fits cur live) (hne : g' ≠ g) :
    (s.returnPaused p g').GroupFree p g := by
  unfold State.returnPaused
  split
  · exact h
  · split
    · next x hx =>
      obtain ⟨c, hc, -, -, hxg⟩ := State.returning?_group hf hx
      intro y d hd hdr ho
      rw [State.enterRunning_put hc] at hd ⊢
      rw [show ({ s.mst.put x { c with phase := .running } with ended := s.mst.ended } : Mst).group y = s.mst.group y from
        congrFun (Mst.put_group (c' := { c with phase := .running }) hc rfl) y]
      by_cases hyx : y = x
      · exact hyx ▸ hxg ▸ hne
      · exact h y d ((Mst.put_slots_other hyx).symm.trans hd) hdr ho
    · exact h

/-- One return into each of some groups in which none of a player's contexts runs keeps the laws (R96). -/
theorem ModesKept.returnsPaused {l : List (Fin 8)} (hl : live) (hnodup : l.Nodup) (hfree : ∀ g ∈ l, s.GroupFree p g) :
    ModesKept cur live ok s (l.foldl (fun s g => s.returnPaused p g) s) := by
  induction l generalizing s with
  | nil => exact .refl s
  | cons g l ih =>
    obtain ⟨hg, hnodup⟩ := List.nodup_cons.mp hnodup
    refine .of_fits (fun hf => ?_) fun hl' => absurd hl hl'
    refine ModesKept.trans (.returnPaused hf fun _ => hfree g (List.mem_cons_self ..)) (ih hnodup fun g' hg' => ?_)
    exact (hfree g' (List.mem_cons_of_mem _ hg')).returnPaused hf fun e => hg (e ▸ hg')

theorem State.groupsToReturn_free (h : g ∈ s.groupsToReturn p) : s.GroupFree p g := by
  have hmem := (List.mem_filter.mp h).2
  simp only [Bool.and_eq_true, decide_eq_true_eq] at hmem
  obtain ⟨⟨hg, -⟩, hnone⟩ := hmem
  exact State.runningInGroup_none (Option.isNone_iff_eq_none.mp hnone) hg

theorem ModesKept.endMbOnly (s : State) (hl : live) : ModesKept cur live ok s s.endMbOnly := by
  have hended := ModesKept.endAll (cur := cur) (live := live) (ok := ok) s
    (fun s slot => s.isLive slot && ((s.slotTemplate? slot).map Template.mbOnly).getD false) .mbEnded
  unfold State.endMbOnly
  dsimp only
  generalize s.endAll (fun s slot => s.isLive slot && ((s.slotTemplate? slot).map Template.mbOnly).getD false) .mbEnded = t
    at hended ⊢
  have hperm : (t.returnOrder (t.groupsToReturn t.currentPlayer)).Perm (t.groupsToReturn t.currentPlayer) :=
    sortBy_perm ..
  have hreturned : ModesKept cur live ok t ((t.returnOrder (t.groupsToReturn t.currentPlayer)).foldl
      (fun s g => s.returnPaused t.currentPlayer g) t) :=
    .returnsPaused hl (hperm.nodup_iff.mpr ((List.nodup_finRange 8).filter _)) fun g hg =>
      State.groupsToReturn_free (hperm.mem_iff.mp hg)
  have hcur (l : List (Fin 8)) : ∀ u : State, u.currentPlayer = t.currentPlayer →
      l.foldl (fun s g => s.returnPaused s.currentPlayer g) u = l.foldl (fun s g => s.returnPaused t.currentPlayer g) u := by
    induction l with
    | nil => exact fun _ _ => rfl
    | cons g l ih =>
      intro u hu
      rw [List.foldl_cons, List.foldl_cons, hu]
      exact ih _ (by rw [← hu]; simp [State.currentPlayer])
  exact (hended.trans (hreturned.then_frame (by rw [hcur _ t rfl]) (by rw [hcur _ t rfl]))).then_frame rfl rfl

theorem ModesKept.endMultiball (s : State) (hl : live) : ModesKept cur live ok s s.endMultiball := by
  have hoff : ModesKept cur live ok s { s with lmc := { s.lmc with multiball := false } } :=
    (ModesKept.refl s).then_frame rfl rfl
  have hended := hoff.trans (.endMbOnly { s with lmc := { s.lmc with multiball := false } } hl)
  unfold State.endMultiball
  exact hended.then_frame (State.raise_mst ..) (congrArg Tmu.timers (State.raise_tmu ..))

theorem ModesKept.multiballCheck (s : State) (hl : live) : ModesKept cur live ok s s.multiballCheck :=
  .ite (.endMultiball s hl) (.refl s)

/-! ### The resume of the incoming player's contexts (R95) -/

/-- What one resume does: the context ends without a timer, enters PAUSED in a group resumed already, or RUNNING. -/
theorem State.resumeOne_cases {G : List (Fin 8)} (hc : s.mst.slots[x] = some c) (htm : s.mst.templates[c.template] = some tm) :
    (s.timerFor? tm = none ∧ s.resumeOne G x = (s.endContext x .noTimer false, G)) ∨
    ∃ v, s.timerFor? tm = some v ∧
      ((tm.exclusionGroup ≠ 0 ∧ tm.exclusionGroup ∈ G ∧
          s.resumeOne G x = ((s.takeTimer x tm v c.stored).enterPaused x, G)) ∨
        (¬(tm.exclusionGroup ≠ 0 ∧ tm.exclusionGroup ∈ G) ∧
          s.resumeOne G x = ((s.takeTimer x tm v c.stored).enterRunning x, tm.exclusionGroup :: G))) := by
  have hslot : s.slot? x = some c := hc
  have hst : s.slotTemplate? x = some tm := by
    rw [State.slotTemplate?_eq]
    exact (Mst.template?_eq hc).trans htm
  unfold State.resumeOne
  rw [hslot, hst]
  dsimp only
  cases hv : s.timerFor? tm with
  | none => exact .inl ⟨rfl, rfl⟩
  | some v =>
    refine .inr ⟨v, rfl, ?_⟩
    dsimp only
    split
    · next h => exact .inl ⟨h.1, h.2, rfl⟩
    · next h => exact .inr ⟨h, rfl⟩

/-- A resume puts a record of the same template into its slot, and touches no other. -/
theorem State.resumeOne_put {G : List (Fin 8)} (hf : s.mst.Fits cur live) (hc : s.mst.slots[x] = some c)
    (hp : c.phase = .parked) (htm : s.mst.templates[c.template] = some tm) :
    ∃ c' : Context, c'.template = c.template ∧ (s.resumeOne G x).1.mst.slots = (s.mst.put x c').slots ∧
      (s.resumeOne G x).1.mst.group = s.mst.group ∧
      (c'.phase = .running → tm.exclusionGroup ∈ (s.resumeOne G x).2) ∧ G ⊆ (s.resumeOne G x).2 := by
  have hs : c.phase.stands = true := hp ▸ rfl
  rcases State.resumeOne_cases hc htm with ⟨-, h⟩ | ⟨v, -, ⟨-, -, h⟩ | ⟨-, h⟩⟩
  · have hput := State.endContext_put (reason := .noTimer) hc hs (hf.not_mem_ended hc hs)
    exact ⟨c.endedWith .noTimer (s.remainingOf c), rfl, by rw [h, hput], by rw [h, hput]; exact Mst.put_group hc rfl,
      nofun, by rw [h]; exact fun _ hg => hg⟩
  · exact ⟨{ c.taking v with phase := .paused }, rfl, by rw [h, State.takeTimer_enterPaused_mst hc],
      by rw [h, State.takeTimer_enterPaused_mst hc]; exact Mst.put_group (c' := { c.taking v with phase := .paused }) hc rfl,
      nofun, by rw [h]; exact fun _ hg => hg⟩
  · exact ⟨{ c.taking v with phase := .running }, rfl, by rw [h, State.takeTimer_enterRunning_mst hc],
      by rw [h, State.takeTimer_enterRunning_mst hc]; exact Mst.put_group (c' := { c.taking v with phase := .running }) hc rfl,
      fun _ => by rw [h]; exact List.mem_cons_self .., by rw [h]; exact fun _ hg => List.mem_cons_of_mem _ hg⟩

/-- The groups of the RUNNING contexts of a player are among those resumed. -/
def State.GroupsIn (s : State) (p : Nat) (G : List (Fin 8)) : Prop :=
  ∀ (y : Fin 12) (d : Context), s.mst.slots[y] = some d → d.phase = .running → d.owner = p → s.mst.group y ∈ G

/-- A PARKED context of the current player. -/
def State.ParkedOwn (s : State) (p : Nat) (x : Fin 12) : Prop :=
  ∃ c, s.mst.slots[x] = some c ∧ c.phase = .parked ∧ c.owner = p

theorem ModesKept.resumeOne {G : List (Fin 8)} (hl : live) (hx : s.ParkedOwn cur x) (hG : s.GroupsIn cur G) :
    ModesKept cur live ok s (s.resumeOne G x).1 := by
  obtain ⟨c, hc, hp, ho⟩ := hx
  refine .of_fits (fun hf => ?_) fun hl' => absurd hl hl'
  obtain ⟨tm, htm⟩ := hf.template x c hc
  rcases State.resumeOne_cases (G := G) hc htm with ⟨-, h⟩ | ⟨v, hv, ⟨-, -, h⟩ | ⟨hnot, h⟩⟩
  · rw [h]
    exact .endContext s x .noTimer
  · rw [h]
    exact .resumePaused hc hp htm hv ho hl
  · rw [h]
    exact .resumeRunning hc hp htm hv ho hl fun _ hg y d hd hdr hdo e =>
      hnot ⟨hg, e ▸ hG y d hd hdr (hdo.trans ho)⟩

theorem State.GroupsIn.resumeOne {G : List (Fin 8)} (hG : s.GroupsIn p G) (hf : s.mst.Fits cur live)
    (hx : s.ParkedOwn p x) : (s.resumeOne G x).1.GroupsIn p (s.resumeOne G x).2 := by
  obtain ⟨c, hc, hp, -⟩ := hx
  obtain ⟨tm, htm⟩ := hf.template x c hc
  obtain ⟨c', ht, hslots, hgroup, hin, hsub⟩ := State.resumeOne_put (G := G) hf hc hp htm
  intro y d hd hdr ho
  rw [hgroup]
  simp only [hslots] at hd
  by_cases hyx : y = x
  · subst hyx
    obtain rfl := Option.some.inj (Mst.put_slots_same.symm.trans hd)
    rw [Mst.group_eq hc htm]
    exact hin hdr
  · exact hsub (hG y d ((Mst.put_slots_other hyx).symm.trans hd) hdr ho)

theorem State.ParkedOwn.resumeOne {G : List (Fin 8)} {y : Fin 12} (hy : s.ParkedOwn p y) (hyx : y ≠ x)
    (hf : s.mst.Fits cur live) (hx : s.ParkedOwn p x) : (s.resumeOne G x).1.ParkedOwn p y := by
  obtain ⟨c, hc, hp, -⟩ := hx
  obtain ⟨tm, htm⟩ := hf.template x c hc
  obtain ⟨c', -, hslots, -⟩ := State.resumeOne_put (G := G) hf hc hp htm
  obtain ⟨d, hd, hdp⟩ := hy
  refine ⟨d, ?_, hdp⟩
  simp only [hslots]
  exact (Mst.put_slots_other hyx).trans hd

theorem ModesKept.resumes {G : List (Fin 8)} {l : List (Fin 12)} (hl : live) (hnodup : l.Nodup)
    (hparked : ∀ x ∈ l, s.ParkedOwn cur x) (hG : s.GroupsIn cur G) :
    ModesKept cur live ok s (l.foldl (fun acc slot => acc.1.resumeOne acc.2 slot) (s, G)).1 := by
  induction l generalizing s G with
  | nil => exact .refl s
  | cons x l ih =>
    obtain ⟨hx, hnodup⟩ := List.nodup_cons.mp hnodup
    have hown := hparked x (List.mem_cons_self ..)
    refine .of_fits (fun hf => ?_) fun hl' => absurd hl hl'
    have hrest := ih (s := (s.resumeOne G x).1) (G := (s.resumeOne G x).2) hnodup
      (fun y hy => (hparked y (List.mem_cons_of_mem _ hy)).resumeOne (fun e => hx (e ▸ hy)) hf hown) (hG.resumeOne hf hown)
    exact (ModesKept.resumeOne hl hown hG).trans hrest

theorem State.parkedOf_perm (s : State) (p : Nat) : (s.parkedOf p).Perm
    ((List.finRange 12).filter fun slot =>
      decide ((s.slot? slot).map (fun c => (c.phase, c.owner)) = some (.parked, p))) := sortBy_perm ..

theorem State.mem_parkedOf : x ∈ s.parkedOf p ↔ s.ParkedOwn p x := by
  rw [(s.parkedOf_perm p).mem_iff, List.mem_filter, decide_eq_true_eq, State.ParkedOwn]
  constructor
  · rintro ⟨-, h⟩
    obtain ⟨c, hc, hcp⟩ := Option.map_eq_some_iff.mp h
    obtain ⟨h1, h2⟩ := Prod.mk.inj hcp
    exact ⟨c, hc, h1, h2⟩
  · rintro ⟨c, hc, h1, h2⟩
    have hslot : s.slot? x = some c := hc
    exact ⟨List.mem_finRange x, by rw [hslot, Option.map_some, h1, h2]⟩

theorem ModesKept.resumeAll (hl : live) (hrest : ∀ (y : Fin 12) (d : Context), s.mst.slots[y] = some d →
    d.phase ≠ .running) : ModesKept cur live ok s (s.resumeAll cur) :=
  .resumes hl ((s.parkedOf_perm cur).nodup_iff.mpr ((List.nodup_finRange 12).filter _))
    (fun _ hx => State.mem_parkedOf.mp hx) fun y d hd hdr => absurd hdr (hrest y d hd)

/-! ### Where no context runs or waits in PAUSED -/

/-- No context is RUNNING or PAUSED. -/
def Mst.Still (m : Mst) : Prop := ∀ (x : Fin 12) (c : Context), m.slots[x] = some c → c.phase.live = false

/-- Then it does not matter whose the ball is, nor whether one is in play. -/
theorem Mst.Fits.of_still {m : Mst} {cur' : Nat} {live' : Prop} (h : m.Fits cur live) (hs : m.Still) : m.Fits cur' live' where
  stackNodup := h.stackNodup
  pauseNodup := h.pauseNodup
  endedNodup := h.endedNodup
  stack := h.stack
  pause := h.pause
  ended := h.ended
  sorted := h.sorted
  template := h.template
  owner x c hc hl := absurd (hl.symm.trans (hs x c hc)) nofun
  standing := h.standing
  running := h.running

/-- Every timer is a USER timer. -/
def UserOnly (ts : Vector (Option Timer) 16) : Prop := ∀ (u : Fin 16) (r : Timer), ts[u] = some r → r.binding = .user

theorem Mst.Timed.of_user {m : Mst} {ts : Vector (Option Timer) 16} {live' : Prop} (h : m.Timed ts live) (hu : UserOnly ts) :
    m.Timed ts live' where
  held := h.held
  bound u r hr hb := absurd (hu u r hr) hb
  frozen := h.frozen
  back := h.back
  unique := h.unique

/-- Where no ball is in play no timer is bound. -/
theorem Mst.Timed.userOnly {m : Mst} {ts : Vector (Option Timer) 16} (h : m.Timed ts live) (hl : ¬ live) : UserOnly ts :=
  fun u r hr => by
    by_contra hb
    exact hl (h.bound u r hr hb).2.2

theorem Mst.Fits.still {m : Mst} (h : m.Fits cur live) (hl : ¬ live) : m.Still := fun x c hc => by
  by_contra hlive
  exact hl (h.owner x c hc (Bool.eq_true_of_not_eq_false hlive)).2

/-- Where no context runs or waits, a timer is bound to nothing but ball save and the playfield multiplier. -/
theorem Mst.Timed.slotless {m : Mst} {ts : Vector (Option Timer) 16} {u : Fin 16} {r : Timer} (h : m.Timed ts live)
    (hm : m.Fits cur live) (hs : m.Still) (hr : ts[u] = some r) : r.binding.Slotless := by
  cases hb : r.binding with
  | user => exact .inl rfl
  | ballSave => exact .inr (.inl rfl)
  | pfMult => exact .inr (.inr rfl)
  | context x =>
    obtain ⟨c, tm, hc, -, -, hl, -⟩ := h.bound_slot hm hr (.inl hb)
    exact absurd (hl.symm.trans (hs x c hc)) nofun
  | hurry x =>
    obtain ⟨c, tm, hc, -, -, hl, -⟩ := h.bound_slot hm hr (.inr hb)
    exact absurd (hl.symm.trans (hs x c hc)) nofun

end

end Sys2Proof.Machine
end

section
/-! PROOFS. Several contexts ended or parked together, in slot order (R94, R96, R97): what a sweep leaves. -/

namespace Sys2Proof.Machine

/-- State t is s after the contexts in the slots of l chosen by `which` have become what `out` says, those of `ends`
among the ended: their timers are released, and nothing else of MST or TMU is changed. -/
structure State.Swept (s t : State) (l : List (Fin 12)) (which ends : Fin 12 → Bool) (out : Fin 12 → Context → Context) :
    Prop where
  gpc : t.gpc = s.gpc
  templates : t.mst.templates = s.mst.templates
  kept : ∀ y : Fin 12, y ∉ l ∨ which y = false → t.mst.slots[y] = s.mst.slots[y]
  swept : ∀ y ∈ l, which y = true → ∀ c : Context, s.mst.slots[y] = some c → t.mst.slots[y] = some (out y c)
  released : ∀ y ∈ l, which y = true → ∀ (c : Context) (u : Fin 16), s.mst.slots[y] = some c → c.timer = some u →
    t.tmu.timers[u] = none
  held : ∀ u : Fin 16, (∀ y ∈ l, which y = true → ∀ c : Context, s.mst.slots[y] = some c → c.timer ≠ some u) →
    t.tmu.timers[u] = s.tmu.timers[u]
  stack : t.mst.stack = s.mst.stack.filter fun y => !decide (y ∈ l ∧ which y = true)
  pauseOrder : t.mst.pauseOrder = s.mst.pauseOrder.filter fun y => !decide (y ∈ l ∧ which y = true)
  ended : t.mst.ended = s.mst.ended ++ l.filter fun y => which y && ends y
  notices : s.ntu.Grows t.ntu
  noticed : ∀ y ∈ l, which y = true → ends y = true → t.hasNotice (.modeEnded y) = true

section
variable {s t u : State} {l : List (Fin 12)} {which ends : Fin 12 → Bool} {out : Fin 12 → Context → Context}
  {x : Fin 12} {c : Context} {cur : Nat} {live ok : Prop}

theorem State.Swept.nil (s : State) : s.Swept s [] which ends out where
  gpc := rfl
  templates := rfl
  kept _ _ := rfl
  swept _ hy := absurd hy (List.not_mem_nil)
  released _ hy := absurd hy (List.not_mem_nil)
  held _ _ := rfl
  stack := (List.filter_eq_self.mpr fun y _ => by simp).symm
  pauseOrder := (List.filter_eq_self.mpr fun y _ => by simp).symm
  ended := (List.append_nil _).symm
  notices := .refl _
  noticed _ hy := absurd hy (List.not_mem_nil)

/-- A slot not chosen is passed over. -/
theorem State.Swept.skip (h : s.Swept t l which ends out) (hw : which x = false) : s.Swept t (l ++ [x]) which ends out := by
  have hmem {y : Fin 12} (hy : y ∈ l ++ [x]) (hwy : which y = true) : y ∈ l := by
    rcases List.mem_append.mp hy with hy | hy
    · exact hy
    · obtain rfl := List.mem_singleton.mp hy
      exact absurd (hwy.symm.trans hw) nofun
  have hpred (y : Fin 12) : (y ∈ l ++ [x] ∧ which y = true) ↔ (y ∈ l ∧ which y = true) :=
    ⟨fun ⟨h1, h2⟩ => ⟨hmem h1 h2, h2⟩, fun ⟨h1, h2⟩ => ⟨List.mem_append_left _ h1, h2⟩⟩
  exact {
    gpc := h.gpc
    templates := h.templates
    kept := fun y hy => h.kept y (hy.imp_left fun hn hy' => hn (List.mem_append_left _ hy'))
    swept := fun y hy hwy => h.swept y (hmem hy hwy) hwy
    released := fun y hy hwy => h.released y (hmem hy hwy) hwy
    held := fun u hu => h.held u fun y hy => hu y (List.mem_append_left _ hy)
    stack := by simp only [hpred]; exact h.stack
    pauseOrder := by simp only [hpred]; exact h.pauseOrder
    ended := by
      rw [List.filter_append, List.filter_cons_of_neg (by simp [hw]), List.filter_nil, List.append_nil]
      exact h.ended
    notices := h.notices
    noticed := fun y hy hwy => h.noticed y (hmem hy hwy) hwy }

theorem filter_erase_eq {α : Type} [DecidableEq α] {l : List α} (hl : l.Nodup) (p : α → Bool) (a : α) :
    (l.filter p).erase a = l.filter fun b => p b && !decide (b = a) := by
  rw [(hl.filter p).erase_eq_filter, List.filter_filter]
  refine List.filter_congr fun b _ => ?_
  rw [Bool.and_comm, bne, beq_eq_decide]

/-- A chosen slot becomes what `out` says, its timer released. -/
theorem State.Swept.snoc (h : s.Swept t l which ends out) (hs : s.mst.Fits cur live) (ht : t.mst.Fits cur live)
    (hx : x ∉ l) (hw : which x = true) (hc : s.mst.slots[x] = some c) (hcs : c.phase.stands = true)
    (hlive : (out x c).phase.live = false) (hends : (out x c).phase.stands = !ends x)
    (hmst : u.mst = t.mst.put x (out x c))
    (htimers : ∀ v : Fin 16, u.tmu.timers[v] = if c.timer = some v then none else t.tmu.timers[v])
    (hgpc : u.gpc = t.gpc) (hgrows : t.ntu.Grows u.ntu) (hnote : ends x = true → u.hasNotice (.modeEnded x) = true) :
    s.Swept u (l ++ [x]) which ends out := by
  have hct : t.mst.slots[x] = some c := (h.kept x (.inl hx)).trans hc
  have hcases {y : Fin 12} (hy : y ∈ l ++ [x]) : y = x ∨ y ∈ l := (List.mem_append.mp hy).symm.imp_left List.mem_singleton.mp
  have hne {y : Fin 12} (hy : y ∈ l) : y ≠ x := fun e => hx (e ▸ hy)
  have hrun : (out x c).phase ≠ .running := fun e => by rw [e] at hlive; nomatch hlive
  have hpause : (out x c).phase ≠ .paused := fun e => by rw [e] at hlive; nomatch hlive
  have hlist {L : List (Fin 12)} (hL : L.Nodup) : (L.filter fun y => !decide (y ∈ l ∧ which y = true)).erase x =
      L.filter fun y => !decide (y ∈ l ++ [x] ∧ which y = true) := by
    rw [filter_erase_eq hL]
    refine List.filter_congr fun y _ => ?_
    by_cases hyx : y = x
    · subst hyx
      simp [hw]
    · simp [hyx]
  refine { gpc := hgpc.trans h.gpc, templates := by rw [hmst]; exact h.templates, kept := fun y hy => ?_,
           swept := fun y hy hwy d hd => ?_, released := fun y hy hwy d v hd hv => ?_, held := fun v hv => ?_,
           stack := ?_, pauseOrder := ?_, ended := ?_, notices := h.notices.trans hgrows,
           noticed := fun y hy hwy hey => ?_ }
  · have hyx : y ≠ x := fun e => by
      subst e
      rcases hy with hy | hy
      · exact hy (List.mem_append_right _ (List.mem_singleton_self y))
      · exact absurd (hw.symm.trans hy) nofun
    rw [hmst, Mst.put_slots_other hyx]
    exact h.kept y (hy.imp_left fun hn hy' => hn (List.mem_append_left _ hy'))
  · rw [hmst]
    rcases hcases hy with rfl | hy
    · obtain rfl := Option.some.inj (hc.symm.trans hd)
      exact Mst.put_slots_same
    · rw [Mst.put_slots_other (hne hy)]
      exact h.swept y hy hwy d hd
  · rw [htimers]
    rcases hcases hy with rfl | hy
    · obtain rfl := Option.some.inj (hc.symm.trans hd)
      rw [if_pos hv]
    · rw [h.released y hy hwy d v hd hv]
      exact ite_self _
  · rw [htimers, if_neg (hv x (List.mem_append_right _ (List.mem_singleton_self x)) hw c hc)]
    exact h.held v fun y hy => hv y (List.mem_append_left _ hy)
  · rw [hmst, Mst.put, if_neg hrun, h.stack]
    exact hlist hs.stackNodup
  · rw [hmst, Mst.put, if_neg hpause, h.pauseOrder]
    exact hlist hs.pauseNodup
  · rw [hmst, Mst.put, List.erase_of_not_mem (ht.not_mem_ended hct hcs), h.ended, List.filter_append, hends]
    cases he : ends x with
    | true => simp [hw, he]
    | false => simp [hw, he]
  · rcases hcases hy with rfl | hy
    · exact hnote hey
    · exact decide_eq_true (hgrows.pending _ (of_decide_eq_true (h.noticed y hy hwy hey)))

/-- Two contexts do not hold one timer (R78). -/
theorem Mst.Timed.timer_inj {m : Mst} {ts : Vector (Option Timer) 16} {y : Fin 12} {d : Context} {v : Fin 16}
    (h : m.Timed ts live) (hm : m.Fits cur live) (hc : m.slots[x] = some c) (hd : m.slots[y] = some d)
    (hcv : c.timer = some v) (hdv : d.timer = some v) : y = x := by
  obtain ⟨tm, htm⟩ := hm.template x c hc
  obtain ⟨tm', htm'⟩ := hm.template y d hd
  obtain ⟨r, hr, hrb, -⟩ := (h.held x c tm hc htm).2 v hcv
  obtain ⟨q, hq, hqb, -⟩ := (h.held y d tm' hd htm').2 v hdv
  obtain rfl := Option.some.inj (hr.symm.trans hq)
  exact Template.binding_inj (hqb.symm.trans hrb)

theorem State.remainingOf_congr (h : ∀ v : Fin 16, c.timer = some v → t.tmu.timers[v] = s.tmu.timers[v]) :
    t.remainingOf c = s.remainingOf c := by
  unfold State.remainingOf
  split
  · cases hv : c.timer with
    | none => rfl
    | some v => simp only [h v hv]
  · cases hv : c.timer with
    | none => rfl
    | some v => simp only [h v hv]
  · rfl
  · rfl

/-- The timer of a slot not swept yet stands. -/
theorem State.Swept.timer_kept (h : s.Swept t l which ends out) (hs : s.mst.Fits cur live)
    (hts : s.mst.Timed s.tmu.timers live) (hx : x ∉ l) (hc : s.mst.slots[x] = some c) {v : Fin 16}
    (hv : c.timer = some v) : t.tmu.timers[v] = s.tmu.timers[v] :=
  h.held v fun _ hy _ _ hd hdv => hx (hts.timer_inj hs hc hd hv hdv ▸ hy)

/-- A sweep by steps that end or park the chosen slots and pass over the others. -/
theorem State.swept_foldl {f : State → Fin 12 → State} (hs : s.mst.Fits cur live) (hts : s.mst.Timed s.tmu.timers live)
    (hkept : ∀ t x, ModesKept cur live ok t (f t x))
    (hchosen : ∀ x, which x = true → ∃ c, s.mst.slots[x] = some c ∧ c.phase.stands = true ∧
      (out x c).phase.live = false ∧ (out x c).phase.stands = !ends x)
    (hstep : ∀ t x c, t.mst.Fits cur live → t.gpc = s.gpc → t.mst.templates = s.mst.templates →
      t.mst.slots[x] = s.mst.slots[x] → which x = true → s.mst.slots[x] = some c → t.remainingOf c = s.remainingOf c →
      (f t x).mst = t.mst.put x (out x c) ∧
      (∀ v : Fin 16, (f t x).tmu.timers[v] = if c.timer = some v then none else t.tmu.timers[v]) ∧
      (f t x).gpc = t.gpc ∧ t.ntu.Grows (f t x).ntu ∧ (ends x = true → (f t x).hasNotice (.modeEnded x) = true))
    (hskip : ∀ t x, t.gpc = s.gpc → t.mst.templates = s.mst.templates → t.mst.slots[x] = s.mst.slots[x] →
      which x = false → f t x = t) (l : List (Fin 12)) (hl : l.Nodup) : s.Swept (l.foldl f s) l which ends out := by
  have hfits (l : List (Fin 12)) : ModesKept cur live ok s (l.foldl f s) :=
    foldl_keeps (ModesKept cur live ok s) f (fun t x h => h.trans (hkept t x)) l s (.refl s)
  induction l using List.reverseRecOn with
  | nil => exact .nil s
  | append_singleton l x ih =>
    have hx : x ∉ l := fun hx => (List.nodup_append'.mp hl).2.2 hx (List.mem_singleton_self x)
    have h := ih (List.nodup_append'.mp hl).1
    rw [List.foldl_append, List.foldl_cons, List.foldl_nil]
    have hat := h.kept x (.inl hx)
    cases hw : which x with
    | false =>
      rw [hskip _ x h.gpc h.templates hat hw]
      exact h.skip hw
    | true =>
      obtain ⟨c, hc, hcs, hlive, hends⟩ := hchosen x hw
      obtain ⟨h1, h2, h3, h4, h5⟩ := hstep _ x c ((hfits l).modes hs) h.gpc h.templates hat hw hc
        (State.remainingOf_congr fun v hv => h.timer_kept hs hts hx hc hv)
      exact h.snoc hs ((hfits l).modes hs) hx hw hc hcs hlive hends h1 h2 h3 h4 h5

/-- What an end leaves, no return made. -/
theorem State.endContext_swept {reason : EndReason} (ht : t.mst.Fits cur live) (hc : t.mst.slots[x] = some c)
    (hcs : c.phase.stands = true) :
    (t.endContext x reason false).mst = t.mst.put x (c.endedWith reason (t.remainingOf c)) ∧
    (∀ v : Fin 16, (t.endContext x reason false).tmu.timers[v] = if c.timer = some v then none else t.tmu.timers[v]) ∧
    (t.endContext x reason false).gpc = t.gpc ∧ t.ntu.Grows (t.endContext x reason false).ntu ∧
    (t.endContext x reason false).hasNotice (.modeEnded x) = true := by
  refine ⟨State.endContext_put hc hcs (ht.not_mem_ended hc hcs), State.endContext_timers hc hcs, by simp,
    (Keeps.refl t).endContext.notices, ?_⟩
  rw [State.endContext_quiet hc hcs]
  exact State.hasNotice_raise_self ..

/-- Contexts ended together (R96, R97). -/
theorem State.endAll_swept {sel : State → Fin 12 → Bool} {reason : EndReason} (hs : s.mst.Fits cur live)
    (hts : s.mst.Timed s.tmu.timers live)
    (hsel : ∀ (t : State) (x : Fin 12), t.mst.templates = s.mst.templates → t.mst.slots[x] = s.mst.slots[x] → sel t x = sel s x)
    (hstands : ∀ x, sel s x = true → ∃ c, s.mst.slots[x] = some c ∧ c.phase.stands = true) :
    s.Swept (s.endAll sel reason) (List.finRange 12) (sel s) (fun _ => true)
      (fun _ c => c.endedWith reason (s.remainingOf c)) := by
  refine State.swept_foldl (ok := True) hs hts (fun t x => .ite (.endContext t x reason) (.refl t)) (fun x hx => ?_)
    (fun t x c ht _ htm hat hw hc hrem => ?_) (fun t x _ htm hat hw => ?_) _ (List.nodup_finRange 12)
  · obtain ⟨c, hc, hcs⟩ := hstands x hx
    exact ⟨c, hc, hcs, rfl, rfl⟩
  · obtain ⟨d, hd, hcs⟩ := hstands x hw
    obtain rfl := Option.some.inj (hc.symm.trans hd)
    have hif : (if sel t x then t.endContext x reason false else t) = t.endContext x reason false :=
      if_pos ((hsel t x htm hat).trans hw)
    rw [hif]
    obtain ⟨h1, h2, h3, h4, h5⟩ := State.endContext_swept (reason := reason) ht (hat.trans hc) hcs
    exact ⟨hrem ▸ h1, h2, h3, h4, fun _ => h5⟩
  · exact if_neg (by rw [hsel t x htm hat, hw]; nofun)

/-! ### The contexts of the player whose ball has ended (R94) -/

/-- What a RUNNING or PAUSED context becomes at ball end; the first row that applies decides. -/
def State.atBallEnd (s : State) (x : Fin 12) (c : Context) : Context :=
  { c with
    timer := none
    stored := s.remainingOf c
    phase := match s.mst.template? x with
      | some tm => if tm.mbOnly then .ended .mbEnded else if s.gpc.tilted then .ended .tilted
          else if tm.carries then .parked else .ended .ballEnded
      | none => .parked }

/-- Whether it becomes ENDED. -/
def State.endsAtBallEnd (s : State) (x : Fin 12) : Bool :=
  ((s.mst.template? x).map fun tm => tm.mbOnly || s.gpc.tilted || !tm.carries).getD false

theorem State.parkOrEnd_template {tm : Template} (hc : s.mst.slots[x] = some c) (htm : s.mst.templates[c.template] = some tm) :
    s.parkOrEnd x = if tm.mbOnly then s.endContext x .mbEnded false else if s.gpc.tilted then s.endContext x .tilted false
      else if tm.carries then s.park x else s.endContext x .ballEnded false := by
  have hst : s.slotTemplate? x = some tm := by
    rw [State.slotTemplate?_eq]
    exact (Mst.template?_eq hc).trans htm
  rw [State.parkOrEnd, hst]

theorem State.parkAll_swept (hs : s.mst.Fits cur live) (hts : s.mst.Timed s.tmu.timers live) :
    s.Swept s.parkAll (List.finRange 12) (s.isLiveOf s.currentPlayer) s.endsAtBallEnd s.atBallEnd := by
  have hchosen (x : Fin 12) (hx : s.isLiveOf s.currentPlayer x = true) :
      ∃ c tm, s.mst.slots[x] = some c ∧ c.phase.live = true ∧ s.mst.template? x = some tm ∧
        s.mst.templates[c.template] = some tm := by
    obtain ⟨c, hc, hl⟩ := State.isLive_iff.mp (Bool.and_eq_true_iff.mp hx).1
    obtain ⟨tm, htm⟩ := hs.template x c hc
    exact ⟨c, tm, hc, hl, (Mst.template?_eq hc).trans htm, htm⟩
  have hsel {t : State} {x : Fin 12} (hg : t.gpc = s.gpc) (hat : t.mst.slots[x] = s.mst.slots[x]) :
      t.isLiveOf t.currentPlayer x = s.isLiveOf s.currentPlayer x := by
    have hslot : t.slot? x = s.slot? x := hat
    rw [State.isLiveOf, State.isLiveOf, State.isLive, State.isLive, State.currentPlayer, State.currentPlayer, hslot, hg]
  refine State.swept_foldl (ok := True) hs hts (fun t x => ?_) (fun x hx => ?_)
    (fun t x c ht hg htm hat hw hc hrem => ?_) (fun t x hg htm hat hw => ?_) _ (List.nodup_finRange 12)
  · split
    · next hl => exact .parkOrEnd (Bool.and_eq_true_iff.mp hl).1
    · exact .refl t
  · obtain ⟨c, tm, hc, hl, htm, -⟩ := hchosen x hx
    refine ⟨c, hc, Phase.stands_of_live hl, ?_, ?_⟩
    · simp only [State.atBallEnd, htm]
      split <;> [rfl; split <;> [rfl; split <;> rfl]]
    · simp only [State.atBallEnd, State.endsAtBallEnd, htm, Option.map_some, Option.getD_some]
      cases tm.mbOnly <;> cases s.gpc.tilted <;> cases tm.carries <;> rfl
  · obtain ⟨d, tm, hd, hl, htm', htd⟩ := hchosen x hw
    obtain rfl := Option.some.inj (hc.symm.trans hd)
    have hct : t.mst.slots[x] = some c := hat.trans hc
    have hcs := Phase.stands_of_live hl
    have hif : (if t.isLiveOf t.currentPlayer x then t.parkOrEnd x else t) = t.parkOrEnd x :=
      if_pos ((hsel hg hat).trans hw)
    rw [hif, State.parkOrEnd_template hct (htm ▸ htd), hg]
    have hended {reason : EndReason} (hph : (s.atBallEnd x c).phase = .ended reason) :
        (t.endContext x reason false).mst = t.mst.put x (s.atBallEnd x c) ∧
        (∀ v : Fin 16, (t.endContext x reason false).tmu.timers[v] = if c.timer = some v then none else t.tmu.timers[v]) ∧
        (t.endContext x reason false).gpc = s.gpc ∧ t.ntu.Grows (t.endContext x reason false).ntu ∧
        (s.endsAtBallEnd x = true → (t.endContext x reason false).hasNotice (.modeEnded x) = true) := by
      obtain ⟨h1, h2, h3, h4, h5⟩ := State.endContext_swept (reason := reason) ht hct hcs
      have hout : c.endedWith reason (t.remainingOf c) = s.atBallEnd x c := by
        rw [hrem, Context.endedWith, ← hph]
        rfl
      exact ⟨hout ▸ h1, h2, h3.trans hg, h4, fun _ => h5⟩
    have hphase : (s.atBallEnd x c).phase = if tm.mbOnly then .ended .mbEnded else if s.gpc.tilted then .ended .tilted
        else if tm.carries then .parked else .ended .ballEnded := by simp only [State.atBallEnd, htm']
    split at hphase
    · next h1 =>
      rw [if_pos h1]
      exact hended hphase
    · next h1 =>
      rw [if_neg h1]
      split at hphase
      · next h2 =>
        rw [if_pos h2]
        exact hended hphase
      · next h2 =>
        rw [if_neg h2]
        split at hphase
        · next h3 =>
          rw [if_pos h3]
          have hout : { c with phase := .parked, timer := none, stored := t.remainingOf c } = s.atBallEnd x c := by
            rw [hrem, ← hphase]
            rfl
          refine ⟨hout ▸ State.park_put hct (ht.not_mem_ended hct hcs), State.park_timers hct, by simp [hg],
            (Keeps.refl t).park.notices, fun he => ?_⟩
          simp [State.endsAtBallEnd, htm', h1, h2, h3] at he
        · next h3 =>
          rw [if_neg h3]
          exact hended hphase
  · exact if_neg (by rw [hsel hg hat, hw]; nofun)

/-- Steps that leave each slot they take without a RUNNING or PAUSED context, and the other slots alone. -/
theorem State.foldl_still {f : State → Fin 12 → State} (hs : s.mst.Fits cur live) (hcur : s.currentPlayer = cur)
    (hf : ∀ (t : State) (x : Fin 12), t.mst.Fits cur live → t.currentPlayer = cur →
      (f t x).mst.Fits cur live ∧ (f t x).currentPlayer = cur ∧
      (∀ c, (f t x).mst.slots[x] = some c → c.phase.live = false) ∧
      ∀ y : Fin 12, y ≠ x → (f t x).mst.slots[y] = t.mst.slots[y]) (l : List (Fin 12)) :
    (l.foldl f s).mst.Fits cur live ∧ (l.foldl f s).currentPlayer = cur ∧
      ∀ x ∈ l, ∀ c, (l.foldl f s).mst.slots[x] = some c → c.phase.live = false := by
  induction l using List.reverseRecOn with
  | nil => exact ⟨hs, hcur, fun _ hx => absurd hx List.not_mem_nil⟩
  | append_singleton l x ih =>
    obtain ⟨ht, htcur, hstill⟩ := ih
    rw [List.foldl_append, List.foldl_cons, List.foldl_nil]
    obtain ⟨h1, h2, h3, h4⟩ := hf _ x ht htcur
    refine ⟨h1, h2, fun y hy c hc => ?_⟩
    by_cases hyx : y = x
    · exact h3 c (hyx ▸ hc)
    · have hyl : y ∈ l := (List.mem_append.mp hy).resolve_right fun h => hyx (List.mem_singleton.mp h)
      exact hstill y hyl c ((h4 y hyx).symm.trans hc)

theorem State.still_of_put {d : Context} (hput : u.mst = t.mst.put x d) (hd : d.phase.live = false) :
    (∀ c, u.mst.slots[x] = some c → c.phase.live = false) ∧
      ∀ y : Fin 12, y ≠ x → u.mst.slots[y] = t.mst.slots[y] := by
  refine ⟨fun c hc => ?_, fun y hyx => ?_⟩
  · rw [hput, Mst.put_slots_same] at hc
    exact Option.some.inj hc ▸ hd
  · rw [hput, Mst.put_slots_other hyx]

theorem State.endContext_still {reason : EndReason} (ht : t.mst.Fits cur live) (hc : t.mst.slots[x] = some c)
    (hcs : c.phase.stands = true) :
    (∀ c, (t.endContext x reason false).mst.slots[x] = some c → c.phase.live = false) ∧
      ∀ y : Fin 12, y ≠ x → (t.endContext x reason false).mst.slots[y] = t.mst.slots[y] :=
  State.still_of_put (State.endContext_put hc hcs (ht.not_mem_ended hc hcs)) rfl

/-- After the ball end no context runs or waits in PAUSED. -/
theorem State.parkAll_still (hs : s.mst.Fits s.currentPlayer live) : s.parkAll.mst.Still := by
  unfold State.parkAll
  suffices hfold : _ from fun x => (State.foldl_still hs rfl hfold (List.finRange 12)).2.2 x (List.mem_finRange x)
  intro t x ht hcur
  split
  · next hw =>
    obtain ⟨c, hc, hl⟩ := State.isLive_iff.mp (Bool.and_eq_true_iff.mp hw).1
    obtain ⟨tm, htm⟩ := ht.template x c hc
    have hcs := Phase.stands_of_live hl
    have hkept : ModesKept s.currentPlayer live True t (t.parkOrEnd x) := .parkOrEnd (Bool.and_eq_true_iff.mp hw).1
    refine ⟨hkept.modes ht, by rw [← hcur]; simp [State.currentPlayer], ?_⟩
    rw [State.parkOrEnd_template hc htm]
    split
    · exact State.endContext_still ht hc hcs
    · split
      · exact State.endContext_still ht hc hcs
      · split
        · exact State.still_of_put (State.park_put hc (ht.not_mem_ended hc hcs)) rfl
        · exact State.endContext_still ht hc hcs
  · next hw =>
    refine ⟨ht, hcur, fun c hc => ?_, fun _ _ => rfl⟩
    by_contra hl
    have hl : c.phase.live = true := Bool.eq_true_of_not_eq_false hl
    have hlive : t.isLive x = true := State.isLive_iff.mpr ⟨c, hc, hl⟩
    have hslot : t.slot? x = some c := hc
    have howner : (t.slot? x).map Context.owner = some t.currentPlayer := by
      rw [hslot, Option.map_some, (ht.owner x c hc hl).1, hcur]
    exact hw (by rw [State.isLiveOf, hlive, decide_eq_true howner]; rfl)

theorem State.isStanding_iff : s.isStanding x = true ↔ ∃ c, s.mst.slots[x] = some c ∧ c.phase.stands = true := by
  rw [State.isStanding, State.slot?]
  cases hc : s.mst.slots[x] with
  | none => simp
  | some c => simp

/-- After the end of all standing contexts none stands. -/
theorem State.endStanding_still {reason : EndReason} (hs : s.mst.Fits s.currentPlayer live) :
    (s.endAll State.isStanding reason).mst.Still := by
  unfold State.endAll
  suffices hfold : _ from fun x => (State.foldl_still hs rfl hfold (List.finRange 12)).2.2 x (List.mem_finRange x)
  intro t x ht hcur
  split
  · next hw =>
    obtain ⟨c, hc, hcs⟩ := State.isStanding_iff.mp hw
    have hkept : ModesKept s.currentPlayer live True t (t.endContext x reason false) := .endContext t x reason
    exact ⟨hkept.modes ht, by rw [← hcur]; simp [State.currentPlayer], State.endContext_still ht hc hcs⟩
  · next hw =>
    refine ⟨ht, hcur, fun c hc => ?_, fun _ _ => rfl⟩
    by_contra hl
    exact hw (State.isStanding_iff.mpr ⟨c, hc, Phase.stands_of_live (Bool.eq_true_of_not_eq_false hl)⟩)

end

end Sys2Proof.Machine
end

section
/-! PROOFS. The laws of the stack and the timers from state to state: the ends of balls and games, devices, locks. -/

namespace Sys2Proof.Machine

/-- A game in a state in which contexts may run. -/
def State.plays (s : State) : Prop := s.gpc.game = .starting ∨ s.gpc.game = .inPlay

/-- The parameters' save ticks are within the range of a timer. -/
def State.ticksWithin (s : State) : Prop := s.gpc.params.ballSaveTicks ≤ 65535 ∧ s.lmc.params.mbSaveTicks ≤ 65535

/-- What an operation makes of the laws of the mode stack, the timer pool and the counts, the player and the state of
the game being those of each state. -/
structure ModesGo (ok : Prop) (s t : State) : Prop where
  modes : s.mst.Fits s.currentPlayer s.plays → t.mst.Fits t.currentPlayer t.plays
  timers : s.mst.Fits s.currentPlayer s.plays → s.mst.Timed s.tmu.timers s.plays → t.mst.Timed t.tmu.timers t.plays
  counts : ok → s.mst.Fits s.currentPlayer s.plays → s.mst.Timed s.tmu.timers s.plays → s.mst.Counted s.tmu.timers →
    t.mst.Counted t.tmu.timers
  free : (s.gpc.game = .idle → ∀ x : Fin 12, s.mst.slots[x] = none) → t.gpc.game = .idle → ∀ x : Fin 12, t.mst.slots[x] = none

section
variable {ok : Prop} {s t u : State}

theorem State.not_plays_of_idle (h : s.gpc.game = .idle) : ¬ s.plays := by
  rintro (hg | hg) <;> nomatch h.symm.trans hg

theorem State.runs (s : State) : s.Runs s.currentPlayer s.plays := ⟨rfl, id⟩

theorem ModesGo.refl (s : State) : ModesGo ok s s := ⟨id, fun _ => id, fun _ _ _ => id, id⟩

theorem ModesGo.trans (h : ModesGo ok s t) (h' : ModesGo ok t u) : ModesGo ok s u where
  modes := h'.modes ∘ h.modes
  timers hm ht := h'.timers (h.modes hm) (h.timers hm ht)
  counts hok hm ht hc := h'.counts hok (h.modes hm) (h.timers hm ht) (h.counts hok hm ht hc)
  free := h'.free ∘ h.free

theorem ModesGo.ite {c : Prop} [Decidable c] (h : ModesGo ok s t) (h' : ModesGo ok s u) :
    ModesGo ok s (if c then t else u) := by split <;> assumption

/-- An operation within one state of the game. -/
theorem ModesKept.go (h : ModesKept s.currentPlayer s.plays ok s t) (hcur : t.currentPlayer = s.currentPlayer)
    (hplays : t.plays ↔ s.plays) (hidle : t.gpc.game = .idle → s.gpc.game = .idle) : ModesGo ok s t where
  modes hm := by rw [hcur, propext hplays]; exact h.modes hm
  timers hm ht := by rw [propext hplays]; exact h.timers hm ht
  counts := h.counts
  free hs hi := h.free (State.not_plays_of_idle (hidle hi)) (hs (hidle hi))

theorem ModesGo.then_kept (h : ModesGo ok s t) (h' : ModesKept t.currentPlayer t.plays ok t u)
    (hg : u.gpc = t.gpc := by simp) : ModesGo ok s u :=
  h.trans (h'.go (by rw [State.currentPlayer, hg]; rfl) (by rw [State.plays, hg]; exact Iff.rfl) (hg ▸ id))

theorem ModesGo.then_frame (h : ModesGo ok s t) (hm : u.mst = t.mst := by simp)
    (ht : u.tmu.timers = t.tmu.timers := by simp) (hg : u.gpc = t.gpc := by simp) : ModesGo ok s u :=
  h.then_kept ((ModesKept.refl t).then_frame hm ht) hg

/-! ### The ends of a ball and of a game (R171, R179) -/

/-- The law of the stack while a ball is in play, carried to another state of the game. -/
theorem ModesGo.of_still (hl : s.plays) (h : ModesKept s.currentPlayer True ok s t)
    (hstill : s.mst.Fits s.currentPlayer True → t.mst.Still)
    (huser : s.mst.Fits s.currentPlayer True → s.mst.Timed s.tmu.timers True → UserOnly t.tmu.timers)
    (hidle : t.gpc.game ≠ .idle) : ModesGo ok s t := by
  have hplays : s.plays = True := propext ⟨fun _ => trivial, fun _ => hl⟩
  refine ⟨fun hm => ?_, fun hm ht => ?_, fun hok hm ht => ?_, fun _ hi => absurd hi hidle⟩
  · rw [hplays] at hm
    exact (h.modes hm).of_still (hstill hm)
  · rw [hplays] at hm ht
    exact (h.timers hm ht).of_user (huser hm ht)
  · rw [hplays] at hm ht
    exact h.counts hok hm ht

/-- The state in which the contexts are parked at a ball end: BALL_OVER, the bonus credited, multiball and the lit
locks treated. -/
def State.ballClosed (s : State) : State :=
  let s := s.setGame .ballOver
  let s := s.bonusCredit s.currentPlayer
  let s := if s.lmc.multiball then s.endMultiball else s
  if s.lmc.params.litKeeps then s else s.modifyPlayer s.currentPlayer fun r => { r with locksLit := 0 }

/-- What follows the parking: the multiplier 1, the two timers released, BALL_END. -/
def State.ballReset (s : State) : State :=
  (((s.modifyPlayer s.currentPlayer fun r => { r with pfMult := 1 }).releaseBinding .pfMult).releaseBinding .ballSave).raise
    .ballEnd

theorem State.ballEnd_eq (s : State) : s.ballEnd = s.ballClosed.parkAll.ballReset := rfl

theorem State.ballReset_mst (s : State) : s.ballReset.mst = s.mst := by simp [State.ballReset]

theorem State.ballReset_gpc (s : State) : s.ballReset.gpc = s.gpc := by simp [State.ballReset]

theorem State.ballReset_timers (s : State) (v : Fin 16) : s.ballReset.tmu.timers[v] =
    (s.tmu.timers[v]).bind fun r => if r.binding = .pfMult ∨ r.binding = .ballSave then none else some r := by
  rw [State.ballReset, State.raise_tmu, State.releaseBinding_timerAt, State.releaseBinding_timerAt,
    State.modifyPlayer_tmu]
  cases s.tmu.timers[v] with
  | none => rfl
  | some r =>
    by_cases h1 : r.binding = .pfMult
    · simp [h1]
    · by_cases h2 : r.binding = .ballSave <;> simp [h1, h2]

theorem ModesKept.ballReset {cur : Nat} {live : Prop} (s : State) : ModesKept cur live ok s s.ballReset := by
  refine .released s.ballReset_mst fun v => ?_
  rw [State.ballReset_timers]
  cases hv : s.tmu.timers[v] with
  | none => exact .inl rfl
  | some r =>
    by_cases hr : r.binding = .pfMult ∨ r.binding = .ballSave
    · exact .inr ⟨by rw [Option.bind_some, if_pos hr], fun q hq => Option.some.inj hq ▸ .inr hr.symm⟩
    · exact .inl (by rw [Option.bind_some, if_neg hr])

theorem ModesKept.bonusCredit {cur : Nat} {live : Prop} (s : State) (p : Nat) : ModesKept cur live ok s (s.bonusCredit p) := by
  unfold State.bonusCredit
  split
  · exact .refl s
  · next r _ =>
    have hpaid : ModesKept cur live ok s
        (if s.gpc.tilted then s else s.credit p (awardPoints r.bonus 1 r.bonusMult 1) none) := .ite (.refl s) (.credit ..)
    exact hpaid.then_frame

theorem ModesKept.ballClosed {cur : Nat} (s : State) : ModesKept cur True ok s s.ballClosed := by
  have h1 : ModesKept cur True ok s (s.setGame .ballOver) := (ModesKept.refl s).then_frame rfl rfl
  have h2 := h1.trans (.bonusCredit (s.setGame .ballOver) (s.setGame .ballOver).currentPlayer)
  unfold State.ballClosed
  dsimp only
  generalize (s.setGame .ballOver).bonusCredit (s.setGame .ballOver).currentPlayer = t at h2 ⊢
  have h3 : ModesKept cur True ok s (if t.lmc.multiball then t.endMultiball else t) :=
    h2.trans (.ite (.endMultiball t trivial) (.refl t))
  exact h3.trans (.ite (.refl _) ((ModesKept.refl _).then_frame))

theorem State.ballClosed_gpc (s : State) : s.ballClosed.gpc = { s.gpc with game := .ballOver } := by
  unfold State.ballClosed
  dsimp only
  split <;> split <;> simp [State.setGame]

theorem ModesGo.ballEnd (h : ModesGo ok s t) (hl : t.plays) : ModesGo ok s t.ballEnd := by
  have hclosed : ModesKept t.currentPlayer True ok t t.ballClosed := .ballClosed t
  have hcur : t.ballClosed.currentPlayer = t.currentPlayer := by
    rw [State.currentPlayer, State.ballClosed_gpc]
    rfl
  have hgame : t.ballClosed.gpc.game = .ballOver := by rw [State.ballClosed_gpc]
  rw [State.ballEnd_eq]
  generalize t.ballClosed = c at hclosed hcur hgame ⊢
  have hstill (hm : t.mst.Fits t.currentPlayer True) : c.parkAll.mst.Still :=
    State.parkAll_still (hcur.symm ▸ hclosed.modes hm)
  have hparked := hclosed.trans (.parkAll c)
  have hgame' : c.parkAll.gpc.game = .ballOver := by simpa using hgame
  generalize c.parkAll = b at hparked hstill hgame' ⊢
  refine h.trans (.of_still hl (hparked.trans (.ballReset b)) (fun hm => b.ballReset_mst ▸ hstill hm)
    (fun hm ht v r hr => ?_) (by rw [State.ballReset_gpc, hgame']; nofun))
  rw [State.ballReset_timers] at hr
  obtain ⟨q, hq, hqr⟩ := Option.bind_eq_some_iff.mp hr
  split at hqr
  · nomatch hqr
  · next hb =>
    obtain rfl := Option.some.inj hqr
    exact ((hparked.timers hm ht).slotless (hparked.modes hm) (hstill hm) hq).resolve_right fun h => hb h.symm

theorem ModesGo.endGame (h : ModesGo ok s t) : ModesGo ok s t.endGame := by
  have hended {cur : Nat} {live : Prop} : ModesKept cur live ok t ((t.setGame .gameOver).endAll State.isStanding .gameEnded) :=
    ModesKept.trans (t := t.setGame .gameOver) ((ModesKept.refl t).then_frame rfl rfl) (.endAll ..)
  have hmst : t.endGame.mst = ((t.setGame .gameOver).endAll State.isStanding .gameEnded).mst := by
    simp [State.endGame]
  have htmu : t.endGame.tmu = ((t.setGame .gameOver).endAll State.isStanding .gameEnded).releaseBound.tmu := by
    unfold State.endGame State.releaseBound
    simp
  have hgame : t.endGame.gpc.game ≠ .idle := by simp [State.endGame, State.setGame]
  have hcur : t.endGame.currentPlayer = t.currentPlayer := by simp [State.endGame, State.setGame, State.currentPlayer]
  have hplays : ¬ t.endGame.plays := by
    rintro (h | h) <;> simp [State.endGame, State.setGame] at h
  generalize hu : (t.setGame .gameOver).endAll State.isStanding .gameEnded = u at hended hmst htmu
  have hstill (hm : t.mst.Fits t.currentPlayer t.plays) : u.mst.Still := hu ▸ State.endStanding_still hm
  have hat (v : Fin 16) := State.releaseBound_cases u v
  refine h.trans ⟨fun hm => ?_, fun hm ht => ?_, fun hok hm ht hc => ?_, fun _ hi => absurd hi hgame⟩
  · rw [hmst]
    exact (hended.modes hm).of_still (hstill hm)
  · rw [hmst, htmu]
    have htu := hended.timers hm ht
    have hslotless {v : Fin 16} {r : Timer} (hr : u.tmu.timers[v] = some r) : r.binding.Slotless :=
      htu.slotless (hended.modes hm) (hstill hm) hr
    have hreleased : ModesKept t.currentPlayer t.plays ok u u.releaseBound := .released (by simp) fun v =>
      (hat v).symm.imp And.left fun hn => ⟨hn, fun r hr => hslotless hr⟩
    have hrel := hreleased.timers (hended.modes hm) htu
    rw [State.releaseBound_mst] at hrel
    refine hrel.of_user fun v r hr => ?_
    rcases hat v with hn | ⟨hk, k, hk', hb⟩
    · nomatch hn.symm.trans hr
    · exact Option.some.inj (hk'.symm.trans (hk.symm.trans hr)) ▸ hb
  · have hcu := hended.counts hok hm ht hc
    rw [hmst, htmu]
    refine ⟨fun v r hr => ?_, hcu.periods, hcu.parked⟩
    rcases hat v with hn | ⟨hk, -⟩
    · nomatch hn.symm.trans hr
    · exact hcu.timers v r (hk.symm.trans hr)

/-! ### Devices (R109 to R119) -/

theorem ModesGo.requestEject {d : Fin 6} {n : Nat} (h : ModesGo ok s t) : ModesGo ok s (t.requestEject d n).1 := h.then_frame

theorem ModesGo.ballEndCheck (h : ModesGo ok s t) (hl : t.plays) : ModesGo ok s t.ballEndCheck := .ite (h.ballEnd hl) h

theorem ModesGo.ballEndCheckInPlay (h : ModesGo ok s t) : ModesGo ok s t.ballEndCheckInPlay := by
  unfold State.ballEndCheckInPlay
  split
  · next hg => exact h.ballEndCheck (.inr hg)
  · exact h

theorem ModesGo.multiballCheck (h : ModesGo ok s t) (hl : t.plays) : ModesGo ok s t.multiballCheck :=
  h.then_kept (.multiballCheck t hl)

theorem ModesGo.releaseSave (h : ModesGo ok s t) : ModesGo ok s (t.releaseBinding .ballSave) :=
  h.then_kept (.releaseBinding t (.inr (.inl rfl)))

theorem ModesGo.saveStep (h : ModesGo ok s t) : ModesGo ok s t.saveStep := by
  have hsaved : ModesGo ok s ((t.requestEject 0 1).1.raise .ballSaved) := h.then_frame
  unfold State.saveStep
  split
  · dsimp only
    split
    · exact hsaved
    · exact hsaved.releaseSave
  · exact h

theorem ModesGo.drain (h : ModesGo ok s t) (hg : t.gpc.game = .inPlay) : ModesGo ok s t.drain :=
  (h.saveStep.multiballCheck (.inr (by simpa using hg))).ballEndCheck (.inr (by simpa using hg))

theorem ModesGo.giveBallSave {n : Nat} (h : ModesGo ok s t) (hl : t.plays) (h1 : 0 < n) (h2 : ok → n ≤ 65535) :
    ModesGo ok s (t.giveBallSave n) :=
  h.then_kept (.giveBoundTimer t (.inl rfl) hl h1 h2)

/-- The player's locks spent and multiball RUNNING with J at its base (R137). -/
def State.multiballOn (s : State) (p : Nat) : State :=
  { s.modifyPlayer p fun r => { r with locksMade := 0, locksLit := 0 } with
    lmc := { s.lmc with multiball := true, jackpot := s.lmc.params.jackpotBase.worth } }

theorem State.completeStart_eq (s : State) (p : Nat) : s.completeStart p =
    (if 0 < s.lmc.params.mbSaveTicks then (s.multiballOn p).giveBallSave s.lmc.params.mbSaveTicks
      else s.multiballOn p).raise .multiballStart := by
  simp only [State.completeStart, State.multiballOn, State.modifyPlayer_lmc]

theorem ModesGo.completeStart {p : Nat} (h : ModesGo ok s t) (hl : t.plays) (hok : ok → t.lmc.params.mbSaveTicks ≤ 65535) :
    ModesGo ok s (t.completeStart p) := by
  have hon : ModesGo ok s (t.multiballOn p) := h.then_frame (by simp [State.multiballOn]) (by simp [State.multiballOn])
    (by simp [State.multiballOn])
  have hplays : (t.multiballOn p).plays := by simpa [State.multiballOn, State.plays] using hl
  rw [State.completeStart_eq]
  split
  · next hticks => exact (hon.giveBallSave hplays hticks hok).then_frame
  · exact hon.then_frame

theorem ModesGo.startMultiball {p : Nat} (h : ModesGo ok s t) (hl : t.plays) (hok : ok → t.lmc.params.mbSaveTicks ≤ 65535) :
    ModesGo ok s (t.startMultiball p).1 := by
  have hsame := State.source_sameButBalls t p t.ballsWanted
  unfold State.startMultiball
  dsimp only
  generalize (t.source p t.ballsWanted).state = v at hsame ⊢
  have hsourced : ModesGo ok s v := h.then_frame hsame.mst (by rw [hsame.tmu]) hsame.gpc
  refine hsourced.completeStart (by rw [State.plays, hsame.gpc]; exact hl) ?_
  rw [hsame.lmc]
  exact hok

theorem ModesGo.afterLock {d : Fin 6} {p : Nat} (h : ModesGo ok s t) (hl : t.plays)
    (hok : ok → t.lmc.params.mbSaveTicks ≤ 65535) : ModesGo ok s (t.afterLock d p) := by
  have hplays : (t.requestEject 0 1).1.plays := by simpa [State.plays] using hl
  unfold State.afterLock
  split
  · exact h.startMultiball hl hok
  · split
    · exact h.requestEject
    · split
      · exact .ite (h.requestEject.ballEndCheck hplays) h.requestEject
      · exact h

theorem State.inPlay_of_scores (h : s.scores = true) : s.gpc.game = .inPlay :=
  of_decide_eq_true (Bool.and_eq_true_iff.mp h).1

theorem State.inPlay_of_makesLock {d : Fin 6} (h : s.makesLock d = true) : s.gpc.game = .inPlay := by
  simp only [State.makesLock, Bool.and_eq_true] at h
  obtain ⟨⟨⟨hscores, -⟩, -⟩, -⟩ := h
  exact State.inPlay_of_scores hscores

theorem ModesGo.lockEntry {d : Fin 6} (h : ModesGo ok s t) (hok : ok → t.lmc.params.mbSaveTicks ≤ 65535) :
    ModesGo ok s (t.lockEntry d) := by
  unfold State.lockEntry
  split
  · next hm =>
    have hg := State.inPlay_of_makesLock hm
    unfold State.makeLock
    dsimp only
    refine ModesGo.afterLock ?_ (.inr (by simpa using hg)) (by simpa using hok)
    exact h.then_frame
  · exact .ite h (.ite h.ballEndCheckInPlay h.requestEject)

theorem ModesGo.handleEntry {d : Fin 6} (h : ModesGo ok s t) (hok : ok → t.lmc.params.mbSaveTicks ≤ 65535) :
    ModesGo ok s (t.handleEntry d) := by
  unfold State.handleEntry
  split
  · split
    · next hg => exact h.drain hg
    · exact h
  · exact h.lockEntry hok
  · exact .ite h (.ite h.ballEndCheckInPlay h.requestEject)
  · exact h

theorem ModesGo.enterDevice {d : Fin 6} (h : ModesGo ok s t) (hok : ok → t.lmc.params.mbSaveTicks ≤ 65535) :
    ModesGo ok s (t.enterDevice d) := by
  have hcounted : ModesGo ok s (t.accountEntry d).1 := h.then_frame
  have hparams : (t.accountEntry d).1.lmc.params = t.lmc.params := (Keeps.refl t).accountEntry.params
  unfold State.enterDevice
  exact .ite (hcounted.handleEntry (hparams ▸ hok)) hcounted

theorem ModesGo.troughStep {d : Fin 6} (h : ModesGo ok s t) (hok : ok → t.gpc.params.ballSaveTicks ≤ 65535) :
    ModesGo ok s (t.troughStep d) := by
  unfold State.troughStep
  split
  · next hg =>
    have hkept : ModesKept t.currentPlayer t.plays ok t (t.setGame .inPlay) := (ModesKept.refl t).then_frame rfl rfl
    have hplay : ModesGo ok s (t.setGame .inPlay) :=
      h.trans (hkept.go rfl ⟨fun _ => .inl hg.2, fun _ => .inr rfl⟩ nofun)
    dsimp only
    split
    · next hticks => exact hplay.giveBallSave (.inr rfl) hticks.1 hok
    · exact hplay
  · exact h

theorem ModesGo.exitDevice {d : Fin 6} (h : ModesGo ok s t) (hok : ok → t.gpc.params.ballSaveTicks ≤ 65535) :
    ModesGo ok s (t.exitDevice d) := by
  unfold State.exitDevice
  split
  · exact ModesGo.troughStep (h.then_frame) (by simpa using hok)
  · exact ModesGo.troughStep (h.then_frame) (by simpa using hok)

theorem ModesGo.faultDevice {d : Fin 6} (h : ModesGo ok s t) : ModesGo ok s (t.faultDevice d) := by
  unfold State.faultDevice
  dsimp only
  refine ModesGo.ballEndCheckInPlay ?_
  split
  · exact h.then_frame
  · exact h.then_frame

theorem ModesGo.ejectExpiry {d : Fin 6} (h : ModesGo ok s t) : ModesGo ok s (t.ejectExpiry d) :=
  .ite h.faultDevice h.then_frame

/-! ### The evaluation of an entry (R41 to R45) -/

theorem ModesGo.scoreHit {g : Fin 16} {k : Nat} {l : List Award} {st : List (Fin 12)} (h : ModesGo ok s t) :
    ModesGo ok s (t.scoreHit g k l st) := h.then_kept (.scoreHit t.runs)

theorem ModesGo.evaluate {e : Entry} (h : ModesGo ok s t) (hok : ok → t.ticksWithin) : ModesGo ok s (t.evaluate e) := by
  unfold State.evaluate
  split
  · exact .ite h.scoreHit h
  · dsimp only
    exact .ite (h.enterDevice fun hk => (hok hk).2).scoreHit (h.enterDevice fun hk => (hok hk).2)
  · exact h.exitDevice fun hk => (hok hk).1
  · exact h
  · exact h.then_frame
  · exact h.then_frame

end

end Sys2Proof.Machine
end

section
/-! PROOFS. Every command keeps the laws of the mode stack and of the timers (O14, O15). -/

namespace Sys2Proof.Machine

section
variable {ok : Prop} {s t u : State}

/-! ### Commands that leave contexts, timers and the game alone -/

/-- Contexts, timers and the game record stand. -/
structure State.SameModes (s t : State) : Prop where
  mst : t.mst = s.mst
  tmu : t.tmu = s.tmu
  gpc : t.gpc = s.gpc

theorem State.SameModes.go (h : s.SameModes t) : ModesGo ok s t :=
  (ModesGo.refl s).then_frame h.mst (by rw [h.tmu]) h.gpc

theorem arrive_sameModes (s : State) (sw : Fin 128) (cls : EntryClass) : s.SameModes (s.arrive sw cls) := by
  unfold State.arrive State.dropReport
  split
  · exact ⟨rfl, rfl, rfl⟩
  · exact ⟨rfl, rfl, rfl⟩
  · split
    · split <;> exact ⟨rfl, rfl, rfl⟩
    · exact ⟨rfl, rfl, rfl⟩

theorem injectSwitch_sameModes (p : List Byte) (s : State) : s.SameModes (injectSwitch p s).1 := by
  unfold injectSwitch
  split
  · exact ⟨rfl, rfl, rfl⟩
  · split
    · exact ⟨rfl, rfl, rfl⟩
    · split <;> exact ⟨rfl, rfl, rfl⟩

theorem writePlayer_sameModes (p : List Byte) (s : State) : s.SameModes (writePlayer p s).1 := by
  unfold writePlayer
  split
  · split
    · exact ⟨rfl, rfl, rfl⟩
    · split
      · exact ⟨rfl, rfl, rfl⟩
      · exact ⟨by simp, by simp, by simp⟩
  · exact ⟨rfl, rfl, rfl⟩

theorem setCounterValue_sameModes (s : State) (c : CounterRef) (p v : Nat) : s.SameModes (s.setCounterValue c p v) :=
  ⟨by simp, by simp, by simp⟩

theorem writeCounter_sameModes (p : List Byte) (s : State) : s.SameModes (writeCounter p s).1 := by
  unfold writeCounter
  split
  · split
    · exact ⟨rfl, rfl, rfl⟩
    · split
      · exact ⟨rfl, rfl, rfl⟩
      · exact setCounterValue_sameModes ..
  · exact ⟨rfl, rfl, rfl⟩

theorem stageTarget_sameModes (p : List Byte) (s : State) : s.SameModes (stageTarget p s).1 := by
  have hset (c : CounterRef) (d : CounterDef) : s.SameModes (s.setCounterDef c d) := by
    cases c <;> exact ⟨rfl, rfl, rfl⟩
  unfold stageTarget
  split
  · split
    · exact ⟨rfl, rfl, rfl⟩
    · exact hset ..
  · exact ⟨rfl, rfl, rfl⟩

theorem lightLock_sameModes (s : State) : s.SameModes (Machine.lightLock s).1 := by
  unfold Machine.lightLock
  split
  · exact ⟨by simp, by simp, by simp⟩
  · exact ⟨rfl, rfl, rfl⟩

theorem addBall_sameModes (s : State) : s.SameModes (addBall s).1 := by
  unfold addBall
  split
  · exact ⟨rfl, rfl, rfl⟩
  · split
    · exact ⟨rfl, rfl, rfl⟩
    · exact ⟨by simp, by simp, by simp⟩

theorem clearDeviceFault_sameModes (p : List Byte) (s : State) : s.SameModes (clearDeviceFault p s).1 := by
  unfold clearDeviceFault
  split
  · exact ⟨rfl, rfl, rfl⟩
  · split
    · exact ⟨rfl, rfl, rfl⟩
    · split <;> exact ⟨rfl, rfl, rfl⟩

theorem defineDevice_sameModes (p : List Byte) (s : State) : s.SameModes (defineDevice p s).1 := by
  unfold defineDevice
  split
  · exact ⟨rfl, rfl, rfl⟩
  · split
    · exact ⟨rfl, rfl, rfl⟩
    · exact ⟨by simp, by simp, by simp⟩

theorem defineRule_sameModes (p : List Byte) (s : State) : s.SameModes (defineRule p s).1 := by
  unfold defineRule
  split
  · split <;> exact ⟨rfl, rfl, rfl⟩
  · exact ⟨rfl, rfl, rfl⟩

theorem defineThresholds_sameModes (p : List Byte) (s : State) : s.SameModes (defineThresholds p s).1 := by
  unfold defineThresholds
  split
  · exact ⟨rfl, rfl, rfl⟩
  · split
    · split <;> exact ⟨rfl, rfl, rfl⟩
    · exact ⟨rfl, rfl, rfl⟩

theorem defineCounter_sameModes (p : List Byte) (s : State) : s.SameModes (defineCounter p s).1 := by
  have hset (c : CounterRef) (d : CounterDef) : s.SameModes (s.setCounterDef c d) := by
    cases c <;> exact ⟨rfl, rfl, rfl⟩
  unfold defineCounter
  split
  · exact hset ..
  · exact ⟨rfl, rfl, rfl⟩

theorem ackNotice_sameModes (p : List Byte) (s : State) : s.SameModes (ackNotice p s).1 := by
  unfold ackNotice
  split
  · exact ⟨rfl, rfl, rfl⟩
  · split <;> exact ⟨rfl, rfl, rfl⟩

theorem setNoticeEnable_sameModes (p : List Byte) (s : State) : s.SameModes (setNoticeEnable p s).1 := by
  unfold setNoticeEnable
  split <;> exact ⟨rfl, rfl, rfl⟩

theorem addPlayer_sameModes (s : State) : s.SameModes (addPlayer s).1 := by
  unfold addPlayer
  split
  · split <;> exact ⟨rfl, rfl, rfl⟩
  · exact ⟨rfl, rfl, rfl⟩

/-! ### Requests of players and devices -/

theorem ModesGo.adjustScore (p : List Byte) (s : State) : ModesGo ok s (adjustScore p s).1 := by
  unfold Machine.adjustScore
  split
  · split
    · exact .refl s
    · split
      · dsimp only
        split
        · exact (ModesGo.refl s).then_frame
        · exact (ModesGo.refl s).then_kept (.credit ..)
      · exact .refl s
  · exact .refl s

theorem ModesGo.setPlayfieldMult (p : List Byte) (s : State) : ModesGo ok s (setPlayfieldMult p s).1 := by
  unfold Machine.setPlayfieldMult
  split
  · next hg =>
    dsimp only
    have hset : ModesGo ok s (s.modifyPlayer s.currentPlayer fun r => { r with pfMult := heldPfMult (byteAt p 0) }) :=
      (ModesGo.refl s).then_frame
    split
    · exact hset.then_kept (.releaseBinding _ (.inr (.inr rfl)))
    · next hticks =>
      exact hset.then_kept (.giveBoundTimer _ (.inr rfl) (by simpa [State.plays] using hg)
        (Nat.one_le_iff_ne_zero.mpr hticks) fun _ => numberAt_two_le p 1)
  · exact .refl s

theorem ModesGo.checked (h : ModesGo ok s t) (hg : t.gpc.game = .inPlay) : ModesGo ok s t.multiballCheck.ballEndCheck :=
  (h.multiballCheck (.inr hg)).ballEndCheck (.inr (by simpa using hg))

theorem ModesGo.recount (p : List Byte) (s : State) : ModesGo ok s (recount p s).1 := by
  unfold Machine.recount
  split
  · dsimp only
    have hcounted (b : Bdt) (l : Vector (List Nat) 6) :
        ModesGo ok s { s with bdt := b, lmc := { s.lmc with claims := l } } := (ModesGo.refl s).then_frame rfl rfl rfl
    split
    · next hg =>
      refine ModesGo.checked (hcounted _ _) ?_
      exact hg
    · exact hcounted ..
  · exact .refl s

theorem ModesGo.startMultiballRequest (s : State) (hok : ok → s.ticksWithin) : ModesGo ok s (Machine.startMultiball s).1 := by
  have hstart (hg : s.gpc.game = .inPlay) : ModesGo ok s (s.startMultiball s.currentPlayer).1 :=
    ModesGo.startMultiball (.refl s) (.inr hg) fun hk => (hok hk).2
  unfold Machine.startMultiball
  split
  · next h => exact hstart (State.inPlay_of_scores h.1)
  · exact .refl s

/-! ### Lines and resets -/

theorem setLine_modes (s : State) (l : GameLine) (b : Bool) : ModesGo ok s (s.setLine l b) := by
  cases l <;> exact ⟨id, fun _ => id, fun _ _ _ => id, id⟩

theorem ModesGo.tiltBall (h : ModesGo ok s t) : ModesGo ok s t.tiltBall := by
  unfold State.tiltBall
  split
  · exact h
  · have hflag : ModesGo ok s { t with gpc := { t.gpc with tilted := true } } :=
      h.trans ⟨id, fun _ => id, fun _ _ _ => id, id⟩
    exact hflag.releaseSave

theorem ModesGo.actOnLine (h : ModesGo ok s t) : ModesGo ok s t.actOnLine := by
  have hslam : ModesGo ok s t.endGame.clearClaims := h.endGame.then_frame
  unfold State.actOnLine
  split
  · exact h.tiltBall
  · exact h.tiltBall
  · exact hslam
  · exact hslam
  · exact hslam
  · exact h

/-- A state without contexts whose timers are FREE or USER timers that stood before. -/
theorem ModesGo.of_clear (hslots : ∀ x : Fin 12, t.mst.slots[x] = none)
    (hlists : t.mst.stack = [] ∧ t.mst.pauseOrder = [] ∧ t.mst.ended = [])
    (htemplates : ∀ (i : Fin 32) (tm : Template), t.mst.templates[i] = some tm → s.mst.templates[i] = some tm)
    (htimers : s.mst.Fits s.currentPlayer s.plays → s.mst.Timed s.tmu.timers s.plays → ∀ (u : Fin 16) (r : Timer),
      t.tmu.timers[u] = some r → s.tmu.timers[u] = some r ∧ r.binding = .user) : ModesGo ok s t := by
  obtain ⟨hstack, hpause, hended⟩ := hlists
  have hnone {y : Fin 12} {c : Context} (hc : t.mst.slots[y] = some c) : False := nomatch (hslots y).symm.trans hc
  refine ⟨fun _ => ?_, fun hm ht => ?_, fun _ hm ht hc => ?_, fun _ _ => hslots⟩
  · refine ⟨hstack ▸ List.nodup_nil, hpause ▸ List.nodup_nil, hended ▸ List.nodup_nil, fun x => ?_, fun x => ?_,
      fun x => ?_, hstack ▸ .nil, fun _ _ hc => (hnone hc).elim, fun _ _ hc => (hnone hc).elim,
      fun _ _ _ _ hc => (hnone hc).elim, fun _ _ _ _ hc => (hnone hc).elim⟩
    · rw [hstack]
      exact ⟨nofun, fun ⟨_, hc, _⟩ => (hnone hc).elim⟩
    · rw [hpause]
      exact ⟨nofun, fun ⟨_, hc, _⟩ => (hnone hc).elim⟩
    · rw [hended]
      exact ⟨nofun, fun ⟨_, hc, _⟩ => (hnone hc).elim⟩
  · have hold := htimers hm ht
    refine ⟨fun _ _ _ hc => (hnone hc).elim, fun u r hr hb => absurd (hold u r hr).2 hb,
      fun u r hr hf => ht.frozen u r (hold u r hr).1 hf, fun u r x hr hb => ?_, fun u v r q hr _ _ hb => ?_⟩
    · rw [(hold u r hr).2] at hb
      exact hb.elim nofun nofun
    · rw [(hold u r hr).2] at hb
      exact hb.elim nofun nofun
  · exact ⟨fun u r hr => hc.timers u r (htimers hm ht u r hr).1,
      fun i tm hi => hc.periods i tm (htemplates i tm hi), fun _ _ hx => (hnone hx).elim⟩

theorem powerOn_modes (s : State) (a b c : Bool) : ModesGo ok s (s.powerOn a b c) :=
  .of_clear (fun x => by simp [State.powerOn, State.reset]) ⟨rfl, rfl, rfl⟩
    (fun i tm h => by simp [State.powerOn, State.reset] at h) fun _ _ u r hr => by simp [State.powerOn, State.reset] at hr

theorem softReset_modes (s : State) : ModesGo ok s s.softReset :=
  .of_clear (fun x => by simp [State.softReset, State.clearSlots, State.clearClaims]) ⟨rfl, rfl, rfl⟩
    (fun _ _ h => h) fun _ _ u r hr => by simp [State.softReset] at hr

/-! ### The course of a game (R168, R174 to R176, R180) -/

theorem State.clearTilt_timers (v : Fin 16) : s.clearTilt.tmu.timers[v] = s.tmu.timers[v] ∨
    s.clearTilt.tmu.timers[v] = (s.releaseBinding .ballSave).tmu.timers[v] := by
  unfold State.clearTilt State.tiltBall
  dsimp only
  split
  · exact .inr rfl
  · exact .inl rfl

theorem State.gameBegun_timer {v : Fin 16} {r : Timer} (h : s.gameBegun.tmu.timers[v] = some r) :
    s.tmu.timers[v] = some r ∧ r.binding = .user := by
  have huser : s.releaseBound.tmu.timers[v] = some r := by
    unfold State.gameBegun at h
    dsimp only at h
    rcases State.clearTilt_timers (s := { { (({ s with ptb := { s.ptb with players := [Player.created] } }).clearCommon
      ).restoreTargets.clearSlots.releaseBound.clearClaims with lmc := { (({ s with ptb := { s.ptb with players :=
        [Player.created] } }).clearCommon).restoreTargets.clearSlots.releaseBound.clearClaims.lmc with
          multiball := false, jackpot := 0 } } with gpc := { s.gpc with current := some 1, ballNumber := 1 } }) v with hv | hv
    · exact hv.symm.trans h
    · have hb := hv.symm.trans h
      rw [State.releaseBinding_timerAt] at hb
      obtain ⟨q, hq, hqr⟩ := Option.bind_eq_some_iff.mp hb
      split at hqr
      · nomatch hqr
      · obtain rfl := Option.some.inj hqr
        exact hq
  rcases State.releaseBound_cases s v with hn | ⟨hk, k, hk', hb⟩
  · nomatch hn.symm.trans huser
  · have hr := hk.symm.trans huser
    exact ⟨hr, Option.some.inj (hk'.symm.trans hr) ▸ hb⟩

theorem beginGame_modes (s : State) : ModesGo ok s s.beginGame := by
  have hbegun : ModesGo ok s s.gameBegun :=
    .of_clear (fun x => by simp [State.gameBegun, State.setGame, State.clearSlots])
      ⟨by simp [State.gameBegun, State.setGame, State.clearSlots], by simp [State.gameBegun, State.setGame, State.clearSlots],
        by simp [State.gameBegun, State.setGame, State.clearSlots]⟩
      (fun i tm h => by simpa [State.gameBegun, State.setGame, State.clearSlots, State.restoreTargets, State.clearCommon] using h)
      fun _ _ u r hr => State.gameBegun_timer hr
  exact hbegun.requestEject

theorem startGame_modes (s : State) : ModesGo ok s (startGame s).1 := by
  unfold startGame
  split
  · exact .refl s
  · exact beginGame_modes s

theorem clearGame_modes (hg : s.gpc.game = .gameOver) : ModesGo ok s s.clearGame := by
  have hplays : ¬ s.plays := by
    rintro (h | h) <;> nomatch hg.symm.trans h
  exact .of_clear (fun x => by simp [State.clearGame, State.clearSlots, State.clearClaims]) ⟨rfl, rfl, rfl⟩
    (fun _ _ h => h) fun _ ht u r hr => ⟨hr, ht.userOnly hplays u r hr⟩

theorem State.not_plays_of_ballOver (hg : s.gpc.game = .ballOver) : ¬ s.plays := by
  rintro (h | h) <;> nomatch hg.symm.trans h

theorem finishGame_modes (hg : s.gpc.game = .ballOver) : ModesGo ok s s.finishGame := by
  have hended : ModesKept s.currentPlayer s.plays ok s ((s.setGame .gameOver).endAll State.isParked .gameEnded) :=
    ModesKept.trans (t := s.setGame .gameOver) ((ModesKept.refl s).then_frame rfl rfl) (.endAll ..)
  have hgame : s.finishGame.gpc.game = .gameOver := by simp [State.finishGame, State.setGame]
  refine (hended.then_frame (u := s.finishGame) (by simp [State.finishGame]) (by simp [State.finishGame])).go ?_ ⟨fun h => ?_, fun h => ?_⟩ fun h => ?_
  · simp [State.finishGame, State.setGame, State.currentPlayer]
  · rcases h with h | h <;> nomatch hgame.symm.trans h
  · exact absurd h (State.not_plays_of_ballOver hg)
  · nomatch hgame.symm.trans h

/-- The rotation moved to player p and ball b, with the flag of the new ball (R175). -/
def State.rotated (s : State) (p b : Nat) : State :=
  ({ s with gpc := { s.gpc with current := some p, ballNumber := b } } : State).clearTilt

theorem State.continueGame_eq (s : State) (p b : Nat) :
    s.continueGame p b = (((s.rotated p b).resumeAll p).setGame .starting).launch := rfl

theorem ModesKept.rotated {cur p b : Nat} {live : Prop} (s : State) : ModesKept cur live ok s (s.rotated p b) := by
  have hmoved : ModesKept cur live ok s { s with gpc := { s.gpc with current := some p, ballNumber := b } } :=
    (ModesKept.refl s).then_frame rfl rfl
  unfold State.rotated State.clearTilt State.tiltBall
  dsimp only
  split
  · have hflag : ModesKept cur live ok s { s with gpc := { s.gpc with
        current := some p, ballNumber := b, tilted := true } } := (ModesKept.refl s).then_frame rfl rfl
    exact hflag.trans (.releaseBinding _ (.inr (.inl rfl)))
  · exact (ModesKept.refl s).then_frame rfl rfl

theorem State.rotated_mst (p b : Nat) : (s.rotated p b).mst = s.mst := by simp [State.rotated]

theorem continueGame_modes {p b : Nat} (hg : s.gpc.game = .ballOver) : ModesGo ok s (s.continueGame p b) := by
  have hstill (hm : s.mst.Fits s.currentPlayer s.plays) : s.mst.Still := hm.still (State.not_plays_of_ballOver hg)
  have hkept (hm : s.mst.Fits s.currentPlayer s.plays) : ModesKept p True ok s (s.continueGame p b) := by
    have hresumed : ModesKept p True ok (s.rotated p b) ((s.rotated p b).resumeAll p) :=
      .resumeAll trivial fun y d hd hdr => by
        rw [State.rotated_mst] at hd
        nomatch (hdr ▸ hstill hm y d hd : Phase.live .running = false)
    rw [State.continueGame_eq]
    exact ((ModesKept.rotated s).trans hresumed).then_frame (by simp [State.setGame]) (by simp [State.setGame])
  have hgame : (s.continueGame p b).gpc.game = .starting := by
    rw [State.continueGame_eq]
    simp [State.setGame]
  have hplays : (s.continueGame p b).plays = True := propext ⟨fun _ => trivial, fun _ => .inl hgame⟩
  have hcur : (s.continueGame p b).currentPlayer = p := by
    rw [State.continueGame_eq]
    simp [State.setGame, State.currentPlayer, State.rotated, State.clearTilt_gpc]
  refine ⟨fun hm => ?_, fun hm ht => ?_, fun hok hm ht => ?_, fun _ hi => nomatch hgame.symm.trans hi⟩
  · rw [hplays, hcur]
    exact (hkept hm).modes (hm.of_still (hstill hm))
  · rw [hplays]
    exact (hkept hm).timers (hm.of_still (hstill hm)) (ht.of_user (ht.userOnly (State.not_plays_of_ballOver hg)))
  · exact (hkept hm).counts hok (hm.of_still (hstill hm)) (ht.of_user (ht.userOnly (State.not_plays_of_ballOver hg)))

theorem nextBall_modes (s : State) : ModesGo ok s (nextBall s).1 := by
  unfold nextBall
  split
  · next hg =>
    have hspent : ModesGo ok s s.spendExtraBall := (ModesGo.refl s).then_frame (by simp [State.spendExtraBall])
      (by simp [State.spendExtraBall]) (by simp [State.spendExtraBall])
    have hgame : s.spendExtraBall.gpc.game = .ballOver := by simpa [State.spendExtraBall] using hg
    unfold State.nextBall
    dsimp only
    split
    · exact hspent.trans (finishGame_modes hgame)
    · exact hspent.trans (continueGame_modes hgame)
  · exact .refl s

/-! ### Templates (R75) -/

theorem hurryFields?_period {p : List Byte} {v : PointValue} {f : HurryFields} (h : hurryFields? p v = some f) :
    1 ≤ f.decayPeriod ∧ f.decayPeriod ≤ 65535 := by
  unfold hurryFields? at h
  split at h
  · split at h
    · next hr =>
      obtain rfl := Option.some.inj h
      exact ⟨Nat.one_le_iff_ne_zero.mpr hr.2.2.2, numberAt_two_le p 29⟩
    · nomatch h
  · nomatch h

theorem shotFields?_duration {p : List Byte} {f : ShotFields} (h : shotFields? p = some f) : f.duration ≤ 65535 := by
  unfold shotFields? at h
  split at h
  · obtain rfl := Option.some.inj h
    exact numberAt_two_le p 11
  · nomatch h

/-- The period of a template read is in range (R74, R75). -/
theorem template?_period {p : List Byte} {tm : Template} {n : Nat} (h : template? p = some tm) (hn : tm.period? = some n) :
    1 ≤ n ∧ n ≤ 65535 := by
  have hshot {f : ShotFields} (hf : shotFields? p = some f) (h : (if 0 < f.duration then some f.duration else none) = some n) :
      1 ≤ n ∧ n ≤ 65535 := by
    split at h
    · next hpos =>
      obtain rfl := Option.some.inj h
      exact ⟨hpos, shotFields?_duration hf⟩
    · nomatch h
  unfold template? at h
  split at h
  · split at h
    · next value _ _ _ _ _ _ _ _ _ _ _ _ _ _ _ _ kind hk =>
      split at h
      · obtain rfl := Option.some.inj h
        unfold templateKind? at hk
        split at hk
        · obtain ⟨f, hf, rfl⟩ := Option.map_eq_some_iff.mp hk
          exact hshot hf hn
        · obtain ⟨f, hf, rfl⟩ := Option.map_eq_some_iff.mp hk
          exact hshot hf hn
        · obtain ⟨f, hf, rfl⟩ := Option.map_eq_some_iff.mp hk
          obtain rfl := Option.some.inj hn
          exact hurryFields?_period hf
        · nomatch hk
      · nomatch h
    · nomatch h
  · nomatch h

theorem templateEntry?_period {p : List Byte} {x : Option Template} {tm : Template} {n : Nat} (h : templateEntry? p = some x)
    (hx : x = some tm) (hn : tm.period? = some n) : 1 ≤ n ∧ n ≤ 65535 := by
  unfold templateEntry? at h
  split at h
  · obtain rfl := Option.some.inj h
    nomatch hx
  · obtain ⟨tm', htm, rfl⟩ := Option.map_eq_some_iff.mp h
    obtain rfl := Option.some.inj hx
    exact template?_period htm hn
  · nomatch h

end

end Sys2Proof.Machine
end

section
/-! PROOFS. O14 and O15: every step keeps the law of the mode stack, the law of the timers and their counts. -/

namespace Sys2Proof.Machine

section
variable {s t : State}

/-! ### The laws from step to step -/

/-- The laws of the mode stack, of the timers and of their counts, each kept where those before it hold. -/
structure LawsKept (s t : State) : Prop where
  modes : ModeLaw s → ModeLaw t
  timers : ModeLaw s → TimerLaw s → TimerLaw t
  counts : ModeLaw s → TimerLaw s → CountLaw s → CountLaw t

theorem LawsKept.trans {u : State} (h : LawsKept s t) (h' : LawsKept t u) : LawsKept s u where
  modes := h'.modes ∘ h.modes
  timers hm ht := h'.timers (h.modes hm) (h.timers hm ht)
  counts hm ht hc := h'.counts (h.modes hm) (h.timers hm ht) (h.counts hm ht hc)

theorem ModesGo.laws (h : ModesGo s.ticksWithin s t) (hticks : s.ticksWithin → t.ticksWithin) : LawsKept s t := by
  have hmodes (hm : ModeLaw s) : ModeLaw t := by
    obtain ⟨hfits, hidle⟩ := modeLaw_iff.mp hm
    exact modeLaw_iff.mpr ⟨h.modes hfits, h.free hidle⟩
  refine ⟨hmodes, fun hm ht => ?_, fun hm ht hc => ?_⟩
  · exact (timerLaw_iff (hmodes hm)).mpr (h.timers (modeLaw_iff.mp hm).1 ((timerLaw_iff hm).mp ht))
  · obtain ⟨hcounted, hbounds⟩ := countLaw_iff.mp hc
    exact countLaw_iff.mpr
      ⟨h.counts hbounds (modeLaw_iff.mp hm).1 ((timerLaw_iff hm).mp ht) hcounted, hticks hbounds⟩

theorem ModesGo.answer {ok : Prop} {e : Byte} {st : Status} {p : List Byte} (h : ModesGo ok s t) :
    ModesGo ok s (t.answer e st p) := h.then_frame

theorem ModesGo.of_request {ok : Prop} {code : Byte} {config : Bool} {takes : Nat} {owner : State → State × Reply}
    {p : List Byte} (ho : ModesGo ok s (owner s).1) (h : takeRequest code config takes owner p s = .next t) :
    ModesGo ok s t := by
  rcases takeRequest_cases h with rfl | ⟨st, rfl⟩ | ⟨-, rfl⟩
  · exact (ModesGo.refl s).then_frame rfl rfl rfl
  · exact (ModesGo.refl s).answer
  · exact ho.answer

theorem ModesGo.of_read {ok : Prop} {code : Byte} {config : Bool} {takes : Nat} {owner : State → State × Reply}
    {p : List Byte} (ho : (owner s).1 = s) (h : takeRequest code config takes owner p s = .next t) : ModesGo ok s t :=
  .of_request (by rw [ho]; exact .refl s) h

theorem ModesGo.of_kept {ok : Prop} (h : ModesKept s.currentPlayer s.plays ok s t) (hg : t.gpc = s.gpc) : ModesGo ok s t :=
  (ModesGo.refl s).then_kept h hg

/-! ### Requests that leave the game record alone -/

section
variable {x : Fin 12} {c : Context} {tm : Template}

theorem State.expire_gpc {v : Fin 16} {r : Timer} : (s.expire v r).gpc = s.gpc := by
  unfold State.expire
  split <;> simp

theorem State.takeExpiry_gpc {v : Fin 16} {r : Timer} : (s.takeExpiry v r).gpc = s.gpc := by
  unfold State.takeExpiry
  split <;> simp [State.expire_gpc]

theorem startModeRequest_gpc (p : List Byte) (s : State) : (startModeRequest p s).1.gpc = s.gpc := by
  unfold startModeRequest
  split
  · rfl
  · next i _ =>
    have hstart : (s.startMode i).1.gpc = s.gpc := by simp
    split <;> next heq => rw [heq] at hstart; exact hstart

theorem stopMode_gpc (p : List Byte) (s : State) : (stopMode p s).1.gpc = s.gpc := by
  unfold stopMode
  split
  · rfl
  · split
    · simp
    · rfl

theorem retireMode_gpc (p : List Byte) (s : State) : (retireMode p s).1.gpc = s.gpc := by
  unfold retireMode
  split
  · rfl
  · split <;> rfl

theorem State.applyAdjustment_gpc (a : Adjustment) : (s.applyAdjustment x c tm a).gpc = s.gpc := by
  obtain ⟨o1, o2, o3, o4⟩ := a
  have htime (t : State) (n : Nat) : (t.addTime x c n).gpc = t.gpc := by
    unfold State.addTime
    split <;> simp
  rw [State.applyAdjustment_eq]
  cases o1 <;> cases o2 <;> cases o3 <;> cases o4 <;>
    simp [State.adjustTime, State.adjustValue, State.adjustMult, State.adjustPeriod, htime]

theorem adjustMode_gpc (p : List Byte) (s : State) : (adjustMode p s).1.gpc = s.gpc := by
  unfold adjustMode
  split
  · split
    · split
      · rfl
      · split
        · rfl
        · dsimp only
          split
          · exact State.applyAdjustment_gpc _
          · rfl
    · rfl
  · rfl

theorem allocTimer_gpc (p : List Byte) (s : State) : (allocTimer p s).1.gpc = s.gpc := by
  unfold allocTimer
  split
  · dsimp only
    split
    · rfl
    · split <;> rfl
  · rfl

theorem startTimer_gpc (p : List Byte) (s : State) : (startTimer p s).1.gpc = s.gpc := by
  unfold startTimer
  split
  · rfl
  · split <;> rfl

theorem stopTimer_gpc (p : List Byte) (s : State) : (stopTimer p s).1.gpc = s.gpc := by
  unfold stopTimer
  split <;> rfl

theorem freeTimer_gpc (p : List Byte) (s : State) : (freeTimer p s).1.gpc = s.gpc := by
  unfold freeTimer
  split <;> rfl

theorem stagePeriod_gpc (p : List Byte) (s : State) : (stagePeriod p s).1.gpc = s.gpc := by
  unfold stagePeriod
  split
  · rfl
  · split
    · rfl
    · simp

end

/-! ### The commands -/

theorem execSwitchReport_modes {b : Byte} {stop : Bool} (h : execSwitchReport b stop s = .next t) :
    ModesGo s.ticksWithin s t := by
  obtain rfl := Host.Outcome.next.inj h
  split
  · exact .refl s
  · split
    · exact (arrive_sameModes ..).go
    · exact .refl s

theorem execAwardEvaluation_modes (h : execAwardEvaluation s = .next t) : ModesGo s.ticksWithin s t := by
  obtain rfl := Host.Outcome.next.inj h
  split
  · next e rest _ =>
    have htaken : ModesGo s.ticksWithin s (s.takeHead rest) := (ModesGo.refl s).then_frame rfl rfl rfl
    exact .ite (.refl s) (htaken.evaluate id)
  · exact .refl s

theorem execTimerExpiry_modes {v : Fin 16} (h : execTimerExpiry v s = .next t) : ModesGo s.ticksWithin s t := by
  obtain rfl := Host.Outcome.next.inj h
  split
  · next r hr =>
    split
    · next hrun => exact .of_kept (.takeExpiry s.runs hr hrun.2) State.takeExpiry_gpc
    · exact .refl s
  · exact .refl s

theorem execLineEvent_modes {l : GameLine} {b : Bool} {n : Nat} (h : execLineEvent l b n s = .next t) :
    ModesGo s.ticksWithin s t := by
  obtain rfl := Host.Outcome.next.inj h
  exact .ite (.refl s) (.ite (setLine_modes s l b) (setLine_modes s l b).actOnLine)

theorem execReset_modes {n : Nat} {a b c : Bool} (h : execReset n a b c s = .next t) : ModesGo s.ticksWithin s t := by
  obtain rfl := Host.Outcome.next.inj h
  exact .ite (.refl s) (powerOn_modes s a b c)

theorem execEndGame_modes {p : List Byte} (h : execEndGame p s = .next t) : ModesGo s.ticksWithin s t := by
  refine .of_request ?_ h
  split
  · exact (ModesGo.refl s).endGame
  · exact .refl s

theorem execClearGame_modes {p : List Byte} (h : execClearGame p s = .next t) : ModesGo s.ticksWithin s t := by
  refine .of_request ?_ h
  split
  · next hg => exact clearGame_modes hg
  · exact .refl s

theorem setGameParams_sameModes (p : List Byte) (s : State) : ModesGo s.ticksWithin s (setGameParams p s).1 := by
  unfold setGameParams
  split
  · exact ⟨id, fun _ => id, fun _ _ _ => id, id⟩
  · exact .refl s

theorem setLockParams_sameModes (p : List Byte) (s : State) : s.SameModes (setLockParams p s).1 := by
  unfold setLockParams
  split <;> exact ⟨rfl, rfl, rfl⟩

/-- Every command but DEFINE_TEMPLATE keeps the laws of the stack and the timers whatever the templates. -/
theorem exec_modes {i : Instr} (hi : ∀ p, i ≠ .defineTemplate p) (h : exec i s = .next t) : ModesGo s.ticksWithin s t := by
  cases i with
  | switchReport b stop => exact execSwitchReport_modes h
  | awardEvaluation => exact execAwardEvaluation_modes h
  | tmuTick => obtain rfl := Host.Outcome.next.inj h; exact .of_kept (.tmuTick s) rfl
  | timerExpiry v => exact execTimerExpiry_modes h
  | bdtTick => obtain rfl := Host.Outcome.next.inj h; exact (ModesGo.refl s).then_frame rfl rfl rfl
  | ejectExpiry d => obtain rfl := Host.Outcome.next.inj h; exact .ite (ModesGo.refl s).ejectExpiry (.refl s)
  | lineEvent l b n => exact execLineEvent_modes h
  | reset n a b c => exact execReset_modes h
  | shortFrame b =>
    obtain rfl := Host.Outcome.next.inj h
    exact .ite ((ModesGo.refl s).then_frame rfl rfl rfl) (ModesGo.refl s).answer
  | unknownRequest c p =>
    obtain rfl := Host.Outcome.next.inj h
    exact .ite ((ModesGo.refl s).then_frame rfl rfl rfl) (ModesGo.refl s).answer
  | nop p => exact .of_read rfl h
  | readGame p => exact .of_read rfl h
  | readPlayer p => exact .of_read (readPlayer_state p s) h
  | writePlayer p => exact .of_request (writePlayer_sameModes p s).go h
  | adjustScore p => exact .of_request (.adjustScore p s) h
  | readCounter p => exact .of_read (readCounter_state p s) h
  | writeCounter p => exact .of_request (writeCounter_sameModes p s).go h
  | stageTarget p => exact .of_request (stageTarget_sameModes p s).go h
  | readQueue p => exact .of_read rfl h
  | injectSwitch p => exact .of_request (injectSwitch_sameModes p s).go h
  | readRule p => exact .of_read (readRule_state p s) h
  | startGame p => exact .of_request (startGame_modes s) h
  | addPlayer p => exact .of_request (addPlayer_sameModes s).go h
  | nextBall p => exact .of_request (nextBall_modes s) h
  | endGame p => exact execEndGame_modes h
  | clearGame p => exact execClearGame_modes h
  | setPlayfieldMult p => exact .of_request (.setPlayfieldMult p s) h
  | startMode p => exact .of_request (.of_kept (.startModeRequest s.runs) (startModeRequest_gpc p s)) h
  | stopMode p => exact .of_request (.of_kept (.stopMode p s) (stopMode_gpc p s)) h
  | readMode p => exact .of_read (readMode_state p s) h
  | retireMode p => exact .of_request (.of_kept (.retireMode p s) (retireMode_gpc p s)) h
  | adjustMode p => exact .of_request (.of_kept (.adjustMode p s) (adjustMode_gpc p s)) h
  | readStack p => exact .of_read rfl h
  | readDevice p => exact .of_read (readDevice_state p s) h
  | recount p => exact .of_request (.recount p s) h
  | clearDeviceFault p => exact .of_request (clearDeviceFault_sameModes p s).go h
  | lightLock p => exact .of_request (lightLock_sameModes s).go h
  | startMultiball p => exact .of_request (.startMultiballRequest s id) h
  | addBall p => exact .of_request (addBall_sameModes s).go h
  | allocTimer p => exact .of_request (.of_kept (.allocTimer p s) (allocTimer_gpc p s)) h
  | startTimer p => exact .of_request (.of_kept (.startTimer p s) (startTimer_gpc p s)) h
  | stopTimer p => exact .of_request (.of_kept (.stopTimer p s) (stopTimer_gpc p s)) h
  | freeTimer p => exact .of_request (.of_kept (.freeTimer p s) (freeTimer_gpc p s)) h
  | stagePeriod p => exact .of_request (.of_kept (.stagePeriod p s) (stagePeriod_gpc p s)) h
  | readTimer p => exact .of_read (readTimer_state p s) h
  | peekNotice p => exact .of_read rfl h
  | ackNotice p => exact .of_request (ackNotice_sameModes p s).go h
  | setNoticeEnable p => exact .of_request (setNoticeEnable_sameModes p s).go h
  | softReset p => exact .of_request (softReset_modes s) h
  | defineRule p => exact .of_request (defineRule_sameModes p s).go h
  | defineCounter p => exact .of_request (defineCounter_sameModes p s).go h
  | defineTemplate p => exact absurd rfl (hi p)
  | defineDevice p => exact .of_request (defineDevice_sameModes p s).go h
  | defineThresholds p => exact .of_request (defineThresholds_sameModes p s).go h
  | setGameParams p => exact .of_request (setGameParams_sameModes p s) h
  | setLockParams p => exact .of_request (setLockParams_sameModes p s).go h
  | readParams p => exact .of_read (readParams_state p s) h

/-! ### The parameters' bounds (R125, R166) -/

theorem State.ticksWithin.of_params (h : s.ticksWithin) (hg : t.gpc.params = s.gpc.params)
    (hl : t.lmc.params = s.lmc.params) : t.ticksWithin := by
  rw [State.ticksWithin, hg, hl]
  exact h

theorem Keeps.ticksWithin (h : Keeps s t) (hs : s.ticksWithin) : t.ticksWithin :=
  hs.of_params (congrArg Gpc.params (a₁ := { t.gpc with game := s.gpc.game }) h.gpc) h.params

theorem State.ticksWithin.of_request {code : Byte} {config : Bool} {takes : Nat} {owner : State → State × Reply}
    {p : List Byte} (h : s.ticksWithin) (ho : (owner s).1.ticksWithin)
    (hr : takeRequest code config takes owner p s = .next t) : t.ticksWithin := by
  rcases takeRequest_cases hr with rfl | ⟨st, rfl⟩ | ⟨-, rfl⟩
  · exact h
  · exact h
  · exact ho

theorem State.ticksWithin.tiltBall (h : s.ticksWithin) : s.tiltBall.ticksWithin := by
  unfold State.tiltBall
  split
  · exact h
  · exact h.of_params (by simp) (by simp)

theorem State.ticksWithin.actOnLine (h : s.ticksWithin) : s.actOnLine.ticksWithin := by
  have hslam (hg : s.gpc.game ≠ .idle) : s.endGame.clearClaims.ticksWithin :=
    ((Keeps.refl s).endGame hg).clearClaims.ticksWithin h
  unfold State.actOnLine
  split
  · exact h.tiltBall
  · exact h.tiltBall
  · next hg => exact hslam (by rw [hg]; nofun)
  · next hg => exact hslam (by rw [hg]; nofun)
  · next hg => exact hslam (by rw [hg]; nofun)
  · exact h

theorem State.ticksWithin.beginGame (h : s.ticksWithin) : s.beginGame.ticksWithin := by
  obtain ⟨-, -, -, hl, hg⟩ := s.gameBegun_fields
  have hbegun : s.gameBegun.ticksWithin := h.of_params (by rw [hg]) (by rw [hl])
  exact (Keeps.requestEject (.refl _)).ticksWithin hbegun

theorem State.ticksWithin.nextBall (h : s.ticksWithin) (hg : s.gpc.game = .ballOver) : s.nextBall.ticksWithin := by
  have hspent := s.spendExtraBall_keeps.ticksWithin h
  have hgame : s.spendExtraBall.gpc.game = .ballOver := by simpa [State.spendExtraBall] using hg
  unfold State.nextBall
  dsimp only
  split
  · exact (finishGame_keeps hgame).ticksWithin hspent
  · rw [State.continueGame_eq]
    exact hspent.of_params (by simp [State.rotated, State.clearTilt_gpc]) (by simp [State.rotated])

theorem exec_ticksWithin {i : Instr} (h : exec i s = .next t) (hs : s.ticksWithin) : t.ticksWithin := by
  by_cases hi : isPlay i = true
  · exact (exec_keeps hi h).ticksWithin hs
  cases i with
  | lineEvent l b n =>
    obtain rfl := Host.Outcome.next.inj h
    have hline : (s.setLine l b).ticksWithin := by cases l <;> exact hs
    split
    · exact hs
    · split
      · exact hline
      · exact hline.actOnLine
  | reset n a b c =>
    obtain rfl := Host.Outcome.next.inj h
    split
    · exact hs
    · exact (by decide : State.reset.gpc.params.ballSaveTicks ≤ 65535 ∧ State.reset.lmc.params.mbSaveTicks ≤ 65535)
  | ackNotice p =>
    refine hs.of_request ?_ h
    unfold ackNotice
    split
    · exact hs
    · split <;> exact hs
  | setNoticeEnable p =>
    refine hs.of_request ?_ h
    unfold setNoticeEnable
    split <;> exact hs
  | startGame p =>
    refine hs.of_request ?_ h
    unfold startGame
    split
    · exact hs
    · exact hs.beginGame
  | addPlayer p =>
    refine hs.of_request ?_ h
    unfold addPlayer
    split
    · split <;> exact hs
    · exact hs
  | nextBall p =>
    refine hs.of_request ?_ h
    unfold nextBall
    split
    · next hg => exact hs.nextBall hg
    · exact hs
  | clearGame p =>
    refine hs.of_request ?_ h
    split <;> exact hs
  | softReset p => exact hs.of_request (owner := fun s => (s.softReset, .bare .ok)) hs h
  | defineCounter p =>
    refine hs.of_request ?_ h
    unfold defineCounter
    split
    · next c _ _ _ _ _ => cases c <;> exact hs
    · exact hs
  | defineTemplate p =>
    refine hs.of_request ?_ h
    unfold defineTemplate
    split <;> exact hs
  | setGameParams p =>
    refine hs.of_request ?_ h
    unfold setGameParams
    split
    · next x hx => exact ⟨(gameParams?_inRange hx).2.2, hs.2⟩
    · exact hs
  | setLockParams p =>
    refine hs.of_request ?_ h
    unfold setLockParams
    split
    · next x hx => exact ⟨hs.1, (lockParams?_inRange hx).2⟩
    · exact hs
  | _ => exact absurd rfl hi

/-! ### DEFINE_TEMPLATE, taken where every slot is FREE (R75, R76) -/

theorem defineTemplate_laws (hi : s.gpc.game = .idle) (p : List Byte) : LawsKept s (defineTemplate p s).1 := by
  unfold defineTemplate
  split
  · next i x _ hx =>
    dsimp only
    have hmodes (hm : ModeLaw s) : ModeLaw { s with mst := { s.mst with templates := s.mst.templates.set i.val x i.isLt } } := by
      obtain ⟨hfits, hidle⟩ := modeLaw_iff.mp hm
      have hslots := hidle hi
      have hnone {y : Fin 12} {c : Context} (hc : s.mst.slots[y] = some c) : False := nomatch (hslots y).symm.trans hc
      have hstack : s.mst.stack = [] := List.eq_nil_iff_forall_not_mem.mpr fun y hy => by
        obtain ⟨c, hc, -⟩ := (hfits.stack y).mp hy
        exact hnone hc
      refine modeLaw_iff.mpr ⟨⟨hfits.stackNodup, hfits.pauseNodup, hfits.endedNodup, hfits.stack, hfits.pause, hfits.ended,
        ?_, fun _ _ hc => (hnone hc).elim, hfits.owner, hfits.standing, fun _ _ _ _ hc => (hnone hc).elim⟩, fun _ => hslots⟩
      simp only [hstack]
      exact .nil
    have hnone (hm : ModeLaw s) {y : Fin 12} {c : Context} (hc : s.mst.slots[y] = some c) : False :=
      nomatch ((modeLaw_iff.mp hm).2 hi y).symm.trans hc
    refine ⟨hmodes, fun hm ht => (timerLaw_iff (hmodes hm)).mpr ?_, fun hm ht hc => countLaw_iff.mpr ?_⟩
    · have htimed := (timerLaw_iff hm).mp ht
      exact ⟨fun _ _ _ hc => (hnone hm hc).elim, htimed.bound, htimed.frozen, htimed.back, htimed.unique⟩
    · obtain ⟨hcounted, hbounds⟩ := countLaw_iff.mp hc
      refine ⟨⟨hcounted.timers, fun j tm hj n hn => ?_, fun _ _ hc => (hnone hm hc).elim⟩, hbounds⟩
      by_cases hji : j = i
      · subst hji
        have hat : (s.mst.templates.set j.val x j.isLt)[j] = x := Vector.getElem_set_self j.isLt
        exact templateEntry?_period hx (hat.symm.trans hj) hn
      · have hat : (s.mst.templates.set i.val x i.isLt)[j] = s.mst.templates[j] :=
          Vector.getElem_set_ne i.isLt j.isLt fun e => hji (Fin.ext e.symm)
        exact hcounted.periods j tm (hat.symm.trans hj) n hn
  · exact ⟨id, fun _ => id, fun _ _ => id⟩

theorem exec_laws {i : Instr} (h : exec i s = .next t) : LawsKept s t := by
  by_cases hi : ∀ p, i ≠ .defineTemplate p
  · exact (exec_modes hi h).laws (exec_ticksWithin h)
  · obtain ⟨p, hp⟩ := not_forall.mp hi
    obtain rfl := not_not.mp hp
    rcases takeRequest_cases h with rfl | ⟨st, rfl⟩ | ⟨hidle, rfl⟩
    · exact ⟨id, fun _ => id, fun _ _ => id⟩
    · exact ⟨id, fun _ => id, fun _ _ => id⟩
    · exact (defineTemplate_laws (hidle rfl) p).trans ⟨id, fun _ => id, fun _ _ => id⟩

theorem step_laws (h : step s = .next t) : LawsKept s t := by
  rcases step_cases h with rfl | ⟨i, rest, -, h⟩
  · exact ⟨id, fun _ => id, fun _ _ => id⟩
  · exact LawsKept.trans (t := { s with pending := rest }) ⟨id, fun _ => id, fun _ _ => id⟩ (exec_laws h)

end

/-- Settles O14: the law of the mode stack is kept by every operation of every command. -/
theorem stepsKeepTheModeLaw : Obligations.StepsKeepTheModeLaw := fun _ _ hm h => (step_laws h).modes hm

/-- Settles O15: where the stack is lawful the law of the timers is kept, and with it the ranges of the counts. -/
theorem stepsKeepTheTimerLaw : Obligations.StepsKeepTheTimerLaw :=
  ⟨fun _ _ hm ht h => (step_laws h).timers hm ht, fun _ _ hm ht hc h => (step_laws h).counts hm ht hc⟩

end Sys2Proof.Machine
end

section
/-! PROOFS. O13: the law of the devices, and the balls conserved while the tracking state is OK (R106, R107). -/

namespace Sys2Proof.Machine

/-! ### The law of one device -/

/-- The law of device d with record r and a claim list of length k. -/
structure Device.Lawful (d : Fin 6) (r : Device) (k : Nat) : Prop where
  inRange : ∀ x ∈ r.definition, x.InRange d
  claims : k ≤ r.occupancy
  pending : r.ejectPending ≤ r.occupancy
  capacity : r.occupancy ≤ r.capacity
  faulted : r.faulted = true → r.ejectPending = 0
  runs : r.ejectPending = 0 ↔ r.ejectTimer = none
  ticks : ∀ n ∈ r.ejectTimer, 1 ≤ n ∧ n ≤ 500
  retries : r.retries ≤ 3
  replaced : r.replaced ≤ 6

theorem Device.lawful_iff {d : Fin 6} {r : Device} {k : Nat} : r.Lawful d k ↔
    (∀ x ∈ r.definition, x.InRange d) ∧ k ≤ r.occupancy ∧ r.ejectPending ≤ r.occupancy ∧ r.occupancy ≤ r.capacity ∧
      (r.faulted = true → r.ejectPending = 0) ∧ (r.ejectPending = 0 ↔ r.ejectTimer = none) ∧
      (∀ n ∈ r.ejectTimer, 1 ≤ n ∧ n ≤ 500) ∧ r.retries ≤ 3 ∧ r.replaced ≤ 6 :=
  ⟨fun ⟨h1, h2, h3, h4, h5, h6, h7, h8, h9⟩ => ⟨h1, h2, h3, h4, h5, h6, h7, h8, h9⟩,
    fun ⟨h1, h2, h3, h4, h5, h6, h7, h8, h9⟩ => ⟨h1, h2, h3, h4, h5, h6, h7, h8, h9⟩⟩

theorem deviceLaw_iff {s : State} : DeviceLaw s ↔
    s.bdt.ballsInPlay ≤ 12 ∧ ∀ d : Fin 6, (s.device d).Lawful d (s.claimsOf d).length :=
  and_congr_right fun _ => forall_congr' fun _ => Device.lawful_iff.symm

section
variable {d : Fin 6} {r : Device} {k n : Nat}

/-- A device that may hold a ball is defined, its timeout in range (R103). -/
theorem Device.timeout_inRange (hr : ∀ x ∈ r.definition, x.InRange d) (h : 0 < r.capacity) :
    r.capacity ≤ (if d = 0 then 12 else 6) ∧ 1 ≤ r.timeout ∧ r.timeout ≤ 500 := by
  cases hx : r.definition with
  | none =>
    rw [Device.capacity, hx] at h
    exact absurd h (Nat.lt_irrefl 0)
  | some x =>
    obtain ⟨-, h2, h3, h4⟩ := hr x hx
    rw [Device.capacity, Device.timeout, hx]
    exact ⟨h2, by simp only [Option.map_some, Option.getD_some]; omega, h4⟩

theorem Device.Lawful.of_claims {j : Nat} (h : r.Lawful d k) (hj : j ≤ k) : r.Lawful d j :=
  { h with claims := hj.trans h.claims }

theorem Device.adds_ready_of_pos (h : 0 < r.adds n) : r.faulted = false := by
  unfold Device.adds at h
  split at h
  · next hr => exact hr.2
  · exact absurd h (Nat.lt_irrefl 0)

/-- An eject request from 0 (R116). -/
theorem Device.Lawful.asked (h : r.Lawful d k) (hn : 0 < r.adds n) (hp : r.ejectPending = 0) :
    Device.Lawful d { r with ejectPending := r.adds n, retries := 0, ejectTimer := some r.timeout } k := by
  have hle := (r.adds_le n).2
  have hcap : 0 < r.capacity := by have := h.capacity; omega
  exact {
    inRange := h.inRange
    claims := h.claims
    pending := by dsimp only; omega
    capacity := h.capacity
    faulted := fun hf => absurd ((Device.adds_ready_of_pos hn).symm.trans hf) nofun
    runs := ⟨fun h0 => absurd h0 hn.ne', nofun⟩
    ticks := fun m hm => Option.some.inj hm ▸ (Device.timeout_inRange h.inRange hcap).2
    retries := Nat.zero_le _
    replaced := h.replaced }

/-- An eject request added to those that stand (R116). -/
theorem Device.Lawful.askedMore (h : r.Lawful d k) (hn : 0 < r.adds n) (hp : 0 < r.ejectPending) :
    Device.Lawful d { r with ejectPending := r.ejectPending + r.adds n } k := by
  have hle := (r.adds_le n).2
  have hpend := h.pending
  exact { h with
    pending := by dsimp only; omega
    faulted := fun hf => absurd ((Device.adds_ready_of_pos hn).symm.trans hf) nofun
    runs := ⟨fun h0 => by dsimp only at h0; omega, fun ht => absurd (h.runs.mpr ht) hp.ne'⟩ }

/-- A ball counted in (R109). -/
theorem Device.Lawful.entered (h : r.Lawful d k) (hroom : r.occupancy < r.capacity) :
    Device.Lawful d { r with occupancy := r.occupancy + 1 } k :=
  { h with
    claims := h.claims.trans (Nat.le_succ _)
    pending := h.pending.trans (Nat.le_succ _)
    capacity := hroom }

/-- A count down of the eject timer (R106). -/
theorem Device.Lawful.lower (h : r.Lawful d k) : r.lower.Lawful d k :=
  { h with
    runs := h.runs.trans Option.map_eq_none_iff.symm
    ticks := fun m hm => by
      obtain ⟨n, hn, rfl⟩ := Option.map_eq_some_iff.mp hm
      have := h.ticks n hn
      split <;> omega }

/-- The eject timer restarted at an expiry (R117). -/
theorem Device.Lawful.retried (h : r.Lawful d k) (hp : 0 < r.ejectPending) (hr : r.retries < 2) :
    Device.Lawful d { r with retries := r.retries + 1, ejectTimer := some r.timeout } k := by
  have hcap : 0 < r.capacity := by have := h.capacity; have := h.pending; omega
  exact { h with
    runs := ⟨fun h0 => absurd h0 hp.ne', nofun⟩
    ticks := fun m hm => Option.some.inj hm ▸ (Device.timeout_inRange h.inRange hcap).2
    retries := by dsimp only; omega }

theorem Device.Lawful.failed (h : r.Lawful d k) :
    Device.Lawful d { r with faulted := true, retries := 3, ejectTimer := none, ejectPending := 0 } k :=
  { h with
    pending := Nat.zero_le _
    faulted := fun _ => rfl
    runs := ⟨fun _ => rfl, fun _ => rfl⟩
    ticks := nofun
    retries := Nat.le_refl 3 }

theorem Device.Lawful.setReplaced (h : r.Lawful d k) (hn : n ≤ 6) : Device.Lawful d { r with replaced := n } k :=
  { h with replaced := hn }

theorem Device.Lawful.cleared (h : r.Lawful d k) :
    Device.Lawful d { r with faulted := false, retries := 0, replaced := 0 } k :=
  { h with faulted := nofun, retries := Nat.zero_le _, replaced := Nat.zero_le _ }

theorem Device.Lawful.softReset (h : r.Lawful d k) : r.softReset.Lawful d 0 :=
  { h with
    claims := Nat.zero_le _
    pending := Nat.zero_le _
    faulted := nofun
    runs := ⟨fun _ => rfl, fun _ => rfl⟩
    ticks := nofun
    retries := Nat.zero_le _
    replaced := Nat.zero_le _ }

/-- A recount within the capacity (R121). -/
theorem Device.Lawful.recount {j : Nat} (h : r.Lawful d k) (hn : n ≤ r.capacity) (hj : j ≤ n) : (r.recount n).Lawful d j := by
  unfold Device.recount
  split
  · next hle => exact { h with claims := hj, pending := hle, capacity := hn }
  · next hgt =>
    split
    · next h0 =>
      exact { h with
        claims := by dsimp only; omega
        pending := Nat.le_refl 0
        capacity := Nat.zero_le _
        faulted := fun _ => rfl
        runs := ⟨fun _ => rfl, fun _ => rfl⟩
        ticks := nofun
        retries := Nat.zero_le _ }
    · next h0 =>
      have hpend : r.ejectPending ≠ 0 := by omega
      exact { h with
        claims := hj
        pending := Nat.le_refl n
        capacity := hn
        faulted := fun hf => absurd (h.faulted hf) hpend
        runs := ⟨fun e => absurd e h0, fun ht => absurd (h.runs.mpr ht) hpend⟩ }

theorem Device.recount_occupancy : (r.recount n).occupancy = n := by
  unfold Device.recount
  split
  · rfl
  · split
    · next h0 => exact h0.symm
    · rfl

/-- One replacement launch cancelled (R113). -/
theorem Device.Lawful.cancelled (h : r.Lawful d k) (hp : r.ejectPending ≠ 0) :
    Device.Lawful d { r with
      ejectPending := r.ejectPending - 1
      ejectTimer := if r.ejectPending = 1 then none else r.ejectTimer } k := by
  have hpend := h.pending
  refine { h with
    pending := by dsimp only; omega
    faulted := fun hf => absurd (h.faulted hf) hp
    runs := ?_
    ticks := fun m hm => ?_ }
  · dsimp only
    split
    · next h1 => exact ⟨fun _ => rfl, fun _ => by omega⟩
    · next h1 => exact ⟨fun e => absurd e (by omega), fun ht => absurd (h.runs.mpr ht) hp⟩
  · dsimp only at hm
    split at hm
    · nomatch hm
    · exact h.ticks m hm

/-- A device out of which a ball has been counted, its claims looked at, the eject that may have sent it not confirmed
yet (R112, R133). -/
structure Device.Leaving (d : Fin 6) (r : Device) (k : Nat) : Prop where
  inRange : ∀ x ∈ r.definition, x.InRange d
  claims : k ≤ r.occupancy
  pending : r.ejectPending ≤ r.occupancy + 1
  capacity : r.occupancy ≤ r.capacity
  faulted : r.faulted = true → r.ejectPending = 0
  runs : r.ejectPending = 0 ↔ r.ejectTimer = none
  ticks : ∀ n ∈ r.ejectTimer, 1 ≤ n ∧ n ≤ 500
  retries : r.retries ≤ 3
  replaced : r.replaced ≤ 6

theorem Device.Lawful.left {j : Nat} (h : r.Lawful d k) (hj : j ≤ r.occupancy - 1) :
    Device.Leaving d { r with occupancy := r.occupancy - 1 } j :=
  { h with
    claims := hj
    pending := by have := h.pending; dsimp only; omega
    capacity := (Nat.sub_le ..).trans h.capacity }

theorem Device.Leaving.lawful (h : r.Leaving d k) (hp : r.ejectPending = 0) : r.Lawful d k :=
  { h with pending := hp ▸ Nat.zero_le _ }

/-- The last eject confirmed (R113). -/
theorem Device.Leaving.confirmedLast (h : r.Leaving d k) :
    Device.Lawful d { r with ejectPending := 0, retries := 0, ejectTimer := none } k :=
  { h with
    pending := Nat.zero_le _
    faulted := fun _ => rfl
    runs := ⟨fun _ => rfl, fun _ => rfl⟩
    ticks := nofun
    retries := Nat.zero_le _ }

theorem Device.Leaving.confirmed (h : r.Leaving d k) (hp : 1 < r.ejectPending) :
    Device.Lawful d { r with ejectPending := r.ejectPending - 1, retries := 0, ejectTimer := some r.timeout } k := by
  have hpend := h.pending
  have hcap : 0 < r.capacity := by have := h.capacity; omega
  exact { h with
    pending := by dsimp only; omega
    faulted := fun hf => absurd (h.faulted hf) (by omega)
    runs := ⟨fun h0 => by dsimp only at h0; omega, nofun⟩
    ticks := fun m hm => Option.some.inj hm ▸ (Device.timeout_inRange h.inRange hcap).2
    retries := Nat.zero_le _ }

end

/-! ### The law of all devices, and the balls -/

/-- The law of the devices and the conservation of the balls, each kept on its own. -/
structure BallsKept (s t : State) : Prop where
  devices : DeviceLaw s → DeviceLaw t
  balls : BallLaw s → BallLaw t

section
variable {s t u : State} {d : Fin 6} {n : Nat}

theorem BallsKept.refl (s : State) : BallsKept s s := ⟨id, id⟩

theorem BallsKept.trans (h : BallsKept s t) (h' : BallsKept t u) : BallsKept s u :=
  ⟨h'.devices ∘ h.devices, h'.balls ∘ h.balls⟩

theorem BallsKept.ite {c : Prop} [Decidable c] (h : BallsKept s t) (h' : BallsKept s u) :
    BallsKept s (if c then t else u) := by split <;> assumption

/-- Operations that leave the devices, the balls and the claims alone. -/
theorem BallsKept.then_frame (h : BallsKept s t) (hb : u.bdt = t.bdt := by simp)
    (hc : u.lmc.claims = t.lmc.claims := by simp) (hp : u.gpc.params = t.gpc.params := by simp) : BallsKept s u := by
  refine h.trans ⟨fun hl => ?_, fun hl => ?_⟩
  · rw [DeviceLaw] at hl ⊢
    simp only [State.device, State.claimsOf, hb, hc] at hl ⊢
    exact hl
  · rw [BallLaw] at hl ⊢
    simp only [State.heldBalls, hb, hp] at hl ⊢
    exact hl

theorem State.heldBalls_congr (h : ∀ c : Fin 6, (t.device c).occupancy = (s.device c).occupancy) :
    t.heldBalls = s.heldBalls :=
  congrArg List.sum (List.map_congr_left fun c _ => h c)

/-- One device's occupancy changed, the sum follows it. -/
theorem State.heldBalls_changed (h : ∀ c : Fin 6, c ≠ d → (t.device c).occupancy = (s.device c).occupancy) :
    t.heldBalls + (s.device d).occupancy = s.heldBalls + (t.device d).occupancy := by
  have hsum (v : State) : v.heldBalls =
      (v.device d).occupancy + ∑ c ∈ Finset.univ.erase d, (v.device c).occupancy := by
    rw [Finset.add_sum_erase _ (fun c => (v.device c).occupancy) (Finset.mem_univ d), Fin.sum_univ_def]
    rfl
  rw [hsum t, hsum s, Finset.sum_congr rfl fun c hc => h c (Finset.ne_of_mem_erase hc)]
  omega

theorem State.modifyDevice_same (f : Device → Device) : (s.modifyDevice d f).device d = f (s.device d) :=
  Vector.getElem_set_self d.isLt

theorem State.modifyDevice_other {c : Fin 6} (f : Device → Device) (h : c ≠ d) :
    (s.modifyDevice d f).device c = s.device c :=
  Vector.getElem_set_ne d.isLt c.isLt fun e => h (Fin.ext e.symm)

theorem State.modifyDevice_cases {c : Fin 6} {P : Device → Prop} {f : Device → Device} (hsame : c = d → P (f (s.device d)))
    (hother : c ≠ d → P (s.device c)) : P ((s.modifyDevice d f).device c) := by
  by_cases h : c = d
  · subst h
    rw [State.modifyDevice_same f]
    exact hsame rfl
  · rw [State.modifyDevice_other f h]
    exact hother h

/-- A device's record changed within its law, its occupancy kept. -/
theorem BallsKept.modifyDevice {f : Device → Device} (h : BallsKept s t)
    (hf : DeviceLaw s → (t.device d).Lawful d (t.claimsOf d).length → (f (t.device d)).Lawful d (t.claimsOf d).length)
    (ho : (f (t.device d)).occupancy = (t.device d).occupancy) : BallsKept s (t.modifyDevice d f) := by
  refine ⟨fun hs => ?_, fun hs ht => ?_⟩
  · obtain ⟨hplay, hl⟩ := deviceLaw_iff.mp (h.devices hs)
    exact deviceLaw_iff.mpr ⟨hplay, fun c => State.modifyDevice_cases (P := fun r => r.Lawful c (t.claimsOf c).length)
      (fun e => e ▸ hf hs (hl d)) fun _ => hl c⟩
  · have hheld : (t.modifyDevice d f).heldBalls = t.heldBalls := State.heldBalls_congr fun c =>
      State.modifyDevice_cases (P := fun r => r.occupancy = (t.device c).occupancy) (fun e => e ▸ ho) fun _ => rfl
    rw [hheld]
    exact h.balls hs ht

/-- After a fault nothing is claimed of the sum (R108). -/
theorem BallsKept.trackingFault (h : BallsKept s t) : BallsKept s t.trackingFault :=
  h.trans ⟨id, fun _ ht => nomatch ht⟩

theorem State.requestEject_other {c : Fin 6} (h : c ≠ d) : (s.requestEject d n).1.device c = s.device c := by
  rcases s.requestEject_cases d n with ⟨-, he⟩ | ⟨-, -, he⟩ | ⟨-, -, he⟩ <;> rw [he]
  · exact State.withDevice_other _ h
  · exact State.withDevice_other _ h

theorem BallsKept.requestEject (h : BallsKept s t) : BallsKept s (t.requestEject d n).1 := by
  rcases t.requestEject_cases d n with ⟨-, he⟩ | ⟨hn, hp, he⟩ | ⟨hn, hp, he⟩ <;> rw [he]
  · exact h
  · have hasked : BallsKept s (t.modifyDevice d fun r =>
        { r with ejectPending := r.adds n, retries := 0, ejectTimer := some r.timeout }) :=
      h.modifyDevice (fun _ hl => hl.asked hn hp) rfl
    exact hasked.then_frame rfl rfl rfl
  · exact h.modifyDevice (f := fun r => { r with ejectPending := r.ejectPending + r.adds n })
      (fun _ hl => hl.askedMore hn hp) rfl

/-- Claim lists that lose claims. -/
theorem BallsKept.setClaims {l : List Nat} (h : BallsKept s t) (hl : l.length ≤ (t.claimsOf d).length) :
    BallsKept s (t.setClaims d l) := by
  refine h.trans ⟨fun hd => ?_, id⟩
  obtain ⟨hplay, hd⟩ := deviceLaw_iff.mp hd
  refine deviceLaw_iff.mpr ⟨hplay, fun c => ?_⟩
  by_cases hc : c = d
  · subst hc
    have hat : (t.setClaims c l).claimsOf c = l := Vector.getElem_set_self c.isLt
    rw [hat]
    exact (hd c).of_claims hl
  · have hat : (t.setClaims d l).claimsOf c = t.claimsOf c :=
      Vector.getElem_set_ne d.isLt c.isLt fun e => hc (Fin.ext e.symm)
    rw [hat]
    exact hd c

theorem BallsKept.claims_update {l : Vector (List Nat) 6} (h : BallsKept s t)
    (hl : ∀ c : Fin 6, (l[c]).length ≤ (t.claimsOf c).length) :
    BallsKept s { t with lmc := { t.lmc with claims := l } } := by
  refine h.trans ⟨fun hd => ?_, id⟩
  obtain ⟨hplay, hd⟩ := deviceLaw_iff.mp hd
  exact deviceLaw_iff.mpr ⟨hplay, fun c => (hd c).of_claims (hl c)⟩

theorem BallsKept.clearClaims (h : BallsKept s t) : BallsKept s t.clearClaims :=
  h.claims_update fun c => by simp

/-! ### What leaves the claims alone -/

@[simp] theorem State.endMultiball_claims : s.endMultiball.lmc.claims = s.lmc.claims := by simp [State.endMultiball]

@[simp] theorem State.multiballCheck_claims : s.multiballCheck.lmc.claims = s.lmc.claims := by
  unfold State.multiballCheck
  split <;> simp

@[simp] theorem State.stopMultiball_claims : s.stopMultiball.lmc.claims = s.lmc.claims := by
  unfold State.stopMultiball
  split <;> simp

theorem State.ballClosed_claims : s.ballClosed.lmc.claims = s.lmc.claims := by
  unfold State.ballClosed
  dsimp only
  split <;> split <;> simp

@[simp] theorem State.ballEnd_claims : s.ballEnd.lmc.claims = s.lmc.claims := by
  rw [State.ballEnd_eq, State.ballReset]
  simp [State.ballClosed_claims]

@[simp] theorem State.ballEnd_params : s.ballEnd.gpc.params = s.gpc.params := by
  rw [State.ballEnd_eq, State.ballReset_gpc]
  simp [State.ballClosed_gpc]

@[simp] theorem State.endGame_claims : s.endGame.lmc.claims = s.lmc.claims := by simp [State.endGame]

@[simp] theorem State.endGame_params : s.endGame.gpc.params = s.gpc.params := by simp [State.endGame]

@[simp] theorem State.collectJackpot_claims (b : Bool) : (s.collectJackpot b).lmc.claims = s.lmc.claims := by
  unfold State.collectJackpot
  split <;> simp

@[simp] theorem State.performAward_claims (k : Nat) (a : Award) : (s.performAward k a).lmc.claims = s.lmc.claims := by
  cases a <;> simp [State.performAward]

@[simp] theorem State.baseAwards_claims (k : Nat) (l : List Award) : (s.baseAwards k l).lmc.claims = s.lmc.claims :=
  foldl_keeps (fun t : State => t.lmc.claims = s.lmc.claims) _ (fun t a h => by simpa using h) l s rfl

@[simp] theorem State.scoreHit_claims (g : Fin 16) (k : Nat) (l : List Award) (a : List (Fin 12)) :
    (s.scoreHit g k l a).lmc.claims = s.lmc.claims := by
  unfold State.scoreHit
  dsimp only
  split <;> simp

@[simp] theorem State.completeStart_claims (p : Nat) : (s.completeStart p).lmc.claims = s.lmc.claims := by
  rw [State.completeStart_eq]
  split <;> simp [State.multiballOn]

/-! ### Entries, drains and exits (R109 to R119, R136) -/

theorem BallsKept.ballEndCheck (h : BallsKept s t) : BallsKept s t.ballEndCheck := .ite h.then_frame h

theorem BallsKept.ballEndCheckInPlay (h : BallsKept s t) : BallsKept s t.ballEndCheckInPlay := .ite h.ballEndCheck h

theorem BallsKept.saveStep (h : BallsKept s t) : BallsKept s t.saveStep := by
  have hsaved : BallsKept s ((t.requestEject 0 1).1.raise .ballSaved) :=
    (h.requestEject (d := 0) (n := 1)).then_frame
  unfold State.saveStep
  split
  · exact .ite hsaved hsaved.then_frame
  · exact h

theorem BallsKept.drain (h : BallsKept s t) : BallsKept s t.drain :=
  BallsKept.ballEndCheck (BallsKept.then_frame h.saveStep)

theorem Sourcing.takeClaims_ballsKept {p : Nat} {mine : Bool} {l : List Nat} {x : Sourcing} (h : BallsKept s x.state) :
    BallsKept s (x.takeClaims d p mine l).1.state ∧ (x.takeClaims d p mine l).2.length ≤ l.length := by
  induction l generalizing x with
  | nil => exact ⟨h, Nat.le_refl _⟩
  | cons o l ih =>
    unfold Sourcing.takeClaims
    split
    · dsimp only
      have hlost : BallsKept s (if mine then x else { x with state := x.state.loseLock d o }).state := by
        cases mine
        · exact h.then_frame
        · exact h
      obtain ⟨h1, h2⟩ := ih (x := (if mine then x else { x with state := x.state.loseLock d o }).request d 1)
        hlost.requestEject
      exact ⟨h1, h2.trans (Nat.le_succ _)⟩
    · obtain ⟨h1, h2⟩ := ih h
      exact ⟨h1, Nat.succ_le_succ h2⟩

theorem Sourcing.takeClaims_lmc {p : Nat} {mine : Bool} {l : List Nat} {x : Sourcing} :
    (x.takeClaims d p mine l).1.state.lmc = x.state.lmc := by
  induction l generalizing x with
  | nil => rfl
  | cons o l ih =>
    unfold Sourcing.takeClaims
    split
    · rw [ih]
      cases mine <;> simp [Sourcing.request]
    · exact ih

theorem Sourcing.claimsStep_ballsKept {p : Nat} {mine : Bool} {x : Sourcing} (h : BallsKept s x.state) :
    BallsKept s (x.claimsStep p mine d).state := by
  obtain ⟨h1, h2⟩ := Sourcing.takeClaims_ballsKept (d := d) (p := p) (mine := mine) (l := x.state.claimsOf d) h
  refine h1.setClaims (h2.trans (Nat.le_of_eq ?_))
  rw [State.claimsOf, State.claimsOf, Sourcing.takeClaims_lmc]

theorem Sourcing.stockStep_ballsKept {x : Sourcing} (h : BallsKept s x.state) : BallsKept s (x.stockStep d).state := by
  unfold Sourcing.stockStep
  dsimp only
  split
  · exact h.requestEject
  · exact h

theorem Sourcing.troughStep_ballsKept {x : Sourcing} (h : BallsKept s x.state) : BallsKept s x.troughStep.state := by
  unfold Sourcing.troughStep
  split
  · exact h.requestEject
  · exact h

theorem BallsKept.source {p : Nat} (h : BallsKept s t) : BallsKept s (t.source p n).state := by
  have fold : ∀ (f : Sourcing → Fin 6 → Sourcing), (∀ (x : Sourcing) d, BallsKept s x.state → BallsKept s (f x d).state) →
      ∀ x : Sourcing, BallsKept s x.state → BallsKept s (lockDevices.foldl f x).state :=
    fun f hf x hx => foldl_keeps (fun x : Sourcing => BallsKept s x.state) f hf _ x hx
  have h1 := fold (Sourcing.claimsStep p true) (fun _ _ => Sourcing.claimsStep_ballsKept) ⟨t, n, 0⟩ h
  have h2 := fold Sourcing.stockStep (fun _ _ => Sourcing.stockStep_ballsKept) _ h1
  have h3 := fold (Sourcing.claimsStep p false) (fun _ _ => Sourcing.claimsStep_ballsKept) _ h2
  refine (Sourcing.troughStep_ballsKept h3).claims_update fun c => ?_
  have hat (v : Vector (List Nat) 6) (f : List Nat → List Nat) : (mapTable f v)[c] = f v[c] := by simp [mapTable]
  rw [hat]
  exact List.length_filter_le ..

theorem BallsKept.completeStart {p : Nat} (h : BallsKept s t) : BallsKept s (t.completeStart p) := h.then_frame

theorem BallsKept.startMultiball {p : Nat} (h : BallsKept s t) : BallsKept s (t.startMultiball p).1 :=
  h.source.completeStart

theorem BallsKept.afterLock {p : Nat} (h : BallsKept s t) : BallsKept s (t.afterLock d p) := by
  unfold State.afterLock
  exact h.startMultiball.ite (h.requestEject.ite ((h.requestEject.ballEndCheck.ite h.requestEject).ite h))

/-- A claim added where the balls in the device exceed the claims. -/
theorem BallsKept.claimAdded {p : Nat} (h : BallsKept s t)
    (hroom : DeviceLaw s → (t.claimsOf d).length < (t.device d).occupancy) :
    BallsKept s (t.setClaims d (t.claimsOf d ++ [p])) := by
  refine ⟨fun hs => ?_, h.balls⟩
  obtain ⟨hplay, hd⟩ := deviceLaw_iff.mp (h.devices hs)
  refine deviceLaw_iff.mpr ⟨hplay, fun c => ?_⟩
  by_cases hc : c = d
  · subst hc
    have hat : (t.setClaims c (t.claimsOf c ++ [p])).claimsOf c = t.claimsOf c ++ [p] := Vector.getElem_set_self c.isLt
    rw [hat, List.length_append]
    exact { hd c with claims := hroom hs }
  · have hat : (t.setClaims d (t.claimsOf d ++ [p])).claimsOf c = t.claimsOf c :=
      Vector.getElem_set_ne d.isLt c.isLt fun e => hc (Fin.ext e.symm)
    rw [hat]
    exact hd c

theorem BallsKept.lockEntry (h : BallsKept s t)
    (hroom : DeviceLaw s → (t.claimsOf d).length < (t.device d).occupancy) : BallsKept s (t.lockEntry d) := by
  unfold State.lockEntry
  refine BallsKept.ite ?_ (h.ite (h.ballEndCheckInPlay.ite h.requestEject))
  have hclaim := h.claimAdded (p := t.currentPlayer) hroom
  exact BallsKept.afterLock (hclaim.then_frame)

/-- The accounting of an entry keeps the sum, and an accepted ball stands above the claims (R109). -/
theorem State.accountEntry_ballsKept (s : State) (d : Fin 6) : BallsKept s (s.accountEntry d).1 ∧
    ((s.accountEntry d).2 = true → DeviceLaw s →
      ((s.accountEntry d).1.claimsOf d).length < ((s.accountEntry d).1.device d).occupancy) := by
  unfold State.accountEntry
  have hroom : DeviceLaw s → ((s.modifyDevice d fun r => { r with occupancy := r.occupancy + 1 }).claimsOf d).length <
      ((s.modifyDevice d fun r => { r with occupancy := r.occupancy + 1 }).device d).occupancy := fun hs => by
    rw [State.modifyDevice_same]
    exact Nat.lt_succ_of_le ((deviceLaw_iff.mp hs).2 d).claims
  split
  · exact ⟨(BallsKept.refl s).trackingFault, nofun⟩
  · next hcap =>
    have hdev (hs : DeviceLaw s) : DeviceLaw (s.modifyDevice d fun r => { r with occupancy := r.occupancy + 1 }) := by
      obtain ⟨hplay, hd⟩ := deviceLaw_iff.mp hs
      exact deviceLaw_iff.mpr ⟨hplay, fun c => State.modifyDevice_cases (P := fun r => r.Lawful c (s.claimsOf c).length)
        (fun e => e ▸ (hd d).entered (Nat.lt_of_not_le hcap)) fun _ => hd c⟩
    split
    · next hplay =>
      refine ⟨⟨fun hs => ?_, fun hs ht => ?_⟩, fun _ => hroom⟩
      · obtain ⟨hle, hd⟩ := deviceLaw_iff.mp (hdev hs)
        exact deviceLaw_iff.mpr ⟨(Nat.sub_le ..).trans hle, hd⟩
      · have hheld := State.heldBalls_changed (s := s) (t := s.modifyDevice d fun r => { r with occupancy := r.occupancy + 1 })
          (d := d) fun c hc => congrArg Device.occupancy (State.modifyDevice_other _ hc)
        rw [State.modifyDevice_same] at hheld
        change (s.modifyDevice d fun r => { r with occupancy := r.occupancy + 1 }).heldBalls +
          (s.bdt.ballsInPlay - 1) = s.gpc.params.installed
        have hcount := hs ht
        dsimp only at hheld
        omega
    · exact ⟨⟨hdev, fun _ ht => nomatch ht⟩, fun _ => hroom⟩

theorem BallsKept.handleEntry (h : BallsKept s t)
    (hroom : DeviceLaw s → (t.claimsOf d).length < (t.device d).occupancy) : BallsKept s (t.handleEntry d) := by
  unfold State.handleEntry
  split
  · exact h.drain.ite h
  · exact h.lockEntry hroom
  · exact h.ite (h.ballEndCheckInPlay.ite h.requestEject)
  · exact h

theorem State.enterDevice_ballsKept (s : State) (d : Fin 6) : BallsKept s (s.enterDevice d) := by
  obtain ⟨h, hroom⟩ := s.accountEntry_ballsKept d
  unfold State.enterDevice
  split
  · next ha => exact h.handleEntry (hroom ha)
  · exact h

/-- The accounting of an exit: the sum is kept, and the device left may owe one ball more than it holds (R112). -/
theorem State.accountExit_ballsKept (s : State) (d : Fin 6) (hocc : (s.device d).occupancy ≠ 0) :
    (BallLaw s → BallLaw (s.accountExit d)) ∧ (s.accountExit d).lmc = s.lmc ∧
      (s.accountExit d).device d = { s.device d with occupancy := (s.device d).occupancy - 1 } ∧
      (∀ c, c ≠ d → (s.accountExit d).device c = s.device c) ∧
      (s.bdt.ballsInPlay ≤ 12 → (s.accountExit d).bdt.ballsInPlay ≤ 12) := by
  have hsame : (s.modifyDevice d fun r => { r with occupancy := r.occupancy - 1 }).device d =
      { s.device d with occupancy := (s.device d).occupancy - 1 } := State.modifyDevice_same _
  have hother (c : Fin 6) (hc : c ≠ d) :
      (s.modifyDevice d fun r => { r with occupancy := r.occupancy - 1 }).device c = s.device c :=
    State.modifyDevice_other _ hc
  unfold State.accountExit
  dsimp only
  split
  · next hlt =>
    refine ⟨fun hs ht => ?_, rfl, hsame, hother, fun _ => Nat.succ_le_of_lt hlt⟩
    have hheld := State.heldBalls_changed (s := s) (d := d) fun c hc => congrArg Device.occupancy (hother c hc)
    rw [hsame] at hheld
    change (s.modifyDevice d fun r => { r with occupancy := r.occupancy - 1 }).heldBalls + (s.bdt.ballsInPlay + 1) =
      s.gpc.params.installed
    have hcount := hs ht
    dsimp only at hheld
    omega
  · exact ⟨fun _ ht => (nomatch (show Tracking.fault = Tracking.ok from ht)), rfl, hsame, hother, id⟩

/-- A state whose devices are lawful but d, which a ball has just left. -/
structure State.ExitLaw (s : State) (d : Fin 6) : Prop where
  inPlay : s.bdt.ballsInPlay ≤ 12
  leaving : (s.device d).Leaving d (s.claimsOf d).length
  other : ∀ c, c ≠ d → (s.device c).Lawful c (s.claimsOf c).length

theorem State.loseLock_claimsOf {c : Fin 6} {o : Nat} : (s.loseLock d o).claimsOf c = s.claimsOf c := by
  simp [State.claimsOf]

theorem State.loseLock_device {c : Fin 6} {o : Nat} : (s.loseLock d o).device c = s.device c := by
  simp [State.device]

/-- The claim check puts the claims within the occupancy again (R133). -/
theorem State.exitLaw (h : DeviceLaw s) (hocc : (s.device d).occupancy ≠ 0) : ((s.accountExit d).claimCheck d).ExitLaw d := by
  obtain ⟨hplay, hd⟩ := deviceLaw_iff.mp h
  have hexit := s.accountExit_ballsKept d hocc
  obtain ⟨-, hl, hat, hother, hin⟩ := hexit
  generalize s.accountExit d = t at hl hat hother hin ⊢
  have hclaims (c : Fin 6) : t.claimsOf c = s.claimsOf c := by rw [State.claimsOf, State.claimsOf, hl]
  have hrest (c : Fin 6) (hc : c ≠ d) : (t.device c).Lawful c (t.claimsOf c).length := by
    rw [hother c hc, hclaims c]
    exact hd c
  have hleft {j : Nat} (hj : j ≤ (t.device d).occupancy) : (t.device d).Leaving d j := by
    rw [hat] at hj ⊢
    exact (hd d).left hj
  unfold State.claimCheck
  split
  · next o rest hlist =>
    have hlen : rest.length + 1 ≤ (s.device d).occupancy := by
      have := (hd d).claims
      rwa [← hclaims d, hlist] at this
    split
    · refine ⟨?_, ?_, fun c hc => ?_⟩
      · simpa using hin hplay
      · have hset : (t.setClaims d rest).claimsOf d = rest := Vector.getElem_set_self d.isLt
        rw [State.loseLock_device, State.loseLock_claimsOf, hset]
        refine hleft ?_
        rw [hat]
        dsimp only
        omega
      · have hset : (t.setClaims d rest).claimsOf c = t.claimsOf c :=
          Vector.getElem_set_ne d.isLt c.isLt fun e => hc (Fin.ext e.symm)
        rw [State.loseLock_device, State.loseLock_claimsOf, hset]
        exact hrest c hc
    · next hfits =>
      refine ⟨hin hplay, hleft ?_, hrest⟩
      rw [hlist]
      exact Nat.le_of_not_lt hfits
  · next hlist =>
    refine ⟨hin hplay, hleft ?_, hrest⟩
    rw [hlist]
    exact Nat.zero_le _

theorem State.ExitLaw.settled (h : s.ExitLaw d) (hd : (s.device d).ejectPending = 0) : DeviceLaw s :=
  deviceLaw_iff.mpr ⟨h.inPlay, fun c => by
    by_cases hc : c = d
    · subst hc
      exact h.leaving.lawful hd
    · exact h.other c hc⟩

theorem State.ExitLaw.changed {f : Device → Device} (h : s.ExitLaw d)
    (hf : (f (s.device d)).Lawful d (s.claimsOf d).length) : DeviceLaw (s.modifyDevice d f) :=
  deviceLaw_iff.mpr ⟨h.inPlay, fun c => State.modifyDevice_cases (P := fun r => r.Lawful c (s.claimsOf c).length)
    (fun e => e ▸ hf) (h.other c)⟩

theorem BallsKept.cancelLaunch (h : BallsKept s t) : BallsKept s t.cancelLaunch := by
  unfold State.cancelLaunch
  split
  · exact h
  · next hp => exact h.modifyDevice (fun _ hl => hl.cancelled hp) rfl

/-- What an exit confirms makes the law whole again (R113). -/
theorem State.ExitLaw.confirmExit (h : s.ExitLaw d) : DeviceLaw (s.confirmExit d) := by
  unfold State.confirmExit
  split
  · next hp =>
    unfold State.confirmEject
    split
    · exact h.changed (f := fun r => { r with ejectPending := 0, retries := 0, ejectTimer := none }) h.leaving.confirmedLast
    · next h1 =>
      exact h.changed (f := fun r => { r with ejectPending := r.ejectPending - 1, retries := 0, ejectTimer := some r.timeout })
        (h.leaving.confirmed (Nat.lt_of_not_le h1))
  · next hp =>
    have hlaw := h.settled (Nat.eq_zero_of_not_pos hp)
    have hreplaced : BallsKept s (s.modifyDevice d fun r => { r with replaced := r.replaced - 1 }) :=
      (BallsKept.refl s).modifyDevice (fun _ hl => hl.setReplaced ((Nat.sub_le ..).trans hl.replaced)) rfl
    exact (hreplaced.cancelLaunch.ite (BallsKept.refl s)).devices hlaw

theorem State.confirmExit_ballLaw (h : BallLaw s) : BallLaw (s.confirmExit d) := by
  have hdev {f : Device → Device} {t : State} (ht : BallLaw t) {c : Fin 6} (ho : (f (t.device c)).occupancy = (t.device c).occupancy) :
      BallLaw (t.modifyDevice c f) := by
    have hheld : (t.modifyDevice c f).heldBalls = t.heldBalls := State.heldBalls_congr fun b =>
      State.modifyDevice_cases (P := fun r => r.occupancy = (t.device b).occupancy) (fun e => e ▸ ho) fun _ => rfl
    rw [BallLaw, hheld]
    exact ht
  unfold State.confirmExit
  split
  · unfold State.confirmEject
    split
    · exact hdev h rfl
    · exact hdev (f := fun r => { r with ejectPending := r.ejectPending - 1, retries := 0, ejectTimer := some r.timeout }) h rfl
  · split
    · exact (BallsKept.refl _).cancelLaunch.balls (hdev h rfl)
    · exact h

theorem BallsKept.troughStep (h : BallsKept s t) : BallsKept s (t.troughStep d) := by
  unfold State.troughStep
  have hplay : BallsKept s (t.setGame .inPlay) := h.then_frame rfl rfl rfl
  dsimp only
  exact (hplay.then_frame.ite hplay).ite h

theorem State.exitDevice_ballsKept (s : State) (d : Fin 6) : BallsKept s (s.exitDevice d) := by
  unfold State.exitDevice
  split
  · exact (BallsKept.refl s).trackingFault.troughStep
  · next hocc =>
    have hcheck (t : State) : BallLaw t → BallLaw (t.claimCheck d) := by
      unfold State.claimCheck
      split
      · split
        · next o rest _ _ => exact ((BallsKept.refl (t.setClaims d rest)).then_frame (u := (t.setClaims d rest).loseLock d o)).balls
        · exact id
      · exact id
    have hexit : BallsKept s (((s.accountExit d).claimCheck d).confirmExit d) :=
      ⟨fun hs => (State.exitLaw hs hocc).confirmExit,
        fun hs => State.confirmExit_ballLaw (hcheck _ ((s.accountExit_ballsKept d hocc).1 hs))⟩
    exact hexit.troughStep

/-! ### Eject timers (R117 to R119) -/

theorem BallsKept.faultDevice (h : BallsKept s t) : BallsKept s (t.faultDevice d) := by
  have hfailed : BallsKept s (t.modifyDevice d fun r =>
      { r with faulted := true, retries := 3, ejectTimer := none, ejectPending := 0 }) :=
    h.modifyDevice (fun _ hl => hl.failed) rfl
  have hraised : BallsKept s ((t.modifyDevice d fun r =>
      { r with faulted := true, retries := 3, ejectTimer := none, ejectPending := 0 }).raise (.ejectFailed d)) :=
    hfailed.then_frame rfl rfl rfl
  unfold State.faultDevice
  dsimp only
  refine BallsKept.ballEndCheckInPlay ?_
  split
  · exact hraised
  · next hd =>
    have hasked := hraised.requestEject (d := 0) (n := (t.device d).ejectPending)
    refine hasked.modifyDevice (fun hs hl => hl.setReplaced ?_) rfl
    have howed := (deviceLaw_iff.mp (h.devices hs)).2 d
    refine ((State.requestEject_added ..).trans_le (Device.adds_le ..).1).trans ?_
    have := howed.pending
    have := howed.capacity
    rcases Nat.eq_zero_or_pos (t.device d).capacity with h0 | hpos
    · omega
    · have hcap := (Device.timeout_inRange howed.inRange hpos).1
      rw [if_neg hd] at hcap
      omega

theorem BallsKept.ejectExpiry (h : BallsKept s t) (hlast : (t.device d).atLast = true) : BallsKept s (t.ejectExpiry d) := by
  unfold State.ejectExpiry
  split
  · exact h.faultDevice
  · next hr =>
    have hretried : BallsKept s (t.modifyDevice d fun r =>
        { r with retries := r.retries + 1, ejectTimer := some r.timeout }) := by
      refine h.modifyDevice (fun _ hl => hl.retried (Nat.pos_of_ne_zero fun h0 => ?_) (Nat.lt_of_not_le hr)) rfl
      rw [Device.atLast, hl.runs.mp h0] at hlast
      nomatch hlast
    exact hretried.then_frame rfl rfl rfl

theorem State.bdtTick_ballsKept (s : State) : BallsKept s s.bdtTick := by
  have hat (c : Fin 6) : s.bdtTick.device c = (s.device c).lower := by simp [State.device, State.bdtTick, mapTable]
  refine ⟨fun hs => ?_, fun hs ht => ?_⟩
  · obtain ⟨hplay, hl⟩ := deviceLaw_iff.mp hs
    refine deviceLaw_iff.mpr ⟨hplay, fun c => ?_⟩
    rw [hat c]
    exact (hl c).lower
  · rw [State.heldBalls_congr (s := s) fun c => (congrArg Device.occupancy (hat c)).trans rfl]
    exact hs ht

end

end Sys2Proof.Machine
end

section
/-! PROOFS. O13: no command breaks the law of the devices, none loses a ball while the tracking state is OK. -/

namespace Sys2Proof.Machine

section
variable {s t u : State} {d : Fin 6}

/-! ### Operations that leave the devices, the claims and the installed count alone -/

structure State.SameDevices (s t : State) : Prop where
  bdt : t.bdt = s.bdt
  claims : t.lmc.claims = s.lmc.claims
  params : t.gpc.params = s.gpc.params

theorem State.SameDevices.refl (s : State) : s.SameDevices s := ⟨rfl, rfl, rfl⟩

theorem State.SameDevices.kept (h : s.SameDevices t) : BallsKept s t :=
  (BallsKept.refl s).then_frame h.bdt h.claims h.params

theorem State.SameDevices.ite {c : Prop} [Decidable c] (h : s.SameDevices t) (h' : s.SameDevices u) :
    s.SameDevices (if c then t else u) := by split <;> assumption

theorem scoreHit_sameDevices (s : State) (g : Fin 16) (k : Nat) (l : List Award) (a : List (Fin 12)) :
    s.SameDevices (s.scoreHit g k l a) := by
  have hgpc : (s.scoreHit g k l a).gpc = s.gpc := by simp
  exact ⟨by simp, by simp, by rw [hgpc]⟩

theorem injectSwitch_sameDevices (p : List Byte) (s : State) : s.SameDevices (injectSwitch p s).1 := by
  unfold injectSwitch
  split
  · exact .refl s
  · split
    · exact .refl s
    · split <;> exact ⟨rfl, rfl, rfl⟩

theorem writePlayer_sameDevices (p : List Byte) (s : State) : s.SameDevices (writePlayer p s).1 := by
  unfold writePlayer
  split
  · split
    · exact .refl s
    · split
      · exact .refl s
      · exact ⟨by simp, by simp, by simp⟩
  · exact .refl s

theorem adjustScore_sameDevices (p : List Byte) (s : State) : s.SameDevices (adjustScore p s).1 := by
  unfold adjustScore
  split
  · split
    · exact .refl s
    · split
      · exact .ite ⟨by simp, by simp, by simp⟩ ⟨by simp, by simp, by simp⟩
      · exact .refl s
  · exact .refl s

theorem setPlayfieldMult_sameDevices (p : List Byte) (s : State) : s.SameDevices (setPlayfieldMult p s).1 := by
  unfold setPlayfieldMult
  split
  · dsimp only
    split <;> exact ⟨by simp, by simp, by simp⟩
  · exact .refl s

theorem writeCounter_sameDevices (p : List Byte) (s : State) : s.SameDevices (writeCounter p s).1 := by
  unfold writeCounter
  split
  · split
    · exact .refl s
    · split
      · exact .refl s
      · exact ⟨by simp, by simp, by simp⟩
  · exact .refl s

theorem setCounterDef_sameDevices (s : State) (c : CounterRef) (x : CounterDef) : s.SameDevices (s.setCounterDef c x) := by
  cases c <;> exact ⟨rfl, rfl, rfl⟩

theorem stageTarget_sameDevices (p : List Byte) (s : State) : s.SameDevices (stageTarget p s).1 := by
  unfold stageTarget
  split
  · split
    · exact .refl s
    · exact setCounterDef_sameDevices ..
  · exact .refl s

theorem defineCounter_sameDevices (p : List Byte) (s : State) : s.SameDevices (defineCounter p s).1 := by
  unfold defineCounter
  split
  · exact setCounterDef_sameDevices ..
  · exact .refl s

theorem addPlayer_sameDevices (s : State) : s.SameDevices (addPlayer s).1 := by
  unfold addPlayer
  split
  · split <;> exact ⟨rfl, rfl, rfl⟩
  · exact .refl s

theorem startModeRequest_sameDevices (p : List Byte) (s : State) : s.SameDevices (startModeRequest p s).1 := by
  unfold startModeRequest
  split
  · exact .refl s
  · next i _ =>
    have hstart : s.SameDevices (s.startMode i).1 := ⟨by simp, by simp, by simp⟩
    split <;> next heq => rw [heq] at hstart; exact hstart

theorem stopMode_sameDevices (p : List Byte) (s : State) : s.SameDevices (stopMode p s).1 := by
  unfold stopMode
  split
  · exact .refl s
  · split
    · exact ⟨by simp, by simp, by simp⟩
    · exact .refl s

theorem retireMode_sameDevices (p : List Byte) (s : State) : s.SameDevices (retireMode p s).1 := by
  unfold retireMode
  split
  · exact .refl s
  · split <;> exact ⟨rfl, rfl, rfl⟩

theorem State.addTime_sameDevices (s : State) (x : Fin 12) (c : Context) (n : Nat) : s.SameDevices (s.addTime x c n) := by
  unfold State.addTime
  split <;> exact ⟨by simp, by simp, by simp⟩

theorem State.SameDevices.trans (h : s.SameDevices t) (h' : t.SameDevices u) : s.SameDevices u :=
  ⟨h'.bdt.trans h.bdt, h'.claims.trans h.claims, h'.params.trans h.params⟩

theorem State.SameDevices.then_frame (h : s.SameDevices t) (hb : u.bdt = t.bdt := by simp)
    (hl : u.lmc.claims = t.lmc.claims := by simp) (hg : u.gpc.params = t.gpc.params := by simp) : s.SameDevices u :=
  h.trans ⟨hb, hl, hg⟩

theorem State.SameDevices.option {α : Type} {o : Option α} {f : α → State} (h : s.SameDevices t)
    (hf : ∀ a, s.SameDevices (f a)) : s.SameDevices (o.elim t f) := by cases o <;> simp [h, hf]

theorem State.applyAdjustment_sameDevices (s : State) (x : Fin 12) (c : Context) (tm : Template) (a : Adjustment) :
    s.SameDevices (s.applyAdjustment x c tm a) := by
  rw [State.applyAdjustment_eq]
  have htime : s.SameDevices (s.adjustTime x c a.ticks) :=
    (State.SameDevices.refl s).option fun _ => State.addTime_sameDevices ..
  have hvalue (t : State) : t.SameDevices (t.adjustValue x tm a.value) :=
    (State.SameDevices.refl t).option fun _ => ⟨by simp, by simp, by simp⟩
  have hmult (t : State) : t.SameDevices (t.adjustMult x a.multiplier) :=
    (State.SameDevices.refl t).option fun _ => ⟨by simp, by simp, by simp⟩
  have hperiod (t : State) : t.SameDevices (t.adjustPeriod c a.period) :=
    (State.SameDevices.refl t).option fun _ => ⟨by simp, by simp, by simp⟩
  exact ((htime.trans (hvalue _)).trans (hmult _)).trans (hperiod _)

theorem adjustMode_sameDevices (p : List Byte) (s : State) : s.SameDevices (adjustMode p s).1 := by
  unfold adjustMode
  split
  · split
    · split
      · exact .refl s
      · split
        · exact .refl s
        · dsimp only
          split
          · exact State.applyAdjustment_sameDevices ..
          · exact .refl s
    · exact .refl s
  · exact .refl s

theorem lightLock_sameDevices (s : State) : s.SameDevices (Machine.lightLock s).1 := by
  unfold Machine.lightLock
  split
  · exact ⟨by simp, by simp, by simp⟩
  · exact .refl s

theorem setLockParams_sameDevices (p : List Byte) (s : State) : s.SameDevices (setLockParams p s).1 := by
  unfold setLockParams
  split <;> exact ⟨rfl, rfl, rfl⟩

theorem defineRule_sameDevices (p : List Byte) (s : State) : s.SameDevices (defineRule p s).1 := by
  unfold defineRule
  split
  · split <;> exact ⟨rfl, rfl, rfl⟩
  · exact .refl s

theorem defineTemplate_sameDevices (p : List Byte) (s : State) : s.SameDevices (defineTemplate p s).1 := by
  unfold defineTemplate
  split <;> exact ⟨rfl, rfl, rfl⟩

theorem defineThresholds_sameDevices (p : List Byte) (s : State) : s.SameDevices (defineThresholds p s).1 := by
  unfold defineThresholds
  split
  · exact .refl s
  · split
    · split <;> exact ⟨rfl, rfl, rfl⟩
    · exact .refl s

theorem ackNotice_sameDevices (p : List Byte) (s : State) : s.SameDevices (ackNotice p s).1 := by
  unfold ackNotice
  split
  · exact .refl s
  · split <;> exact ⟨rfl, rfl, rfl⟩

theorem setNoticeEnable_sameDevices (p : List Byte) (s : State) : s.SameDevices (setNoticeEnable p s).1 := by
  unfold setNoticeEnable
  split <;> exact ⟨rfl, rfl, rfl⟩

/-! ### Timers -/

theorem State.takeExpiry_sameDevices (s : State) (v : Fin 16) (r : Timer) : s.SameDevices (s.takeExpiry v r) := by
  have hexpire (t : State) (q : Timer) : t.SameDevices (t.expire v q) := by
    unfold State.expire
    split <;> exact ⟨by simp, by simp, by simp⟩
  have hset (q : Timer) : s.SameDevices (s.setTimer v (some q)) := ⟨rfl, rfl, rfl⟩
  unfold State.takeExpiry
  exact ((hset _).trans (hexpire _ _)).ite (hset _)

theorem allocTimer_sameDevices (p : List Byte) (s : State) : s.SameDevices (allocTimer p s).1 := by
  unfold allocTimer
  split
  · dsimp only
    split
    · exact .refl s
    · split <;> exact ⟨rfl, rfl, rfl⟩
  · exact .refl s

theorem startTimer_sameDevices (p : List Byte) (s : State) : s.SameDevices (startTimer p s).1 := by
  unfold startTimer
  split
  · exact .refl s
  · split <;> exact ⟨rfl, rfl, rfl⟩

theorem stopTimer_sameDevices (p : List Byte) (s : State) : s.SameDevices (stopTimer p s).1 := by
  unfold stopTimer
  split <;> exact ⟨rfl, rfl, rfl⟩

theorem freeTimer_sameDevices (p : List Byte) (s : State) : s.SameDevices (freeTimer p s).1 := by
  unfold freeTimer
  split <;> exact ⟨rfl, rfl, rfl⟩

theorem stagePeriod_sameDevices (p : List Byte) (s : State) : s.SameDevices (stagePeriod p s).1 := by
  unfold stagePeriod
  split
  · exact .refl s
  · split
    · exact .refl s
    · exact ⟨by simp, by simp, by simp⟩

/-! ### Switch reports and their evaluation (R23 to R26, R41 to R45) -/

theorem BallsKept.arrive (h : BallsKept s t) (sw : Fin 128) (cls : EntryClass) : BallsKept s (t.arrive sw cls) := by
  unfold State.arrive State.dropReport
  split
  · exact h.then_frame rfl rfl rfl
  · exact h.then_frame rfl rfl rfl
  · split
    · exact h.ite (h.then_frame rfl rfl rfl)
    · exact h.trackingFault.then_frame rfl rfl rfl

theorem BallsKept.evaluate {e : Entry} : BallsKept s (s.evaluate e) := by
  have hit (t : State) (g : Fin 16) (k : Nat) (l : List Award) (a : List (Fin 12)) : BallsKept t (t.scoreHit g k l a) :=
    (scoreHit_sameDevices t g k l a).kept
  unfold State.evaluate
  split
  · next g l _ _ => exact .ite (hit _ _ _ _ _) (.refl s)
  · next d g l _ _ =>
    have hent := s.enterDevice_ballsKept d
    exact .ite (hent.trans (hit _ _ _ _ _)) hent
  · exact s.exitDevice_ballsKept _
  · exact .refl s
  · exact (BallsKept.refl s).trackingFault
  · exact (BallsKept.refl s).trackingFault

/-! ### The requests of BDT and of the set-up (R104, R120, R121, R139, R166) -/

theorem clearDeviceFault_ballsKept (p : List Byte) (s : State) : BallsKept s (clearDeviceFault p s).1 := by
  unfold clearDeviceFault
  split
  · exact .refl s
  · split
    · exact .refl s
    · split
      · exact .refl s
      · exact (BallsKept.refl s).modifyDevice (f := fun r => { r with faulted := false, retries := 0, replaced := 0 })
          (fun _ hl => hl.cleared) rfl

theorem addBall_ballsKept (s : State) : BallsKept s (addBall s).1 := by
  unfold addBall
  split
  · exact .refl s
  · split
    · exact .refl s
    · exact (BallsKept.refl s).requestEject

theorem startMultiball_ballsKept (s : State) : BallsKept s (Machine.startMultiball s).1 := by
  have hstart := (BallsKept.refl s).startMultiball (p := s.currentPlayer)
  unfold Machine.startMultiball
  split
  · exact hstart
  · exact .refl s

theorem recountSum_eq (p : List Byte) :
    recountSum p = ((List.finRange 6).map fun d => byteAt p d.val).sum + byteAt p 6 := by
  simp [recountSum, List.finRange_succ, List.range_succ]
  omega

/-- The payload's counts are the state's after a RECOUNT, within the capacities and in the sum (R121). -/
theorem State.recounted_ballsKept {p : List Byte} (h : s.recountFits p = true) : BallsKept s { s with
    bdt := ⟨Vector.ofFn fun d => s.bdt.devices[d].recount (byteAt p d.val), byteAt p 6, .ok, s.bdt.expiring⟩
    lmc := { s.lmc with claims := Vector.ofFn fun d => trimClaims s.lmc.claims[d] (byteAt p d.val) } } := by
  obtain ⟨⟨hfit, hplay⟩, hsum⟩ : ((∀ d : Fin 6, byteAt p d.val ≤ (s.device d).capacity) ∧ byteAt p 6 ≤ 12) ∧
      recountSum p = s.gpc.params.installed := by simpa [State.recountFits] using h
  refine ⟨fun hs => ?_, fun _ _ => ?_⟩
  · obtain ⟨-, hl⟩ := deviceLaw_iff.mp hs
    refine deviceLaw_iff.mpr ⟨hplay, fun c => ?_⟩
    simp only [State.device, State.claimsOf, Fin.getElem_fin, Vector.getElem_ofFn]
    refine (hl c).recount (hfit c) ?_
    rw [trimClaims, List.length_drop]
    omega
  · rw [← hsum]
    simp only [State.heldBalls, Fin.getElem_fin, Vector.getElem_ofFn, Device.recount_occupancy]
    exact (recountSum_eq p).symm

theorem recount_ballsKept (p : List Byte) (s : State) : BallsKept s (recount p s).1 := by
  unfold recount
  split
  · next h =>
    have hcount := State.recounted_ballsKept h
    exact .ite (BallsKept.ballEndCheck hcount.then_frame) hcount
  · exact .refl s

theorem State.deviceDef?_inRange {p : List Byte} {x : DeviceDef} (h : s.deviceDef? d p = some (some x)) : x.InRange d := by
  unfold State.deviceDef? at h
  split at h
  · nomatch Option.some.inj h
  · next h1 =>
    split at h
    · obtain ⟨⟨hcap, -, -, -, hlow, hhigh⟩, hx⟩ := Option.ite_none_right_eq_some.mp h
      obtain rfl := Option.some.inj (Option.some.inj hx)
      exact ⟨Nat.pos_of_ne_zero h1, hcap, hlow, hhigh⟩
    · nomatch h

theorem defineDevice_ballsKept (p : List Byte) (s : State) : BallsKept s (defineDevice p s).1 := by
  cases hd : index? 6 (byteAt p 0) with
  | none =>
    rw [defineDevice_noDevice (index?_eq_none.mp hd)]
    exact .refl s
  | some d =>
    have hd := index?_eq_some.mp hd
    cases hx : s.deviceDef? d p with
    | none =>
      rw [defineDevice_refused hd hx]
      exact .refl s
    | some x =>
      rw [defineDevice_defines hd hx]
      have hdefined : BallsKept s (s.deviceDefined d x) := by
        refine ⟨fun hs => ?_, fun _ ht => ?_⟩
        · obtain ⟨hplay, hl⟩ := deviceLaw_iff.mp hs
          refine deviceLaw_iff.mpr ⟨hplay, fun c => ?_⟩
          by_cases hc : c = d
          · subst hc
            obtain ⟨h1, h2⟩ := s.deviceDefined_same c x
            rw [State.device, State.claimsOf, h1, h2]
            exact ⟨fun y (hy : x = some y) => State.deviceDef?_inRange (hx.trans (congrArg some hy)), Nat.le_refl 0, Nat.le_refl 0,
              Nat.zero_le _, nofun, ⟨fun _ => rfl, fun _ => rfl⟩, nofun, Nat.zero_le _, Nat.zero_le _⟩
          · obtain ⟨h1, h2⟩ := s.deviceDefined_other x hc
            rw [State.device, State.claimsOf, h1, h2]
            exact hl c
        · have htrack : (s.deviceDefined d x).bdt.tracking ≠ .ok := by
            simp only [State.deviceDefined]
            split
            · nofun
            · assumption
          exact absurd ht htrack
      exact hdefined.then_frame rfl rfl rfl

theorem setGameParams_ballsKept (p : List Byte) (s : State) : BallsKept s (setGameParams p s).1 := by
  unfold setGameParams
  split
  · next x _ =>
    refine ⟨id, fun hs ht => ?_⟩
    dsimp only at ht
    split at ht
    · nomatch ht
    · next hsame =>
      have hinst : x.installed = s.gpc.params.installed := by
        by_contra hne
        exact hsame ⟨hne, ht⟩
      exact (hs ht).trans hinst.symm
  · exact .refl s

/-! ### The course of a game (R168, R174 to R180, R191, R210) -/

theorem softReset_ballsKept (s : State) : BallsKept s s.softReset := by
  have hat (c : Fin 6) : s.softReset.device c = (s.device c).softReset := by
    simp [State.device, State.softReset, mapTable, State.clearSlots, State.clearClaims, State.restoreTargets,
      State.clearGameRecord]
  have hclaims (c : Fin 6) : s.softReset.claimsOf c = [] := by
    simp [State.claimsOf, State.softReset, State.clearClaims]
  refine ⟨fun hs => ?_, fun hs ht => ?_⟩
  · obtain ⟨hplay, hl⟩ := deviceLaw_iff.mp hs
    refine deviceLaw_iff.mpr ⟨hplay, fun c => ?_⟩
    rw [hat c, hclaims c]
    exact (hl c).softReset
  · rw [State.heldBalls_congr (s := s) fun c => (congrArg Device.occupancy (hat c)).trans rfl]
    exact hs ht

theorem powerOn_ballsKept (s : State) (a b c : Bool) : BallsKept s (s.powerOn a b c) := by
  obtain ⟨-, -, -, -, -, hd, hb, -⟩ := lawsHoldAtReset
  exact ⟨fun _ => hd, fun _ => hb⟩

theorem BallsKept.tiltBall (h : BallsKept s t) : BallsKept s t.tiltBall := by
  unfold State.tiltBall
  exact h.ite h.then_frame

theorem BallsKept.clearTilt (h : BallsKept s t) : BallsKept s t.clearTilt := by
  have hcleared : BallsKept s { t with gpc := { t.gpc with tilted := false } } := h.then_frame rfl rfl rfl
  unfold State.clearTilt
  exact hcleared.tiltBall.ite hcleared

theorem BallsKept.actOnLine (h : BallsKept s t) : BallsKept s t.actOnLine := by
  have hslam : BallsKept s t.endGame.clearClaims := h.then_frame.clearClaims
  unfold State.actOnLine
  split
  · exact h.tiltBall
  · exact h.tiltBall
  · exact hslam
  · exact hslam
  · exact hslam
  · exact h

theorem startGame_ballsKept (s : State) : BallsKept s (startGame s).1 := by
  have hrecords : BallsKept s ((({ s with ptb := { s.ptb with players := [Player.created] } }).clearCommon
      ).restoreTargets.clearSlots.releaseBound) := .then_frame (.refl s)
  have hbegun : BallsKept s s.gameBegun := by
    have hrotated := (hrecords.clearClaims.then_frame rfl rfl rfl : BallsKept s { { (({ s with ptb := { s.ptb with
      players := [Player.created] } }).clearCommon).restoreTargets.clearSlots.releaseBound.clearClaims with lmc := {
        (({ s with ptb := { s.ptb with players := [Player.created] } }).clearCommon).restoreTargets.clearSlots.releaseBound.clearClaims.lmc
        with multiball := false, jackpot := 0 } } with gpc := { s.gpc with current := some 1, ballNumber := 1 } })
    exact hrotated.clearTilt.then_frame rfl rfl rfl
  unfold startGame
  split
  · exact .refl s
  · exact hbegun.requestEject

theorem nextBall_ballsKept (s : State) : BallsKept s (nextBall s).1 := by
  have hspent : BallsKept s s.spendExtraBall := .then_frame (.refl s) (by simp [State.spendExtraBall])
    (by simp [State.spendExtraBall]) (by simp [State.spendExtraBall])
  generalize hv : s.spendExtraBall = v at hspent
  have hfinish : BallsKept s v.finishGame := by
    have hover : BallsKept s (v.setGame .gameOver) := hspent.then_frame rfl rfl rfl
    unfold State.finishGame
    exact hover.then_frame
  have hcontinue (p b : Nat) : BallsKept s (v.continueGame p b) := by
    have hturn : BallsKept s { v with gpc := { v.gpc with current := some p, ballNumber := b } } :=
      hspent.then_frame rfl rfl rfl
    have hrotated : BallsKept s (v.rotated p b) := hturn.clearTilt
    have hresumed : BallsKept s ((v.rotated p b).resumeAll p) := hrotated.then_frame
    have hstarting : BallsKept s (((v.rotated p b).resumeAll p).setGame .starting) := hresumed.then_frame rfl rfl rfl
    rw [State.continueGame_eq]
    exact hstarting.requestEject
  unfold nextBall State.nextBall
  rw [hv]
  dsimp only
  split
  · exact .ite hfinish (hcontinue _ _)
  · exact .refl s

theorem clearGame_ballsKept (s : State) : BallsKept s s.clearGame := by
  have hcleared : BallsKept s s.clearGameRecord.clearSlots := .then_frame (.refl s) rfl rfl rfl
  exact hcleared.clearClaims.then_frame rfl rfl rfl

/-! ### The commands -/

theorem BallsKept.answer {e : Byte} {st : Status} {p : List Byte} (h : BallsKept s t) : BallsKept s (t.answer e st p) :=
  h.then_frame rfl rfl rfl

theorem BallsKept.of_request {code : Byte} {config : Bool} {takes : Nat} {owner : State → State × Reply} {p : List Byte}
    (ho : BallsKept s (owner s).1) (h : takeRequest code config takes owner p s = .next t) : BallsKept s t := by
  rcases takeRequest_cases h with rfl | ⟨st, rfl⟩ | ⟨-, rfl⟩
  · exact (BallsKept.refl s).then_frame rfl rfl rfl
  · exact (BallsKept.refl s).answer
  · exact ho.answer

theorem BallsKept.of_read {code : Byte} {config : Bool} {takes : Nat} {owner : State → State × Reply} {p : List Byte}
    (ho : (owner s).1 = s) (h : takeRequest code config takes owner p s = .next t) : BallsKept s t :=
  .of_request (by rw [ho]; exact .refl s) h

theorem execSwitchReport_ballsKept {b : Byte} {stop : Bool} (h : execSwitchReport b stop s = .next t) : BallsKept s t := by
  obtain rfl := Host.Outcome.next.inj h
  split
  · exact .refl s
  · split
    · exact (BallsKept.refl s).arrive _ _
    · exact .refl s

theorem execAwardEvaluation_ballsKept (h : execAwardEvaluation s = .next t) : BallsKept s t := by
  obtain rfl := Host.Outcome.next.inj h
  split
  · next e rest _ =>
    have htaken : BallsKept s (s.takeHead rest) := .then_frame (.refl s) rfl rfl rfl
    exact .ite (.refl s) (htaken.trans .evaluate)
  · exact .refl s

theorem execTimerExpiry_ballsKept {v : Fin 16} (h : execTimerExpiry v s = .next t) : BallsKept s t := by
  obtain rfl := Host.Outcome.next.inj h
  split
  · exact .ite (State.takeExpiry_sameDevices ..).kept (.refl s)
  · exact .refl s

theorem execEjectExpiry_ballsKept (h : execEjectExpiry d s = .next t) : BallsKept s t := by
  obtain rfl := Host.Outcome.next.inj h
  split
  · next hlast => exact (BallsKept.refl s).ejectExpiry hlast.2
  · exact .refl s

theorem execLineEvent_ballsKept {l : GameLine} {b : Bool} {n : Nat} (h : execLineEvent l b n s = .next t) :
    BallsKept s t := by
  obtain rfl := Host.Outcome.next.inj h
  have hline : BallsKept s (s.setLine l b) := by cases l <;> exact ⟨id, id⟩
  exact .ite (.refl s) (hline.ite hline.actOnLine)

theorem execEndGame_ballsKept {p : List Byte} (h : execEndGame p s = .next t) : BallsKept s t := by
  refine .of_request ?_ h
  split
  · exact .then_frame (.refl s)
  · exact .refl s

theorem execClearGame_ballsKept {p : List Byte} (h : execClearGame p s = .next t) : BallsKept s t := by
  refine .of_request ?_ h
  split
  · exact clearGame_ballsKept s
  · exact .refl s

theorem exec_ballsKept {i : Instr} (h : exec i s = .next t) : BallsKept s t := by
  cases i with
  | switchReport b stop => exact execSwitchReport_ballsKept h
  | awardEvaluation => exact execAwardEvaluation_ballsKept h
  | tmuTick => obtain rfl := Host.Outcome.next.inj h; exact .then_frame (.refl s) rfl rfl rfl
  | timerExpiry v => exact execTimerExpiry_ballsKept h
  | bdtTick => obtain rfl := Host.Outcome.next.inj h; exact s.bdtTick_ballsKept
  | ejectExpiry d => exact execEjectExpiry_ballsKept h
  | lineEvent l b n => exact execLineEvent_ballsKept h
  | reset n a b c => obtain rfl := Host.Outcome.next.inj h; exact .ite (.refl s) (powerOn_ballsKept s a b c)
  | shortFrame b =>
    obtain rfl := Host.Outcome.next.inj h
    exact .ite (.then_frame (.refl s) rfl rfl rfl) (BallsKept.refl s).answer
  | unknownRequest c p =>
    obtain rfl := Host.Outcome.next.inj h
    exact .ite (.then_frame (.refl s) rfl rfl rfl) (BallsKept.refl s).answer
  | nop p => exact .of_read rfl h
  | readGame p => exact .of_read rfl h
  | readPlayer p => exact .of_read (readPlayer_state p s) h
  | writePlayer p => exact .of_request (writePlayer_sameDevices p s).kept h
  | adjustScore p => exact .of_request (adjustScore_sameDevices p s).kept h
  | readCounter p => exact .of_read (readCounter_state p s) h
  | writeCounter p => exact .of_request (writeCounter_sameDevices p s).kept h
  | stageTarget p => exact .of_request (stageTarget_sameDevices p s).kept h
  | readQueue p => exact .of_read rfl h
  | injectSwitch p => exact .of_request (injectSwitch_sameDevices p s).kept h
  | readRule p => exact .of_read (readRule_state p s) h
  | startGame p => exact .of_request (startGame_ballsKept s) h
  | addPlayer p => exact .of_request (addPlayer_sameDevices s).kept h
  | nextBall p => exact .of_request (nextBall_ballsKept s) h
  | endGame p => exact execEndGame_ballsKept h
  | clearGame p => exact execClearGame_ballsKept h
  | setPlayfieldMult p => exact .of_request (setPlayfieldMult_sameDevices p s).kept h
  | startMode p => exact .of_request (startModeRequest_sameDevices p s).kept h
  | stopMode p => exact .of_request (stopMode_sameDevices p s).kept h
  | readMode p => exact .of_read (readMode_state p s) h
  | retireMode p => exact .of_request (retireMode_sameDevices p s).kept h
  | adjustMode p => exact .of_request (adjustMode_sameDevices p s).kept h
  | readStack p => exact .of_read rfl h
  | readDevice p => exact .of_read (readDevice_state p s) h
  | recount p => exact .of_request (recount_ballsKept p s) h
  | clearDeviceFault p => exact .of_request (clearDeviceFault_ballsKept p s) h
  | lightLock p => exact .of_request (lightLock_sameDevices s).kept h
  | startMultiball p => exact .of_request (startMultiball_ballsKept s) h
  | addBall p => exact .of_request (addBall_ballsKept s) h
  | allocTimer p => exact .of_request (allocTimer_sameDevices p s).kept h
  | startTimer p => exact .of_request (startTimer_sameDevices p s).kept h
  | stopTimer p => exact .of_request (stopTimer_sameDevices p s).kept h
  | freeTimer p => exact .of_request (freeTimer_sameDevices p s).kept h
  | stagePeriod p => exact .of_request (stagePeriod_sameDevices p s).kept h
  | readTimer p => exact .of_read (readTimer_state p s) h
  | peekNotice p => exact .of_read rfl h
  | ackNotice p => exact .of_request (ackNotice_sameDevices p s).kept h
  | setNoticeEnable p => exact .of_request (setNoticeEnable_sameDevices p s).kept h
  | softReset p => exact .of_request (softReset_ballsKept s) h
  | defineRule p => exact .of_request (defineRule_sameDevices p s).kept h
  | defineCounter p => exact .of_request (defineCounter_sameDevices p s).kept h
  | defineTemplate p => exact .of_request (defineTemplate_sameDevices p s).kept h
  | defineDevice p => exact .of_request (defineDevice_ballsKept p s) h
  | defineThresholds p => exact .of_request (defineThresholds_sameDevices p s).kept h
  | setGameParams p => exact .of_request (setGameParams_ballsKept p s) h
  | setLockParams p => exact .of_request (setLockParams_sameDevices p s).kept h
  | readParams p => exact .of_read (readParams_state p s) h

theorem step_ballsKept (h : step s = .next t) : BallsKept s t := by
  rcases step_cases h with rfl | ⟨i, rest, -, h⟩
  · exact .refl _
  · have hrest : BallsKept s { s with pending := rest } := ⟨id, id⟩
    exact hrest.trans (exec_ballsKept h)

end

/-- Settles O13: every operation on a device keeps its law, and every ball counted out of one place is counted into
another, or the tracking state is not OK. -/
theorem stepsKeepDevicesAndBalls : Obligations.StepsKeepDevicesAndBalls :=
  ⟨fun _ _ hs h => (step_ballsKept h).devices hs, fun _ _ hs h => (step_ballsKept h).balls hs⟩

end Sys2Proof.Machine
end

section
/-! PROOFS. END_GAME, CLEAR_GAME and NEXT_BALL (09): O54 and O53. -/

namespace Sys2Proof.Machine

section
variable {s t : State} {x : Fin 12} {c : Context}

/-! ### END_GAME and CLEAR_GAME (R179, R180) -/

theorem State.hasNotice_of_grows {y : Source} (h : s.ntu.Grows t.ntu) (hs : s.hasNotice y = true) : t.hasNotice y = true :=
  decide_eq_true (h.pending _ (of_decide_eq_true hs))

theorem State.hasNotice_raise_of {y z : Source} (h : s.hasNotice y = true) : (s.raise z).hasNotice y = true :=
  State.hasNotice_of_grows (Ntu.grows_raise ..) h

/-- The state in which END_GAME ends the contexts (R179). -/
def State.gameStopped (s : State) : State := (s.setGame .gameOver).endAll State.isStanding .gameEnded

theorem State.stopMultiball_lmc : s.stopMultiball.lmc = { s.lmc with multiball := false } := by
  unfold State.stopMultiball
  split
  · rfl
  · next h => rw [← Bool.eq_false_of_not_eq_true h]

theorem State.stopMultiball_quiet : s.stopMultiball.gpc = s.gpc ∧ s.stopMultiball.mst = s.mst ∧
    s.stopMultiball.tmu = s.tmu ∧ s.ntu.Grows s.stopMultiball.ntu := by
  unfold State.stopMultiball
  split
  · exact ⟨rfl, rfl, rfl, Ntu.grows_raise ..⟩
  · exact ⟨rfl, rfl, rfl, .refl _⟩

/-- What END_GAME does once the contexts have ended. -/
def State.closedGame (v : State) : State := v.stopMultiball.releaseBound.raise .gameOver

theorem State.closedGame_fields (v : State) : v.closedGame.lmc = { v.lmc with multiball := false } ∧
    v.closedGame.mst = v.mst ∧ v.ntu.Grows v.closedGame.ntu ∧ v.closedGame.hasNotice .gameOver = true ∧
    (v.lmc.multiball = true → v.closedGame.hasNotice .multiballEnd = true) ∧
    ∀ u : Fin 16, v.closedGame.tmu.timers[u] = (v.tmu.timers[u]).bind fun r => if r.binding = .user then some r else none := by
  obtain ⟨-, hmst, htmu, hgrows⟩ := State.stopMultiball_quiet (s := v)
  have hrest (w : State) : (w.releaseBound.raise .gameOver).lmc = w.lmc ∧ (w.releaseBound.raise .gameOver).mst = w.mst ∧
      w.ntu.Grows (w.releaseBound.raise .gameOver).ntu ∧
      (w.releaseBound.raise .gameOver).tmu = w.releaseBound.tmu := 
    ⟨by simp, by simp, by simpa using Ntu.grows_raise .., by simp⟩
  obtain ⟨h1, h2, h3, h4⟩ := hrest v.stopMultiball
  rw [State.closedGame, h1, h2, h4, hmst, v.stopMultiball_lmc]
  refine ⟨rfl, rfl, hgrows.trans h3, State.hasNotice_raise_self .., fun hb => State.hasNotice_of_grows h3 ?_, fun u => ?_⟩
  · rw [State.stopMultiball, if_pos hb]
    exact State.hasNotice_raise_self ..
  · rw [State.releaseBound_timers, htmu]

theorem State.endGame_eq (s : State) : s.endGame = s.gameStopped.closedGame := rfl

theorem State.endGame_swept (hm : ModeLaw s) (ht : TimerLaw s) :
    (s.setGame .gameOver).Swept s.gameStopped (List.finRange 12) s.isStanding (fun _ => true)
      (fun _ c => c.endedWith .gameEnded (s.remainingOf c)) :=
  State.endAll_swept (s := s.setGame .gameOver) (modeLaw_iff.mp hm).1 ((timerLaw_iff hm).mp ht)
    (fun t x _ hat => by
      have hslot : t.slot? x = (s.setGame .gameOver).slot? x := hat
      rw [State.isStanding, State.isStanding, hslot])
    fun _ hx => State.isStanding_iff.mp hx

theorem State.endGame_records (s : State) : s.endGame.gpc = { s.gpc with game := .gameOver } ∧ s.endGame.ptb = s.ptb ∧
    s.endGame.bdt = s.bdt ∧ s.endGame.swi = s.swi ∧ s.endGame.lmc = { s.lmc with multiball := false } ∧
    s.endGame.hasNotice .gameOver = true ∧ (s.lmc.multiball = true → s.endGame.hasNotice .multiballEnd = true) := by
  have hlmc : s.gameStopped.lmc = s.lmc := by simp [State.gameStopped, State.setGame]
  obtain ⟨hl, -, -, hover, hend, -⟩ := s.gameStopped.closedGame_fields
  rw [← State.endGame_eq, hlmc] at hl hend
  rw [← State.endGame_eq] at hover
  exact ⟨by simp [State.endGame, State.setGame], by simp [State.endGame, State.setGame],
    by simp [State.endGame, State.setGame], by simp [State.endGame, State.setGame], hl, hover, hend⟩

theorem State.endGame_contexts (hm : ModeLaw s) (ht : TimerLaw s) : s.endGame.mst.stack = [] ∧
    s.endGame.mst.pauseOrder = [] ∧ s.endGame.mst.ended = s.mst.ended ++ (List.finRange 12).filter s.isStanding ∧
    (∀ x : Fin 12, s.isStanding x = false → s.endGame.mst.slots[x] = s.mst.slots[x]) ∧
    (∀ (x : Fin 12) (c : Context), s.mst.slots[x] = some c → s.isStanding x = true →
      s.endGame.hasNotice (.modeEnded x) = true ∧ s.endGame.mst.slots[x] =
        some { c with phase := .ended .gameEnded, timer := none, stored := s.remainingOf c }) ∧
    (∀ (u : Fin 16) (r : Timer), s.tmu.timers[u] = some r →
      s.endGame.tmu.timers[u] = if r.binding = .user then some r else none) := by
  have h := State.endGame_swept hm ht
  obtain ⟨hfits, -⟩ := modeLaw_iff.mp hm
  have htimed := (timerLaw_iff hm).mp ht
  obtain ⟨-, hmst, hgrows, -, -, htimers⟩ := s.gameStopped.closedGame_fields
  rw [← State.endGame_eq] at hmst hgrows
  simp only [← State.endGame_eq] at htimers
  rw [hmst]
  have hstands {y : Fin 12} {d : Context} (hd : s.mst.slots[y] = some d) (hl : d.phase.live = true) :
      s.isStanding y = true := State.isStanding_iff.mpr ⟨d, hd, Phase.stands_of_live hl⟩
  refine ⟨?_, ?_, ?_, fun x hx => h.kept x (.inr hx), fun x c hc hx => ⟨?_, ?_⟩, fun u r hr => ?_⟩
  · refine h.stack.trans (List.filter_eq_nil_iff.mpr fun y hy => ?_)
    obtain ⟨d, hd, hrun⟩ := (hfits.stack y).mp hy
    have hst := hstands hd (by rw [hrun]; rfl)
    simp [hst]
  · refine h.pauseOrder.trans (List.filter_eq_nil_iff.mpr fun y hy => ?_)
    obtain ⟨d, hd, hpaused⟩ := (hfits.pause y).mp hy
    have hst := hstands hd (by rw [hpaused]; rfl)
    simp [hst]
  · rw [h.ended]
    simp [State.setGame]
  · exact State.hasNotice_of_grows hgrows (h.noticed x (List.mem_finRange x) hx rfl)
  · exact h.swept x (List.mem_finRange x) hx c hc
  · rw [htimers]
    by_cases hheld : ∃ y, s.isStanding y = true ∧ ∃ d : Context, s.mst.slots[y] = some d ∧ d.timer = some u
    · obtain ⟨y, hy, d, hd, hdu⟩ := hheld
      obtain ⟨tm, htm⟩ := hfits.template y d hd
      obtain ⟨q, hq, hb, -⟩ := (htimed.held y d tm hd htm).2 u hdu
      obtain rfl := Option.some.inj (hr.symm.trans hq)
      rw [h.released y (List.mem_finRange y) hy d u hd hdu, Option.bind_none, if_neg]
      rw [hb]
      unfold Template.binding
      split <;> nofun
    · have hkept : s.gameStopped.tmu.timers[u] = some r :=
        (h.held u fun y _ hy d hd hdu => hheld ⟨y, hy, d, hd, hdu⟩).trans hr
      rw [hkept, Option.bind_some]

theorem State.clearGame_fields (s : State) :
    s.clearGame.gpc = { s.gpc with game := .idle, current := none, ballNumber := 0, tilted := false } ∧
    s.clearGame.ptb = { s.ptb with players := [], commonValues := .replicate 32 0 } ∧
    s.clearGame.mst = ⟨s.mst.templates, .replicate 12 none, [], [], []⟩ ∧
    s.clearGame.lmc = { s.lmc with claims := .replicate 6 [], multiball := false } ∧ s.clearGame.bdt = s.bdt ∧
    s.clearGame.tmu = s.tmu ∧ s.clearGame.ntu = s.ntu :=
  ⟨rfl, rfl, rfl, rfl, rfl, rfl, rfl⟩

end

/-- Settles O54: a game ends by a sweep of the standing contexts, and CLEAR_GAME writes the record of IDLE. -/
theorem gamesEndAndClear : Obligations.GamesEndAndClear := by
  intro s hw
  refine ⟨fun hg => ?wrong, fun hi ho => ?ends, fun hg => ?wrongClear, fun hg => ?clears⟩
  case wrong =>
    have hno : s.gpc.game.inProgress = false := by rcases hg with hg | hg <;> rw [hg] <;> rfl
    exact takeRequest_answers hw (if_neg (by rw [hno]; nofun))
  case ends =>
    have hin : s.gpc.game.inProgress = true := by
      cases hg : s.gpc.game <;> simp_all [GameState.inProgress]
    obtain ⟨h1, h2, h3, h4, h5, h6, h7⟩ := s.endGame_records
    exact ⟨s.endGame, takeRequest_answers hw (if_pos hin), rfl, h1, h2, h3, h4, h5, h6, h7, State.endGame_contexts⟩
  case wrongClear => exact takeRequest_answers hw (if_neg hg)
  case clears =>
    obtain ⟨h1, h2, h3, h4, h5, h6, h7⟩ := s.clearGame_fields
    refine ⟨s.clearGame.answer 0x14 .ok [], takeRequest_answers hw (if_pos hg), h1, ?_⟩
    simp [State.answer, h2, h3, h4, h5, h6, h7]

end Sys2Proof.Machine
end

section
/-! PROOFS. NEXT_BALL (R174 to R176): the resumes of the incoming player's contexts (R95), and O53. -/

namespace Sys2Proof.Machine

/-! ### The order of the resumes -/

section
variable {α : Type} {key : α → Nat}

theorem insertSorted_pairwise (a : α) {l : List α} (h : l.Pairwise fun a b => key b ≤ key a) :
    (insertSorted (fun a b => decide (key b < key a)) a l).Pairwise fun a b => key b ≤ key a := by
  induction l with
  | nil => exact List.pairwise_singleton ..
  | cons x l ih =>
    obtain ⟨hx, hl⟩ := List.pairwise_cons.mp h
    unfold insertSorted
    split
    · next hlt =>
      have hlt := of_decide_eq_true hlt
      refine List.pairwise_cons.mpr ⟨fun b hb => ?_, h⟩
      rcases List.mem_cons.mp hb with rfl | hb
      · exact hlt.le
      · exact (hx b hb).trans hlt.le
    · next hge =>
      have hge : key a ≤ key x := Nat.le_of_not_lt fun hlt => hge (decide_eq_true hlt)
      refine List.pairwise_cons.mpr ⟨fun b hb => ?_, ih hl⟩
      rcases List.mem_cons.mp ((insertSorted_perm ..).mem_iff.mp hb) with rfl | hb
      · exact hge
      · exact hx b hb

theorem sortBy_pairwise (l : List α) :
    (sortBy (fun a b => decide (key b < key a)) l).Pairwise fun a b => key b ≤ key a :=
  foldl_keeps (fun l : List α => l.Pairwise fun a b => key b ≤ key a) _ (fun _ a h => insertSorted_pairwise a h) l []
    .nil

end

theorem State.parkedOf_sorted (s : State) (p : Nat) :
    (s.parkedOf p).Pairwise fun a b => s.mst.priority b ≤ s.mst.priority a := sortBy_pairwise _

/-! ### What the resumes leave (R95) -/

section
variable {s t u : State} {x : Fin 12} {c d : Context} {tm : Template} {p : Nat} {l : List (Fin 12)} {G : List (Fin 8)}
  {live ok : Prop}

/-- Context d of state t is what a resume made of the PARKED context c in slot x of state s. -/
structure State.Resumed (s t : State) (x : Fin 12) (c : Context) (tm : Template) (d : Context) : Prop where
  slot : t.mst.slots[x] = some d
  same : d = { c with phase := d.phase, timer := d.timer }
  phase : d.phase = .running ∨ d.phase = .paused ∨ d.phase = .ended .noTimer
  timed : tm.period? = none → d.phase ≠ .ended .noTimer
  untimed : d.phase = .ended .noTimer → d.timer = none ∧ ∀ u : Fin 16, t.tmu.timers[u] ≠ none
  behind : d.phase = .paused → tm.exclusionGroup ≠ 0 ∧ ∃ z, z ≠ x ∧ t.phase? z = some .running ∧
    s.mst.group z = tm.exclusionGroup ∧ tm.priority ≤ s.mst.priority z
  takes : d.phase = .running ∨ d.phase = .paused → tm.period? ≠ none → ∃ (u : Fin 16) (k : Timer),
    d.timer = some u ∧ s.tmu.timers[u] = none ∧ t.tmu.timers[u] = some k ∧ k.remaining = c.stored ∧
      some k.period = tm.period? ∧ k.binding = tm.binding x ∧
      k.state = (if d.phase = .running then .running else .frozen)

/-- It stands through the resumes of other slots. -/
theorem State.Resumed.later (h : s.Resumed t x c tm d) (hslot : u.mst.slots[x] = t.mst.slots[x])
    (hphase : ∀ z, t.phase? z = some .running → u.phase? z = some .running)
    (htimers : ∀ (v : Fin 16) (r : Timer), t.tmu.timers[v] = some r → u.tmu.timers[v] = some r) : s.Resumed u x c tm d where
  slot := hslot.trans h.slot
  same := h.same
  phase := h.phase
  timed := h.timed
  untimed hd := by
    obtain ⟨hnone, hall⟩ := h.untimed hd
    refine ⟨hnone, fun v hv => ?_⟩
    obtain ⟨r, hr⟩ := Option.ne_none_iff_exists'.mp (hall v)
    exact nomatch hv.symm.trans (htimers v r hr)
  behind hd := by
    obtain ⟨hg, z, hzx, hz, hrest⟩ := h.behind hd
    exact ⟨hg, z, hzx, hphase z hz, hrest⟩
  takes hd hp := by
    obtain ⟨v, k, hv, hfree, hk, hrest⟩ := h.takes hd hp
    exact ⟨v, k, hv, hfree, htimers v k hk, hrest⟩

/-- State t is s after the PARKED contexts in the slots of l have been resumed, G being the groups resumed. -/
structure State.ResumedAll (s t : State) (l : List (Fin 12)) (G : List (Fin 8)) : Prop where
  templates : t.mst.templates = s.mst.templates
  kept : ∀ y : Fin 12, y ∉ l → t.mst.slots[y] = s.mst.slots[y]
  timers : ∀ (v : Fin 16) (r : Timer), s.tmu.timers[v] = some r → t.tmu.timers[v] = some r
  resumed : ∀ y ∈ l, ∀ (c : Context) (tm : Template), s.mst.slots[y] = some c → s.mst.templates[c.template] = some tm →
    ∃ d, s.Resumed t y c tm d
  groups : ∀ g ∈ G, ∃ z ∈ l, t.phase? z = some .running ∧ s.mst.group z = g

theorem State.phase?_eq (hc : s.mst.slots[x] = some c) : s.phase? x = some c.phase := by
  have hslot : s.slot? x = some c := hc
  rw [State.phase?, hslot, Option.map_some]

/-- One further slot, in which the resume has been made. -/
theorem State.ResumedAll.step {G' : List (Fin 8)} (h : s.ResumedAll t l G) (hx : x ∉ l) (hc : s.mst.slots[x] = some c)
    (hp : c.phase = .parked) (htm : s.mst.templates[c.template] = some tm) (htemplates : u.mst.templates = t.mst.templates)
    (hother : ∀ y : Fin 12, y ≠ x → u.mst.slots[y] = t.mst.slots[y])
    (htimers : ∀ (w : Fin 16) (r : Timer), t.tmu.timers[w] = some r → u.tmu.timers[w] = some r)
    (hresumed : s.Resumed u x c tm d) (hgroups : ∀ g ∈ G', g ∈ G ∨ (u.phase? x = some .running ∧ s.mst.group x = g)) :
    s.ResumedAll u (l ++ [x]) G' := by
  have hphase (z : Fin 12) (hz : z ≠ x) : u.phase? z = t.phase? z := by
    have hslot : u.slot? z = t.slot? z := hother z hz
    rw [State.phase?, State.phase?, hslot]
  have hparked : t.phase? x = some .parked := by rw [State.phase?_eq ((h.kept x hx).trans hc), hp]
  have hlast : x ∈ l ++ [x] := List.mem_append_right _ (List.mem_singleton_self x)
  refine ⟨htemplates.trans h.templates, fun y hy => ?_, fun w r hr => htimers w r (h.timers w r hr),
    fun y hy c' tm' hc' htm' => ?_, fun g hg => ?_⟩
  · rw [hother y fun e => hy (e ▸ hlast)]
    exact h.kept y fun hy' => hy (List.mem_append_left _ hy')
  · rcases List.mem_append.mp hy with hy | hy
    · obtain ⟨d, hd⟩ := h.resumed y hy c' tm' hc' htm'
      refine ⟨d, hd.later (hother y fun e => hx (e ▸ hy)) (fun z hz => ?_) htimers⟩
      rwa [hphase z fun e => nomatch (e ▸ hz).symm.trans hparked]
    · obtain rfl := List.mem_singleton.mp hy
      obtain rfl := Option.some.inj (hc.symm.trans hc')
      obtain rfl := Option.some.inj (htm.symm.trans htm')
      exact ⟨d, hresumed⟩
  · rcases hgroups g hg with hg | hg
    · obtain ⟨z, hz, hrun, hgroup⟩ := h.groups g hg
      exact ⟨z, List.mem_append_left _ hz, (hphase z fun e => hx (e ▸ hz)).trans hrun, hgroup⟩
    · exact ⟨x, hlast, hg⟩

/-- One further slot, whose context has entered RUNNING or PAUSED with the timer k taken where it needs one. -/
theorem State.ResumedAll.entered {G' : List (Fin 8)} {ph : Phase} {k : Timer} {o : Option (Fin 16)} {e : List (Fin 12)}
    (h : s.ResumedAll t l G) (hx : x ∉ l) (hc : s.mst.slots[x] = some c) (hp : c.phase = .parked) (htimer : c.timer = none)
    (htm : s.mst.templates[c.template] = some tm) (ho : t.timerFor? tm = some o) (hph : ph = .running ∨ ph = .paused)
    (hmst : u.mst = { t.mst.put x { c.taking o with phase := ph } with ended := e })
    (htmu : ∀ w : Fin 16, u.tmu.timers[w] = if o = some w then some k else t.tmu.timers[w])
    (hk : k.remaining = c.stored ∧ k.period = tm.period?.getD 0 ∧ k.binding = tm.binding x ∧
      k.state = if ph = .running then .running else .frozen)
    (hbehind : ph = .paused → tm.exclusionGroup ≠ 0 ∧ ∃ z, z ∈ l ∧ t.phase? z = some .running ∧
      s.mst.group z = tm.exclusionGroup ∧ tm.priority ≤ s.mst.priority z)
    (hgroups : ∀ g ∈ G', g ∈ G ∨ (ph = .running ∧ s.mst.group x = g)) : s.ResumedAll u (l ++ [x]) G' := by
  have hfree (w : Fin 16) (hw : o = some w) : t.tmu.timers[w] = none ∧ s.tmu.timers[w] = none := by
    rcases State.timerFor?_some ho with ⟨hnone, -⟩ | ⟨w', hw', hfree, -⟩
    · exact nomatch hnone.symm.trans hw
    · obtain rfl := Option.some.inj (hw'.symm.trans hw)
      refine ⟨hfree, Option.eq_none_iff_forall_ne_some.mpr fun r hr => ?_⟩
      exact nomatch hfree.symm.trans (h.timers w' r hr)
  have hat : u.mst.slots[x] = some { c.taking o with phase := ph } := by
    rw [hmst]
    exact Mst.put_slots_same
  have hother (y : Fin 12) (hy : y ≠ x) : u.mst.slots[y] = t.mst.slots[y] := by
    rw [hmst]
    exact Mst.put_slots_other (m := t.mst) hy
  have hnot : ph ≠ .ended .noTimer := by rcases hph with rfl | rfl <;> nofun
  have hphase : u.phase? x = some ph := State.phase?_eq hat
  refine h.step hx hc hp htm (by rw [hmst]; rfl) hother (fun w r hr => ?_)
    ⟨hat, rfl, hph.imp_right .inl, fun _ => hnot, fun hn => absurd hn hnot, fun hpaused => ?_, fun _ hper => ?_⟩
    fun g hg => (hgroups g hg).imp_right fun ⟨hr, hg⟩ => ⟨hphase.trans (congrArg some hr), hg⟩
  · rw [htmu, if_neg fun hw => nomatch (hfree w hw).1.symm.trans hr]
    exact hr
  · obtain ⟨hg, z, hz, hrun, hrest⟩ := hbehind hpaused
    have hzx : z ≠ x := fun e => hx (e ▸ hz)
    have hslot : u.slot? z = t.slot? z := hother z hzx
    refine ⟨hg, z, hzx, ?_, hrest⟩
    rw [State.phase?, hslot]
    exact hrun
  · obtain ⟨w, hw, -⟩ := (State.timerFor?_some ho).resolve_left fun hn => hper hn.2
    obtain ⟨hrem, hperiod, hbind, hstate⟩ := hk
    obtain ⟨n, hn⟩ := Option.ne_none_iff_exists'.mp hper
    refine ⟨w, k, (Context.taking_timer htimer).trans hw, (hfree w hw).2, by rw [htmu, if_pos hw], hrem, ?_, hbind, hstate⟩
    rw [hperiod, hn, Option.getD_some]

/-- One further context resumed. -/
theorem State.ResumedAll.snoc (h : s.ResumedAll t l G) (ht : t.mst.Fits p live) (hx : x ∉ l)
    (hc : s.mst.slots[x] = some c) (hp : c.phase = .parked) (htimer : c.timer = none)
    (htm : s.mst.templates[c.template] = some tm) (hsorted : ∀ z ∈ l, s.mst.priority x ≤ s.mst.priority z) :
    s.ResumedAll (t.resumeOne G x).1 (l ++ [x]) (t.resumeOne G x).2 := by
  have hct : t.mst.slots[x] = some c := (h.kept x hx).trans hc
  have htmt : t.mst.templates[c.template] = some tm := by
    rw [h.templates]
    exact htm
  have hs : c.phase.stands = true := hp ▸ rfl
  rcases State.resumeOne_cases (G := G) hct htmt with ⟨hnone, he⟩ | ⟨o, ho, ⟨hg, hin, he⟩ | ⟨hnot, he⟩⟩
  · obtain ⟨hperiod, hall⟩ := State.timerFor?_none hnone
    have hput := State.endContext_put (reason := .noTimer) hct hs (ht.not_mem_ended hct hs)
    have htimers (w : Fin 16) : (t.endContext x .noTimer false).tmu.timers[w] = t.tmu.timers[w] := by
      rw [State.endContext_timers hct hs, if_neg (by rw [htimer]; nofun)]
    have hstored : t.remainingOf c = c.stored := by rw [State.remainingOf, hp]
    rw [he]
    refine h.step (d := c.endedWith .noTimer (t.remainingOf c)) hx hc hp htm (by rw [hput]; rfl) (fun y hy => ?_)
      (fun w r hr => (htimers w).trans hr) ⟨?_, ?_, .inr (.inr rfl), fun hn => absurd hn hperiod, fun _ => ?_, nofun, ?_⟩
      fun g hg => .inl hg
    · rw [hput]
      exact Mst.put_slots_other hy
    · rw [hput]
      exact Mst.put_slots_same
    · rw [Context.endedWith, hstored]
    · refine ⟨rfl, fun w => ?_⟩
      dsimp only
      rw [htimers w]
      exact hall w
    · exact fun hn => (by rcases hn with hn | hn <;> nomatch hn)
  · rw [he]
    refine h.entered hx hc hp htimer htm ho (.inr rfl) (State.takeTimer_enterPaused_mst hct)
      (State.takeTimer_enterPaused_timers hct htimer) ⟨rfl, rfl, rfl, rfl⟩ (fun _ => ⟨hg, ?_⟩) fun g hg => .inl hg
    obtain ⟨z, hz, hrun, hgroup⟩ := h.groups _ hin
    exact ⟨z, hz, hrun, hgroup, Mst.priority_eq hc htm ▸ hsorted z hz⟩
  · rw [he]
    refine h.entered hx hc hp htimer htm ho (.inl rfl) (State.takeTimer_enterRunning_mst hct)
      (State.takeTimer_enterRunning_timers hct htimer) ⟨rfl, rfl, rfl, rfl⟩ nofun fun g hg => ?_
    rcases List.mem_cons.mp hg with rfl | hg
    · exact .inr ⟨rfl, Mst.group_eq hc htm⟩
    · exact .inl hg

/-- The resumes of a list of PARKED contexts, the highest priority first (R95). -/
theorem State.resumes_resumed (hs : s.mst.Fits p live) (hts : s.mst.Timed s.tmu.timers live) (hl : live)
    (hrest : ∀ (y : Fin 12) (d : Context), s.mst.slots[y] = some d → d.phase ≠ .running) (l : List (Fin 12)) (hnodup : l.Nodup)
    (hparked : ∀ x ∈ l, s.ParkedOwn p x) (hsorted : l.Pairwise fun a b => s.mst.priority b ≤ s.mst.priority a) :
    s.ResumedAll (l.foldl (fun acc slot => acc.1.resumeOne acc.2 slot) (s, [])).1 l
      (l.foldl (fun acc slot => acc.1.resumeOne acc.2 slot) (s, [])).2 := by
  induction l using List.reverseRecOn with
  | nil => exact ⟨rfl, fun _ _ => rfl, fun _ _ hr => hr, fun _ hy => absurd hy List.not_mem_nil,
      fun _ hg => absurd hg List.not_mem_nil⟩
  | append_singleton l x ih =>
    have hx : x ∉ l := fun hx => (List.nodup_append'.mp hnodup).2.2 hx (List.mem_singleton_self x)
    have hl' := (List.nodup_append'.mp hnodup).1
    have hparked' (y : Fin 12) (hy : y ∈ l) := hparked y (List.mem_append_left _ hy)
    obtain ⟨hsorted', -, hlast⟩ := List.pairwise_append.mp hsorted
    have hkept : ModesKept p live True s (l.foldl (fun acc slot => acc.1.resumeOne acc.2 slot) (s, [])).1 :=
      .resumes hl hl' hparked' fun y d hd hdr => absurd hdr (hrest y d hd)
    obtain ⟨c, hc, hp, -⟩ := hparked x (List.mem_append_right _ (List.mem_singleton_self x))
    obtain ⟨tm, htm⟩ := hs.template x c hc
    rw [List.foldl_append, List.foldl_cons, List.foldl_nil]
    exact (ih hl' hparked' hsorted').snoc (hkept.modes hs) hx hc hp (hts.untimed hs hc (by rw [hp]; rfl)) htm
      fun z hz => hlast z hz x (List.mem_singleton_self x)

theorem State.resumeAll_resumed (hs : s.mst.Fits p live) (hts : s.mst.Timed s.tmu.timers live) (hl : live)
    (hrest : ∀ (y : Fin 12) (d : Context), s.mst.slots[y] = some d → d.phase ≠ .running) :
    ∃ G, s.ResumedAll (s.resumeAll p) (s.parkedOf p) G :=
  ⟨_, State.resumes_resumed hs hts hl hrest _ ((s.parkedOf_perm p).nodup_iff.mpr ((List.nodup_finRange 12).filter _))
    (fun _ hx => State.mem_parkedOf.mp hx) (s.parkedOf_sorted p)⟩

/-- A resume leaves each slot its template. -/
theorem State.ResumedAll.template? (h : s.ResumedAll t l G) (hs : s.mst.Fits p live)
    (hl : ∀ x ∈ l, ∃ c, s.mst.slots[x] = some c) (z : Fin 12) : t.mst.template? z = s.mst.template? z := by
  by_cases hz : z ∈ l
  · obtain ⟨c, hc⟩ := hl z hz
    obtain ⟨tm, htm⟩ := hs.template z c hc
    obtain ⟨d, hd⟩ := h.resumed z hz c tm hc htm
    rw [Mst.template?_eq hc, Mst.template?_eq hd.slot, h.templates, hd.same]
  · rw [Mst.template?, Mst.template?, h.kept z hz, h.templates]

/-! ### NEXT_BALL -/

/-- What an eject request leaves of the devices (R116). -/
theorem State.requestEject_devices (s : State) (d : Fin 6) (n : Nat) :
    ((s.requestEject d n).1.device d).ejectPending = (s.device d).ejectPending + (s.device d).adds n ∧
    (∀ e, e ≠ d → (s.requestEject d n).1.device e = s.device e) ∧
    (s.requestEject d n).1.bdt.ballsInPlay = s.bdt.ballsInPlay ∧
    (s.requestEject d n).1.bdt.tracking = s.bdt.tracking := by
  refine ⟨?_, fun e he => State.requestEject_other he, ?_⟩
  · rcases s.requestEject_cases d n with ⟨h0, he⟩ | ⟨-, hp, he⟩ | ⟨-, -, he⟩ <;> rw [he]
    · rw [h0, Nat.add_zero]
    · exact (congrArg Device.ejectPending (State.withDevice_same d _)).trans (by rw [hp, Nat.zero_add])
    · exact congrArg Device.ejectPending (State.withDevice_same d _)
  · rcases s.requestEject_cases d n with ⟨-, he⟩ | ⟨-, -, he⟩ | ⟨-, -, he⟩ <;> rw [he] <;> exact ⟨rfl, rfl⟩

theorem State.spendExtraBall_eq {n : Nat} {q : Player} (hcur : s.gpc.current = some (n + 1))
    (hq : s.ptb.players[n]? = some q) :
    s.spendExtraBall = s.withPlayer n { q with extraBalls := q.extraBalls - 1 } := by
  rw [State.spendExtraBall, State.currentPlayer, hcur]
  exact State.modifyPlayer_present _ hq

theorem State.chooseBall_eq {n b : Nat} {q : Player} (hcur : s.gpc.current = some (n + 1))
    (hq : s.ptb.players[n]? = some q) (h1 : 0 < q.extraBalls → p = n + 1 ∧ b = s.gpc.ballNumber)
    (h2 : q.extraBalls = 0 → n + 1 < s.ptb.players.length → p = n + 2 ∧ b = s.gpc.ballNumber)
    (h3 : q.extraBalls = 0 → s.ptb.players.length ≤ n + 1 → p = 1 ∧ b = s.gpc.ballNumber + 1) :
    s.chooseBall = (p, b) := by
  have hplayer : s.currentPlayer = n + 1 := by rw [State.currentPlayer, hcur, Option.getD_some]
  have hextra : s.extraBallsOf (n + 1) = q.extraBalls := congrArg (fun o => (Option.map Player.extraBalls o).getD 0) hq
  rw [State.chooseBall, hplayer, hextra]
  split
  · next hpos =>
    obtain ⟨rfl, rfl⟩ := h1 hpos
    rfl
  · next hzero =>
    have hzero := Nat.eq_zero_of_not_pos hzero
    split
    · next hlt =>
      obtain ⟨rfl, rfl⟩ := h2 hzero hlt
      rfl
    · next hge =>
      obtain ⟨rfl, rfl⟩ := h3 hzero (Nat.le_of_not_lt hge)
      rfl

/-- A NEXT_BALL that continues the game: what the resumes do not decide. -/
theorem State.continueGame_records (s : State) (p b : Nat) : (s.continueGame p b).ptb = s.ptb ∧
    (s.continueGame p b).lmc = s.lmc ∧ (s.continueGame p b).swi = s.swi ∧
    (s.continueGame p b).mst = ((s.rotated p b).resumeAll p).mst ∧
    (s.continueGame p b).tmu = ((s.rotated p b).resumeAll p).tmu ∧
    (s.continueGame p b).gpc = { s.gpc with
      game := .starting, current := some p, ballNumber := b, tilted := decide (s.lineState = .tilted) } ∧
    ((s.continueGame p b).device 0).ejectPending = (s.device 0).ejectPending + (s.device 0).adds 1 ∧
    (∀ d, d ≠ 0 → (s.continueGame p b).device d = s.device d) ∧
    (s.continueGame p b).bdt.ballsInPlay = s.bdt.ballsInPlay ∧ (s.continueGame p b).bdt.tracking = s.bdt.tracking := by
  have hbdt : (((s.rotated p b).resumeAll p).setGame .starting).bdt = s.bdt := by simp [State.setGame, State.rotated]
  have hdev (d : Fin 6) : (((s.rotated p b).resumeAll p).setGame .starting).device d = s.device d := by
    rw [State.device, State.device, hbdt]
  have hgpc : (((s.rotated p b).resumeAll p).setGame .starting).gpc = { s.gpc with
      game := .starting, current := some p, ballNumber := b, tilted := decide (s.lineState = .tilted) } := by
    have hresumed : ((s.rotated p b).resumeAll p).gpc = (s.rotated p b).gpc := by simp
    have hset : (((s.rotated p b).resumeAll p).setGame .starting).gpc =
        { ((s.rotated p b).resumeAll p).gpc with game := .starting } := rfl
    rw [hset, hresumed, State.rotated, State.clearTilt_gpc]
    rfl
  have hrest : (((s.rotated p b).resumeAll p).setGame .starting).ptb = s.ptb ∧
      (((s.rotated p b).resumeAll p).setGame .starting).lmc = s.lmc ∧
      (((s.rotated p b).resumeAll p).setGame .starting).swi = s.swi := by simp [State.setGame, State.rotated]
  have hmst : (((s.rotated p b).resumeAll p).setGame .starting).mst = ((s.rotated p b).resumeAll p).mst := rfl
  have htmu : (((s.rotated p b).resumeAll p).setGame .starting).tmu = ((s.rotated p b).resumeAll p).tmu := rfl
  obtain ⟨hptb, hlmc, hswi⟩ := hrest
  rw [State.continueGame_eq]
  generalize ((s.rotated p b).resumeAll p).setGame .starting = v at *
  obtain ⟨h1, h2, h3, h4⟩ := v.requestEject_devices 0 1
  rw [← hmst, ← htmu, ← hgpc, ← hptb, ← hlmc, ← hswi, ← hbdt, ← hdev 0]
  refine ⟨by simp [State.launch], by simp [State.launch], by simp [State.launch], by simp [State.launch],
    by simp [State.launch], by simp [State.launch], h1, fun d hd => ?_, h3, h4⟩
  rw [← hdev d]
  exact h2 d hd

/-- Where no ball is in play, a turn passes without a change of the timers. -/
theorem State.rotated_timers (hu : UserOnly s.tmu.timers) (p b : Nat) : (s.rotated p b).tmu.timers = s.tmu.timers := by
  have hat (v : Fin 16) : (s.rotated p b).tmu.timers[v] = s.tmu.timers[v] :=
    State.clearTilt_timer (s := { s with gpc := { s.gpc with current := some p, ballNumber := b } }) fun r hr hb =>
      nomatch (hu v r hr).symm.trans hb
  exact Vector.ext fun i hi => hat ⟨i, hi⟩

/-- A NEXT_BALL that continues the game: the contexts of the incoming player (R95). -/
theorem State.continueGame_resumes (hm : ModeLaw s) (ht : TimerLaw s) (hg : s.gpc.game = .ballOver) (p b : Nat) :
    ∃ l G, s.ResumedAll (s.continueGame p b) l G ∧ ∀ x, x ∈ l ↔ s.ParkedOwn p x := by
  obtain ⟨hfits, -⟩ := modeLaw_iff.mp hm
  have htimed := (timerLaw_iff hm).mp ht
  have hnot := State.not_plays_of_ballOver hg
  have hstill := hfits.still hnot
  have huser := htimed.userOnly hnot
  have hmst : (s.rotated p b).mst = s.mst := State.rotated_mst ..
  have htmu := State.rotated_timers huser p b
  obtain ⟨-, -, -, h1, h2, -⟩ := s.continueGame_records p b
  obtain ⟨G, h⟩ := State.resumeAll_resumed (s := s.rotated p b) (p := p) (live := True) (hmst ▸ hfits.of_still hstill)
    (by rw [hmst, htmu]; exact htimed.of_user huser) trivial fun y d hd hdr => by
      rw [hmst] at hd
      nomatch (hdr ▸ hstill y d hd : Phase.live .running = false)
  have hphase (z : Fin 12) : (s.continueGame p b).phase? z = ((s.rotated p b).resumeAll p).phase? z := by
    rw [State.phase?, State.phase?, State.slot?, State.slot?, h1]
  refine ⟨(s.rotated p b).parkedOf p, G, ⟨?_, fun y hy => ?_, fun v r hr => ?_, fun y hy c tm hc htm => ?_, fun g hg => ?_⟩, fun x => ?_⟩
  · rw [h1, h.templates, hmst]
  · rw [h1, h.kept y hy, hmst]
  · rw [h2]
    exact h.timers v r (by rw [htmu]; exact hr)
  · obtain ⟨d, hd⟩ := h.resumed y hy c tm (by rw [hmst]; exact hc) (by rw [hmst]; exact htm)
    refine ⟨d, ⟨by rw [h1]; exact hd.slot, hd.same, hd.phase, hd.timed, fun hn => ?_, fun hn => ?_, fun hn hp => ?_⟩⟩
    · rw [h2]
      exact hd.untimed hn
    · obtain ⟨hgr, z, hzy, hz, hrest⟩ := hd.behind hn
      rw [hmst] at hrest
      exact ⟨hgr, z, hzy, (hphase z).trans hz, hrest⟩
    · obtain ⟨v, k, hv, hfree, hk, hrest⟩ := hd.takes hn hp
      rw [htmu] at hfree
      exact ⟨v, k, hv, hfree, by rw [h2]; exact hk, hrest⟩
  · obtain ⟨z, hz, hrun, hgroup⟩ := h.groups g hg
    rw [hmst] at hgroup
    exact ⟨z, hz, (hphase z).trans hrun, hgroup⟩
  · rw [State.mem_parkedOf, State.ParkedOwn, State.ParkedOwn, hmst]

/-- PARKED contexts hold no timer, and their end releases none. -/
theorem State.endParked_tmu {reason : EndReason} (hs : s.mst.Fits p live)
    (hfree : ∀ (x : Fin 12) (c : Context), s.mst.slots[x] = some c → c.phase = .parked → c.timer = none) :
    (s.endAll State.isParked reason).tmu = s.tmu := by
  suffices hfold : (s.endAll State.isParked reason).mst.Fits p live ∧ (s.endAll State.isParked reason).tmu = s.tmu ∧
      ∀ (x : Fin 12) (c : Context), (s.endAll State.isParked reason).mst.slots[x] = some c → c.phase = .parked →
        c.timer = none from hfold.2.1
  unfold State.endAll
  refine foldl_keeps (fun t : State => t.mst.Fits p live ∧ t.tmu = s.tmu ∧
    ∀ (x : Fin 12) (c : Context), t.mst.slots[x] = some c → c.phase = .parked → c.timer = none) _ ?_ _ s ⟨hs, rfl, hfree⟩
  rintro t x ⟨ht, htmu, hfree⟩
  split
  · next hx =>
    obtain ⟨c, hc, hp⟩ : ∃ c, t.mst.slots[x] = some c ∧ c.phase = .parked := by
      rw [State.isParked, State.slot?] at hx
      cases hc : t.mst.slots[x] with
      | none =>
        rw [hc] at hx
        nomatch hx
      | some c =>
        rw [hc] at hx
        exact ⟨c, rfl, of_decide_eq_true hx⟩
    have hst : c.phase.stands = true := hp ▸ rfl
    have hkept : ModesKept p live True t (t.endContext x reason false) := .endContext t x reason
    refine ⟨hkept.modes ht, ?_, fun y d hd hdp => ?_⟩
    · rw [State.endContext_quiet hc hst, hfree x c hc hp, ← htmu]
      simp [State.releaseHeld]
    · by_cases hyx : y = x
      · subst hyx
        obtain ⟨hstill, -⟩ := State.endContext_still (reason := reason) ht hc hst
        have hput := State.endContext_put (reason := reason) hc hst (ht.not_mem_ended hc hst)
        simp only [hput] at hd
        obtain rfl := Option.some.inj (Mst.put_slots_same.symm.trans hd)
        nomatch hdp
      · obtain ⟨-, hother⟩ := State.endContext_still (reason := reason) ht hc hst
        exact hfree y d ((hother y hyx).symm.trans hd) hdp
  · exact ⟨ht, htmu, hfree⟩

/-- A NEXT_BALL that ends the game (R176). -/
theorem State.finishGame_ends (hm : ModeLaw s) (ht : TimerLaw s) : s.finishGame.gpc = { s.gpc with game := .gameOver } ∧
    s.finishGame.bdt = s.bdt ∧ s.finishGame.ptb = s.ptb ∧ s.finishGame.lmc = s.lmc ∧ s.finishGame.swi = s.swi ∧
    s.finishGame.tmu = s.tmu ∧ s.finishGame.hasNotice .gameOver = true ∧
    (∀ (x : Fin 12) (c : Context), s.mst.slots[x] = some c → c.phase = .parked →
      s.finishGame.mst.slots[x] = some { c with phase := .ended .gameEnded } ∧
        s.finishGame.hasNotice (.modeEnded x) = true) ∧
    ∀ x : Fin 12, s.phase? x ≠ some .parked → s.finishGame.mst.slots[x] = s.mst.slots[x] := by
  obtain ⟨hfits, -⟩ := modeLaw_iff.mp hm
  have htimed := (timerLaw_iff hm).mp ht
  have hparked (x : Fin 12) : s.isParked x = true ↔ ∃ c, s.mst.slots[x] = some c ∧ c.phase = .parked := by
    rw [State.isParked, State.slot?]
    cases hc : s.mst.slots[x] with
    | none => simp
    | some c => simp
  have huntimed {x : Fin 12} {c : Context} (hc : s.mst.slots[x] = some c) (hp : c.phase = .parked) : c.timer = none :=
    htimed.untimed hfits hc (by rw [hp]; rfl)
  have h : (s.setGame .gameOver).Swept ((s.setGame .gameOver).endAll State.isParked .gameEnded) (List.finRange 12) s.isParked
      (fun _ => true) (fun _ c => c.endedWith .gameEnded (s.remainingOf c)) :=
    State.endAll_swept (s := s.setGame .gameOver) hfits htimed
      (fun t x _ hat => by
        have hslot : t.slot? x = (s.setGame .gameOver).slot? x := hat
        rw [State.isParked, State.isParked, hslot])
      fun x hx => by
        obtain ⟨c, hc, hp⟩ := (hparked x).mp hx
        exact ⟨c, hc, by rw [hp]; rfl⟩
  have hframe : ((s.setGame .gameOver).endAll State.isParked .gameEnded).gpc = { s.gpc with game := .gameOver } ∧
      ((s.setGame .gameOver).endAll State.isParked .gameEnded).bdt = s.bdt ∧
      ((s.setGame .gameOver).endAll State.isParked .gameEnded).ptb = s.ptb ∧
      ((s.setGame .gameOver).endAll State.isParked .gameEnded).lmc = s.lmc ∧
      ((s.setGame .gameOver).endAll State.isParked .gameEnded).swi = s.swi := by simp [State.setGame]
  have htmu : ((s.setGame .gameOver).endAll State.isParked .gameEnded).tmu = s.tmu :=
    State.endParked_tmu (s := s.setGame .gameOver) hfits fun _ _ => huntimed
  unfold State.finishGame
  generalize (s.setGame .gameOver).endAll State.isParked .gameEnded = v at h hframe htmu ⊢
  obtain ⟨h1, h2, h3, h4, h5⟩ := hframe
  refine ⟨h1, h2, h3, h4, h5, htmu, State.hasNotice_raise_self .., fun x c hc hp => ?_, fun x hx => ?_⟩
  · have hx := (hparked x).mpr ⟨c, hc, hp⟩
    refine ⟨?_, State.hasNotice_raise_of (h.noticed x (List.mem_finRange x) hx rfl)⟩
    refine (h.swept x (List.mem_finRange x) hx c hc).trans ?_
    rw [Context.endedWith, State.remainingOf, hp, ← huntimed hc hp]
  · refine h.kept x (.inr (Bool.eq_false_of_not_eq_true fun hp => ?_))
    obtain ⟨c, hc, hp⟩ := (hparked x).mp hp
    exact hx (by rw [State.phase?_eq hc, hp])

end

/-- Settles O53: the turn is chosen, the game ends by a sweep of the PARKED contexts, or goes on with the resumes of the
incoming player's. -/
theorem nextBallChoosesThePlayer : Obligations.NextBallChoosesThePlayer := by
  intro s hw
  refine ⟨fun hg => takeRequest_answers hw (if_neg hg), ?_⟩
  intro n p b q trough hg hcur hq hm ht htrough h1 h2 h3
  have hnext : nextBall s = (s.nextBall, .ok s.nextBall.ballImage) := if_pos hg
  have hspent := State.spendExtraBall_eq hcur hq
  have hlen : n < s.ptb.players.length := (List.getElem?_eq_some_iff.mp hq).1
  have hrun : s.nextBall = if s.gpc.params.ballsPerGame < b then s.spendExtraBall.finishGame
      else s.spendExtraBall.continueGame p b := by
    rw [State.nextBall, State.chooseBall_eq hcur hq h1 h2 h3, hspent]
    rfl
  generalize s.spendExtraBall = v at hrun hspent
  have hv : v.gpc = s.gpc ∧ v.mst = s.mst ∧ v.tmu = s.tmu ∧ v.bdt = s.bdt ∧ v.lmc = s.lmc ∧ v.swi = s.swi ∧
      v.ptb = { s.ptb with players := s.ptb.players.set n { q with extraBalls := q.extraBalls - 1 } } := by
    rw [hspent]
    exact ⟨rfl, rfl, rfl, rfl, rfl, rfl, rfl⟩
  obtain ⟨hvg, hvm, hvt, hvb, hvl, hvs, hvp⟩ := hv
  have hlaws : ModeLaw v ∧ TimerLaw v := by
    rw [hspent]
    exact ⟨hm, ht⟩
  obtain ⟨hmv, htv⟩ := hlaws
  have hline : v.lineState = s.lineState := by rw [hspent]; rfl
  have hexec : exec (.nextBall []) s = .next (s.nextBall.answer 0x12 .ok s.nextBall.ballImage) :=
    takeRequest_answers hw hnext
  by_cases hb : s.gpc.params.ballsPerGame < b
  · rw [if_pos hb] at hrun
    rw [hrun] at hexec
    obtain ⟨k1, k2, k3, k4, k5, k6, k7, k8, k9⟩ := State.finishGame_ends hmv htv
    generalize v.finishGame = t at *
    have hcurrent : t.currentPlayer = n + 1 := by rw [State.currentPlayer, k1, hvg, hcur, Option.getD_some]
    have hextra : t.extraBallsOf (n + 1) = q.extraBalls - 1 := by
      have hat : t.player? (n + 1) = some { q with extraBalls := q.extraBalls - 1 } := by
        rw [State.player?, k3, hvp]
        exact List.getElem?_set_self hlen
      rw [State.extraBallsOf, hat, Option.map_some, Option.getD_some]
    have himage : t.ballImage = [small (n + 1), small s.gpc.ballNumber, 4, small (q.extraBalls - 1)] := by
      rw [State.ballImage, hcurrent, hextra, k1, hvg]
      rfl
    refine ⟨_, q, hexec, k3.trans hvp, k4.trans hvl, ?_, ?_, k5.trans hvs, fun _ => ?_, fun hle => absurd hb (Nat.not_lt.mpr hle)⟩
    · exact (congrArg Bdt.ballsInPlay (k2.trans hvb))
    · exact (congrArg Bdt.tracking (k2.trans hvb))
    · refine ⟨by rw [himage]; rfl, by rw [← hvg]; exact k1, k2.trans hvb, k6.trans hvt, k7, fun x c hc hp => ?_, fun x hx => ?_⟩
      · exact k8 x c (by rw [hvm]; exact hc) hp
      · have hphase : v.phase? x = s.phase? x := by rw [State.phase?, State.phase?, State.slot?, State.slot?, hvm]
        refine (k9 x (by rw [hphase]; exact hx)).trans ?_
        rw [hvm]
  · rw [if_neg hb] at hrun
    rw [hrun] at hexec
    obtain ⟨k1, k2, k3, -, -, k6, k7, k8, k9, k10⟩ := v.continueGame_records p b
    obtain ⟨l, G, hall, hmem⟩ := State.continueGame_resumes hmv htv (by rw [hvg]; exact hg) p b
    generalize v.continueGame p b = t at *
    have hp : 1 ≤ p ∧ p ≤ s.ptb.players.length := by
      by_cases hx : 0 < q.extraBalls
      · obtain ⟨rfl, -⟩ := h1 hx
        omega
      · by_cases hn : n + 1 < s.ptb.players.length
        · obtain ⟨rfl, -⟩ := h2 (Nat.eq_zero_of_not_pos hx) hn
          omega
        · obtain ⟨rfl, -⟩ := h3 (Nat.eq_zero_of_not_pos hx) (Nat.le_of_not_lt hn)
          omega
    obtain ⟨m, rfl⟩ : ∃ m, p = m + 1 := ⟨p - 1, by omega⟩
    have hplayers : m < t.ptb.players.length := by
      rw [k1, hvp, List.length_set]
      omega
    obtain ⟨q', hq'⟩ : ∃ q', t.ptb.players[m]? = some q' := ⟨_, List.getElem?_eq_getElem hplayers⟩
    have hcurrent : t.currentPlayer = m + 1 := by rw [State.currentPlayer, k6, Option.getD_some]
    have hextra : t.extraBallsOf (m + 1) = q'.extraBalls := congrArg (fun o => (Option.map Player.extraBalls o).getD 0) hq'
    have himage : t.ballImage = [small (m + 1), small b, 1, small q'.extraBalls] := by
      rw [State.ballImage, hcurrent, hextra, k6]
      rfl
    have hdev (d : Fin 6) : v.device d = s.bdt.devices[d] := by rw [State.device, hvb]
    refine ⟨_, q', hexec, k1.trans hvp, k2.trans hvl, k9.trans (by rw [hvb]), k10.trans (by rw [hvb]), k3.trans hvs,
      fun hlt => absurd hlt hb, fun _ => ⟨hq', by rw [himage]; rfl, ?_, ?_, ?_, ?_, ?_⟩⟩
    · rw [← hline, ← hvg]
      exact k6
    · rw [hdev, htrough] at k7
      exact k7
    · exact fun d hd => (k8 d hd).trans (hdev d)
    · intro x c hc hno
      refine (hall.kept x fun hx => ?_).trans (by rw [hvm]; exact hc)
      obtain ⟨c', hc', hp', ho'⟩ := (hmem x).mp hx
      rw [hvm] at hc'
      obtain rfl := Option.some.inj (hc'.symm.trans hc)
      exact hno.elim (fun h => h hp') fun h => h ho'
    · intro x c tm hc hp' ho' htm
      obtain ⟨hfits, -⟩ := modeLaw_iff.mp hmv
      have hx : x ∈ l := (hmem x).mpr ⟨c, by rw [hvm]; exact hc, hp', ho'⟩
      obtain ⟨d, hd⟩ := hall.resumed x hx c tm (by rw [hvm]; exact hc) (by rw [hvm]; exact htm)
      have htemplate (z : Fin 12) := hall.template? hfits (fun y hy => let ⟨c, hc, _⟩ := (hmem y).mp hy; ⟨c, hc⟩) z
      refine ⟨d, hd.slot, hd.same, hd.phase, hd.timed, hd.untimed, fun hpaused => ?_, fun hlive hper => ?_⟩
      · obtain ⟨hg0, z, hzx, hz, hgroup, hprio⟩ := hd.behind hpaused
        refine ⟨hg0, z, hzx, hz, ?_, ?_⟩
        · exact (congrArg (fun o => (Option.map Template.exclusionGroup o).getD 0) (htemplate z)).trans hgroup
        · exact hprio.trans_eq (congrArg (fun o => (Option.map Template.priority o).getD 0) (htemplate z)).symm
      · obtain ⟨u, k, hu, hfree, hrest⟩ := hd.takes hlive hper
        exact ⟨u, k, hu, by rw [← hvt]; exact hfree, hrest⟩

end Sys2Proof.Machine
end

section
/-! PROOFS. TMU (08): the tick, the expiries of timers of no context, and the USER timer requests: O44 and O45. -/

namespace Sys2Proof.Machine

section
variable {s t : State} {u : Fin 16} {r : Timer}

/-! ### The tick (R147, R148) -/

theorem State.tmuTick_at (s : State) (u : Fin 16) :
    s.tmuTick.tmu.timers[u] = (s.tmu.timers[u]).map (fun r => if s.counts r then r.lower else r) ∧
    s.tmuTick.tmu.expiring[u] = (s.tmu.expiring[u] || (s.tmu.timers[u]).any s.expires) := by
  refine ⟨mapTable_getElem .., ?_⟩
  simp only [State.tmuTick, Fin.getElem_fin, Vector.getElem_ofFn]

theorem State.tmuTick_rest (s : State) : { s.tmuTick with tmu := s.tmu } = s := by
  unfold State.tmuTick
  rfl

theorem State.counts_eq_true (hr : r.state = .running)
    (h : r.pauses = false ∨ (s.lineState ≠ .held ∧ s.gpc.game = .inPlay ∧ s.bdt.ballsInPlay ≠ 0)) : s.counts r = true := by
  rcases h with h | ⟨h1, h2, h3⟩
  · simp [State.counts, State.pauseHolds, hr, h]
  · simp [State.counts, State.pauseHolds, hr, h1, h2, h3]

theorem State.counts_eq_false (h : r.state ≠ .running ∨
    (r.pauses = true ∧ (s.lineState = .held ∨ s.gpc.game ≠ .inPlay ∨ s.bdt.ballsInPlay = 0))) : s.counts r = false := by
  rcases h with h | ⟨hp, h | h | h⟩ <;> simp [State.counts, State.pauseHolds, *]

/-! ### Expiries (R149, R150) -/

theorem exec_timerExpiry_none (h : s.tmu.expiring[u] = false ∨
    (∀ r : Timer, s.tmu.timers[u] = some r → r.state ≠ .running)) : exec (.timerExpiry u) s = .next s := by
  change execTimerExpiry u s = _
  unfold execTimerExpiry
  split
  · next r hr =>
    rw [if_neg]
    rintro ⟨he, hrun⟩
    exact h.elim (fun h => nomatch he.symm.trans h) fun h => h r hr hrun
  · rfl

theorem exec_timerExpiry_taken (hr : s.tmu.timers[u] = some r) (hrun : r.state = .running)
    (he : s.tmu.expiring[u] = true) : exec (.timerExpiry u) s = .next (s.takeExpiry u r) := by
  change execTimerExpiry u s = _
  simp only [execTimerExpiry, hr, if_pos (And.intro he hrun)]

theorem State.takeExpiry_more (h : 1 < r.remaining) :
    s.takeExpiry u r = s.withTimer u (some { r with remaining := r.remaining - 1 }) := if_neg (Nat.not_le.mpr h)

/-- The count brought to 0 before the expiry acts. -/
def State.atZero (s : State) (u : Fin 16) (r : Timer) : State := s.setTimer u (some { r with remaining := 0 })

theorem State.takeExpiry_last (h : r.remaining ≤ 1) :
    s.takeExpiry u r = (s.atZero u r).expire u { r with remaining := 0 } := if_pos h

theorem State.atZero_release : (s.atZero u r).releaseTimer u = s.withTimer u none := State.setTimer_again

theorem State.expire_user {q : Timer} (hb : q.binding = .user) : s.expire u q = s.userExpiry u q := by
  simp only [State.expire, hb]

theorem State.userExpiry_once {q : Timer} (hk : q.kind ≠ .periodic) : s.userExpiry u q =
    (s.modifyTimer u fun r => { r with state := .idle, remaining := 0 }).raise (.userTimer u) := by
  unfold State.userExpiry
  split
  · next h => exact absurd h hk
  · rfl
  · rfl

theorem State.userExpiry_periodic {q : Timer} (hk : q.kind = .periodic) :
    s.userExpiry u q = (s.modifyTimer u Timer.load).raise (.userTimer u) := by
  simp only [State.userExpiry, hk]
  rfl

theorem State.takeExpiry_user (h : r.remaining ≤ 1) (hb : r.binding = .user) (hk : r.kind ≠ .periodic) :
    s.takeExpiry u r = (s.withTimer u (some { r with state := .idle, remaining := 0 })).raise (.userTimer u) := by
  rw [State.takeExpiry_last h, State.expire_user (q := { r with remaining := 0 }) hb,
    State.userExpiry_once (q := { r with remaining := 0 }) hk, State.atZero, State.modifyTimer_set]
  rfl

theorem State.takeExpiry_periodic (h : r.remaining ≤ 1) (hb : r.binding = .user) (hk : r.kind = .periodic) :
    s.takeExpiry u r = (s.withTimer u (some { r with
      period := r.staged.getD r.period, staged := none, remaining := r.staged.getD r.period })).raise (.userTimer u) := by
  rw [State.takeExpiry_last h, State.expire_user (q := { r with remaining := 0 }) hb,
    State.userExpiry_periodic (q := { r with remaining := 0 }) hk, State.atZero, State.modifyTimer_set]
  rfl

theorem State.takeExpiry_ballSave (h : r.remaining ≤ 1) (hb : r.binding = .ballSave) :
    s.takeExpiry u r = s.withTimer u none := by
  rw [State.takeExpiry_last h, State.expire, hb]
  exact State.atZero_release

theorem State.takeExpiry_pfMult {n : Nat} {q : Player} (h : r.remaining ≤ 1) (hb : r.binding = .pfMult)
    (hcur : s.gpc.current = some (n + 1)) (hq : s.ptb.players[n]? = some q) :
    s.takeExpiry u r = (s.withTimer u none).withPlayer n { q with pfMult := 1 } := by
  have hplayer : (s.atZero u r).currentPlayer = n + 1 := State.currentPlayer_eq hcur
  rw [State.takeExpiry_last h, State.expire, hb]
  dsimp only
  rw [hplayer, State.atZero_release]
  exact State.modifyPlayer_present (s := s.withTimer u none) _ hq

/-! ### The USER timer requests (R155 to R159) -/

theorem State.userTimer_outOfRange {n : Nat} (h : 16 ≤ n) : s.userTimer n = .error .outOfRange := by
  simp only [State.userTimer, index?_eq_none.mpr h]

theorem State.userTimer_wrongState {n : Nat} (hu : u.val = n)
    (h : ∀ r : Timer, s.tmu.timers[u] = some r → r.binding ≠ .user) : s.userTimer n = .error .wrongState := by
  simp only [State.userTimer, index?_eq_some.mpr hu]
  split
  · next r hr => exact if_neg (h r hr)
  · rfl

theorem State.userTimer_held {n : Nat} (hu : u.val = n) (hr : s.tmu.timers[u] = some r) (hb : r.binding = .user) :
    s.userTimer n = .ok (u, r) := by
  simp only [State.userTimer, index?_eq_some.mpr hu, hr, if_pos hb]

/-- What is not a USER timer is refused by every request that names one. -/
theorem userTimer_refused {p : List Byte} {e : Status} (h : s.userTimer (byteAt p 0) = .error e) :
    startTimer p s = (s, .bare e) ∧ stopTimer p s = (s, .bare e) ∧ freeTimer p s = (s, .bare e) ∧
      stagePeriod p s = (s, .bare e) := by
  simp only [startTimer, stopTimer, freeTimer, stagePeriod, h, and_self]

theorem timerKind?_code (k : TimerKind) : timerKind? k.code.toNat = some k := by cases k <;> rfl

theorem timerKind?_eq_none {n : Nat} (h : 2 < n) : timerKind? n = none := by
  unfold timerKind?
  split
  · omega
  · omega
  · omega
  · rfl

theorem flag?_eq_decide {n : Nat} (h : n ≤ 1) : flag? n = some (decide (n = 1)) := by
  interval_cases n <;> rfl

theorem allocTimer_outOfRange {p : List Byte} (h : 2 < byteAt p 0 ∨ numberAt p 1 2 = 0 ∨ 1 < byteAt p 3) :
    allocTimer p s = (s, .bare .outOfRange) := by
  unfold allocTimer
  split
  · next k b hk hb =>
    rcases h with h | h | h
    · nomatch (timerKind?_eq_none h).symm.trans hk
    · exact if_pos h
    · nomatch (flag?_eq_none h).symm.trans hb
  · rfl

theorem allocTimer_taken {p : List Byte} {kind : TimerKind} (hk : timerKind? (byteAt p 0) = some kind)
    (hn : numberAt p 1 2 ≠ 0) (hp : byteAt p 3 ≤ 1) : allocTimer p s = s.freeTimer?.elim (s, .bare .noTimer) fun u =>
      (s.withTimer u (some ⟨.idle, kind, numberAt p 1 2, none, numberAt p 1 2, decide (byteAt p 3 = 1), .user⟩),
        .ok [small u.val]) := by
  simp only [allocTimer, hk, flag?_eq_decide hp, if_neg hn]
  cases s.freeTimer? <;> rfl

end

/-- Settles O44: the tick lowers what counts, and an expiry acts by the timer's binding. -/
theorem timersTickAndExpire : Obligations.TimersTickAndExpire := by
  intro s
  refine ⟨⟨s.tmuTick, rfl, s.tmuTick_rest, fun u => ⟨fun hnone => ?free, fun r hr => ⟨fun hrun hgo => ⟨fun hmore => ?lowered,
    fun hlast => ?expires⟩, fun hstill => ?still⟩⟩⟩, fun u => ⟨exec_timerExpiry_none, fun r hr hrun he =>
      ⟨fun hmore => ?more, fun hlast => ⟨fun hb hk => ?once, fun hb hk => ?periodic, fun hb => ?ballSave,
        fun n q hb hcur hq => ?pfMult⟩⟩⟩⟩
  case free =>
    obtain ⟨h1, h2⟩ := s.tmuTick_at u
    rw [h1, h2, hnone]
    exact ⟨rfl, Bool.or_false _⟩
  case lowered =>
    obtain ⟨h1, h2⟩ := s.tmuTick_at u
    have hc := State.counts_eq_true hrun hgo
    have hnot : decide (r.remaining ≤ 1) = false := decide_eq_false (Nat.not_le.mpr hmore)
    rw [h1, h2, hr]
    simp [hc, Timer.lower, hmore, State.expires, hnot]
  case expires =>
    obtain ⟨h1, h2⟩ := s.tmuTick_at u
    have hc := State.counts_eq_true hrun hgo
    rw [h1, h2, hr]
    simp [hc, Timer.lower, State.expires, hlast, Nat.not_lt.mpr hlast]
  case still =>
    obtain ⟨h1, h2⟩ := s.tmuTick_at u
    have hc := State.counts_eq_false hstill
    rw [h1, h2, hr]
    simp [hc, State.expires]
  case more => rw [exec_timerExpiry_taken hr hrun he, State.takeExpiry_more hmore]
  case once => rw [exec_timerExpiry_taken hr hrun he, State.takeExpiry_user hlast hb hk]
  case periodic => rw [exec_timerExpiry_taken hr hrun he, State.takeExpiry_periodic hlast hb hk]
  case ballSave => rw [exec_timerExpiry_taken hr hrun he, State.takeExpiry_ballSave hlast hb]
  case pfMult => rw [exec_timerExpiry_taken hr hrun he, State.takeExpiry_pfMult hlast hb hcur hq]

/-- Settles O45: each request checks its operands and the timer it names, then writes the one record. -/
theorem userTimersAreRun : Obligations.UserTimersAreRun := by
  refine ⟨fun s k lo hi pause hw => ⟨fun h => ?_, fun kind hk hn hp => ?_⟩, fun s b lo hi hw => ⟨fun hb => ?_,
    fun u hu => ⟨fun h => ?_, fun r hr hb => ?_⟩⟩⟩
  · exact takeRequest_answers hw (allocTimer_outOfRange h)
  · have htaken := allocTimer_taken (s := s) (p := [k, lo, hi, pause]) (hk ▸ timerKind?_code kind) hn hp
    refine ⟨fun hfull => ?_, fun u hfree hlow => ?_⟩
    · rw [State.freeTimer?_eq_none.mpr hfull] at htaken
      exact takeRequest_answers hw htaken
    · rw [State.freeTimer?_eq_some.mpr ⟨hfree, hlow⟩] at htaken
      exact takeRequest_answers hw htaken
  · have hno := State.userTimer_outOfRange (s := s) hb
    obtain ⟨h1, h2, h3, -⟩ := userTimer_refused (p := [b]) hno
    obtain ⟨-, -, -, h4⟩ := userTimer_refused (p := [b, lo, hi]) hno
    exact ⟨takeRequest_answers hw h1, takeRequest_answers hw h2, takeRequest_answers hw h3, takeRequest_answers hw h4⟩
  · have hno := State.userTimer_wrongState hu h
    obtain ⟨h1, h2, h3, -⟩ := userTimer_refused (p := [b]) hno
    obtain ⟨-, -, -, h4⟩ := userTimer_refused (p := [b, lo, hi]) hno
    exact ⟨takeRequest_answers hw h1, takeRequest_answers hw h2, takeRequest_answers hw h3, takeRequest_answers hw h4⟩
  · have hheld := State.userTimer_held hu hr hb
    have hstage : stagePeriod [b, lo, hi] s = if lo.toNat + 256 * hi.toNat = 0 then (s, .bare .outOfRange)
        else (s.amendTimer u fun r => { r with staged := some (lo.toNat + 256 * hi.toNat) }, .bare .ok) := by
      rw [stagePeriod, show byteAt [b, lo, hi] 0 = b.toNat from rfl, hheld]
      rfl
    have hstart : startTimer [b] s = if r.state = .idle ∨ r.kind = .retrigger then
        (s.withTimer u (some { r.load with state := .running }), .ok (numberBytes 2 r.load.remaining))
        else (s, .bare .wrongState) := by
      rw [startTimer, show byteAt [b] 0 = b.toNat from rfl, hheld]
      rfl
    have hstop : stopTimer [b] s = (s.withTimer u (some { r with state := .idle }), .ok (numberBytes 2 r.remaining)) := by
      rw [stopTimer, show byteAt [b] 0 = b.toNat from rfl, hheld]
      rfl
    have hfree : freeTimer [b] s = (s.withTimer u none, .bare .ok) := by
      rw [freeTimer, show byteAt [b] 0 = b.toNat from rfl, hheld]
      rfl
    refine ⟨fun h => takeRequest_answers hw (hstart.trans (if_pos h)), fun h1 h2 =>
      takeRequest_answers hw (hstart.trans (if_neg fun h => h.elim h1 h2)), takeRequest_answers hw hstop,
      takeRequest_answers hw hfree, fun h => takeRequest_answers hw (hstage.trans (if_pos h)), fun h => ?_⟩
    refine takeRequest_answers hw ((hstage.trans (if_neg h)).trans ?_)
    rw [State.amendTimer, hr]
    rfl

end Sys2Proof.Machine
end

section
/-! PROOFS. Contexts stopped and timed out: STOP_MODE and the expiries of contexts' timers (R92, R93, R99): O47. -/

namespace Sys2Proof.Machine

section
variable {s t : State} {u : Fin 16} {r : Timer} {x : Fin 12} {c : Context} {tm : Template}

theorem stopMode_outOfRange {p : List Byte} (h : 12 ≤ byteAt p 0) : stopMode p s = (s, .bare .outOfRange) := by
  simp only [stopMode, index?_eq_none.mpr h]

theorem stopMode_standing {p : List Byte} (hx : x.val = byteAt p 0) : stopMode p s =
    if s.isStanding x then (s.endContext x .aborted true, .bare .ok) else (s, .bare .wrongState) := by
  simp only [stopMode, index?_eq_some.mpr hx]

theorem State.slotTemplate?_present (hc : s.mst.slots[x] = some c) (htm : s.mst.templates[c.template] = some tm) :
    s.slotTemplate? x = some tm := by
  rw [State.slotTemplate?_eq]
  exact (Mst.template?_eq hc).trans htm

theorem State.modifySlot_eq (f : Context → Context) (hc : s.mst.slots[x] = some c) :
    s.modifySlot x f = s.withSlot x (some (f c)) := by
  have hslot : s.slot? x = some c := hc
  rw [State.modifySlot, hslot]
  rfl

theorem State.contextTimeout_eq (hc : s.mst.slots[x] = some c) (htm : s.mst.templates[c.template] = some tm) :
    s.contextTimeout x = (s.endContext x .timedOut true).startNext tm.nextOnTimeout := by
  rw [State.contextTimeout, State.slotTemplate?_present hc htm]

theorem State.hurryExpiry_eq {f : HurryFields} (hc : s.mst.slots[x] = some c)
    (htm : s.mst.templates[c.template] = some tm) (hk : tm.kind = .hurry f) : s.hurryExpiry x u =
      if f.floor.worth < c.value then
        (s.withSlot x (some { c with value := decayStep c.value f.floor.worth f.decay f.unitExponent })).modifyTimer u
          Timer.load
      else (s.endContext x .timedOut true).startNext tm.nextOnTimeout := by
  have hslot : s.slot? x = some c := hc
  simp only [State.hurryExpiry, hslot, State.slotTemplate?_present hc htm, hk]
  rw [State.modifySlot_eq _ hc]

theorem State.takeExpiry_context (h : r.remaining ≤ 1) (hb : r.binding = .context x) (hc : s.mst.slots[x] = some c)
    (htm : s.mst.templates[c.template] = some tm) :
    s.takeExpiry u r = ((s.withTimer u none).endContext x .timedOut true).startNext tm.nextOnTimeout := by
  rw [State.takeExpiry_last h, State.expire, hb]
  dsimp only
  rw [State.atZero_release]
  exact State.contextTimeout_eq (s := s.withTimer u none) hc htm

theorem State.takeExpiry_hurry {f : HurryFields} (h : r.remaining ≤ 1) (hb : r.binding = .hurry x)
    (hc : s.mst.slots[x] = some c) (htm : s.mst.templates[c.template] = some tm) (hk : tm.kind = .hurry f) :
    s.takeExpiry u r = if f.floor.worth < c.value then
        (s.withSlot x (some { c with value := decayStep c.value f.floor.worth f.decay f.unitExponent })).withTimer u
          (some { r with period := r.staged.getD r.period, staged := none, remaining := r.staged.getD r.period })
      else ((s.withTimer u (some { r with remaining := 0 })).endContext x .timedOut true).startNext tm.nextOnTimeout := by
  have hexpiry := State.hurryExpiry_eq (s := s.atZero u r) (u := u) hc htm hk
  have hexpire : (s.atZero u r).expire u { r with remaining := 0 } = (s.atZero u r).hurryExpiry x u := by
    simp only [State.expire, hb]
  rw [State.takeExpiry_last h, hexpire]
  refine hexpiry.trans (if_congr Iff.rfl ?_ rfl)
  exact State.modifyTimer_set (s := s.withSlot x _) (r := { r with remaining := 0 }) (f := Timer.load)

theorem State.startNext_some (i : Fin 32) (o : StartOutcome) (h : s.startMode i = (t, o)) :
    (∀ e, o = .failed e → s.startNext (some i) = t.raise .modeStartFailed) ∧
    ((∀ e, o ≠ .failed e) → s.startNext (some i) = t) := by
  have hauto : s.startNext (some i) = s.autoStart i := rfl
  rw [hauto, State.autoStart, h]
  cases o with
  | failed e => exact ⟨fun _ _ => rfl, fun hno => absurd rfl (hno e)⟩
  | started y => exact ⟨nofun, fun _ => rfl⟩
  | stood y => exact ⟨nofun, fun _ => rfl⟩

end

/-- Settles O47: the named slot's context is ended, an expiry ends it or takes one decay step. -/
theorem contextsStopAndTimeOut : Obligations.ContextsStopAndTimeOut := by
  intro s
  refine ⟨fun b hw => ⟨fun hb => takeRequest_answers hw (stopMode_outOfRange hb), fun x hx => ⟨fun h => ?refused,
    fun c hc hstands => ?stopped⟩⟩, fun u x r c tm hr hrun he hlast hc htm => ⟨fun hb => ?context,
      fun f hb hk => ⟨fun hlt => ?decays, fun hle => ?floor⟩⟩, rfl, fun i t o h => ?auto⟩
  case refused =>
    have hno : s.isStanding x = false := by
      rcases h with hnone | ⟨c, why, hc, hp⟩
      · have hslot : s.slot? x = none := hnone
        rw [State.isStanding, hslot]
      · rw [State.isStanding_eq hc, hp]
        rfl
    exact takeRequest_answers hw ((stopMode_standing hx).trans (if_neg (by rw [hno]; nofun)))
  case stopped =>
    have hyes : s.isStanding x = true := by
      rw [State.isStanding_eq hc]
      cases hp : c.phase with
      | ended why => exact absurd hp (hstands why)
      | running => rfl
      | paused => rfl
      | parked => rfl
    exact takeRequest_answers hw ((stopMode_standing hx).trans (if_pos hyes))
  case context => rw [exec_timerExpiry_taken hr hrun he, State.takeExpiry_context hlast hb hc htm]
  case decays =>
    rw [exec_timerExpiry_taken hr hrun he, State.takeExpiry_hurry hlast hb hc htm hk]
    exact congrArg _ (if_pos hlt)
  case floor =>
    rw [exec_timerExpiry_taken hr hrun he, State.takeExpiry_hurry hlast hb hc htm hk]
    exact congrArg _ (if_neg (Nat.not_lt.mpr hle))
  case auto =>
    obtain ⟨h1, h2⟩ := State.startNext_some i o h
    cases o with
    | failed e => exact h1 e rfl
    | started y => exact h2 nofun
    | stood y => exact h2 nofun

end Sys2Proof.Machine
end

section
/-! PROOFS. The end of a context and the return of a PAUSED one (R91): O46. -/

namespace Sys2Proof.Machine

/-! ### The fittest of a list, the first among equals -/

/-- The fitter of the best so far and a further slot. -/
def fitter (p : Fin 12 → Nat) (best : Option (Fin 12)) (x : Fin 12) : Option (Fin 12) :=
  some (best.elim x fun b => if p b < p x then x else b)

section
variable {p : Fin 12 → Nat} {a b x y : Fin 12} {l k : List (Fin 12)}

theorem foldl_fitter_some (p : Fin 12 → Nat) (a : Fin 12) (l : List (Fin 12)) :
    ∃ b, l.foldl (fitter p) (some a) = some b ∧ (b = a ∨ (b ∈ l ∧ p a < p b)) ∧ ∀ y ∈ l, p y ≤ p b := by
  induction l generalizing a with
  | nil => exact ⟨a, rfl, .inl rfl, nofun⟩
  | cons x l ih =>
    by_cases h : p a < p x
    · obtain ⟨b, hb, hor, hmax⟩ := ih x
      have hx : fitter p (some a) x = some x := congrArg some (if_pos h)
      refine ⟨b, by rw [List.foldl_cons, hx]; exact hb, .inr ?_, fun y hy => ?_⟩
      · rcases hor with rfl | ⟨hm, hlt⟩
        · exact ⟨List.mem_cons_self .., h⟩
        · exact ⟨List.mem_cons_of_mem _ hm, h.trans hlt⟩
      · rcases List.mem_cons.mp hy with rfl | hy
        · exact hor.elim (fun e => e ▸ Nat.le_refl _) fun h => h.2.le
        · exact hmax y hy
    · obtain ⟨b, hb, hor, hmax⟩ := ih a
      have hx : fitter p (some a) x = some a := congrArg some (if_neg h)
      refine ⟨b, by rw [List.foldl_cons, hx]; exact hb, hor.imp_right fun h => ⟨List.mem_cons_of_mem _ h.1, h.2⟩,
        fun y hy => ?_⟩
      rcases List.mem_cons.mp hy with rfl | hy
      · exact (Nat.le_of_not_lt h).trans (hor.elim (fun e => e ▸ Nat.le_refl _) fun h => h.2.le)
      · exact hmax y hy

/-- A slot that no other of the list surpasses, and none before it equals, is the one found. -/
theorem foldl_fitter_eq (hk : ∀ z ∈ k, p z < p y) (hl : ∀ z ∈ l, p z ≤ p y) :
    (k ++ y :: l).foldl (fitter p) none = some y := by
  rw [List.foldl_append, List.foldl_cons]
  have hstep : fitter p (k.foldl (fitter p) none) y = some y := by
    cases k with
    | nil => rfl
    | cons a k =>
      obtain ⟨b, hb, hor, -⟩ := foldl_fitter_some p a k
      have hbk : b ∈ a :: k := hor.elim (fun e => e ▸ List.mem_cons_self ..) fun h => List.mem_cons_of_mem _ h.1
      have hfold : (a :: k).foldl (fitter p) none = some b := hb
      rw [hfold]
      exact congrArg some (if_pos (hk b hbk))
  rw [hstep]
  obtain ⟨b, hb, hor, -⟩ := foldl_fitter_some p y l
  rcases hor with rfl | ⟨hm, hlt⟩
  · exact hb
  · exact absurd (hl b hm) (Nat.not_le.mpr hlt)

end

section
variable {s t : State} {x y : Fin 12} {c d : Context} {p : Nat} {g : Fin 8} {reason : EndReason} {returns : Bool}

/-- Whether a slot's context is of owner p and group g. -/
def State.belongs (s : State) (p : Nat) (g : Fin 8) (y : Fin 12) : Bool :=
  (s.slot? y).any fun c => decide (c.owner = p) && decide (s.slotGroup y = g)

theorem State.belongs_iff : s.belongs p g y = true ↔ ∃ c, s.mst.slots[y] = some c ∧ c.owner = p ∧ s.slotGroup y = g := by
  rw [State.belongs, State.slot?]
  cases hc : s.mst.slots[y] with
  | none => simp
  | some c => simp

theorem State.returning?_eq (s : State) (p : Nat) (g : Fin 8) :
    s.returning? p g = (s.mst.pauseOrder.filter (s.belongs p g)).foldl (fitter s.slotPriority) none := by
  have hfilter : (fun y => match s.slot? y with
      | some c => decide (c.owner = p) && decide (s.slotGroup y = g)
      | none => false) = s.belongs p g := by
    funext y
    rw [State.belongs]
    cases s.slot? y <;> rfl
  have hstep : (fun (best : Option (Fin 12)) slot => match best with
      | none => some slot
      | some b => if s.slotPriority b < s.slotPriority slot then some slot else some b) = fitter s.slotPriority := by
    funext best slot
    cases best with
    | none => rfl
    | some b => exact (apply_ite some ..).symm
  rw [State.returning?]
  exact congrArg₂ (fun f k => (s.mst.pauseOrder.filter f).foldl k none) hfilter hstep

theorem State.returning?_none (h : ∀ y ∈ s.mst.pauseOrder, s.belongs p g y = false) : s.returning? p g = none := by
  rw [State.returning?_eq, List.filter_eq_nil_iff.mpr fun y hy => by rw [h y hy]; nofun, List.foldl_nil]

/-- The context with the highest priority returns, the first in the pause order among equals (R91). -/
theorem State.returning?_unique (hnodup : s.mst.pauseOrder.Nodup) (hy : y ∈ s.mst.pauseOrder) (hb : s.belongs p g y = true)
    (hbest : ∀ z ∈ s.mst.pauseOrder, z ≠ y → s.belongs p g z = true → s.slotPriority z < s.slotPriority y ∨
      (s.slotPriority z = s.slotPriority y ∧ ∃ a b, s.mst.pauseOrder = a ++ y :: b ∧ z ∈ b)) :
    s.returning? p g = some y := by
  obtain ⟨k, l, hsplit⟩ := List.append_of_mem hy
  have hky : y ∉ k ∧ y ∉ l := by
    rw [hsplit, List.nodup_append'] at hnodup
    obtain ⟨-, hcons, hdisj⟩ := hnodup
    exact ⟨fun hk => hdisj hk (List.mem_cons_self ..), (List.nodup_cons.mp hcons).1⟩
  have hfilter : s.mst.pauseOrder.filter (s.belongs p g) =
      k.filter (s.belongs p g) ++ y :: l.filter (s.belongs p g) := by
    rw [hsplit, List.filter_append, List.filter_cons_of_pos hb]
  rw [State.returning?_eq, hfilter]
  refine foldl_fitter_eq (fun z hz => ?_) fun z hz => ?_
  · obtain ⟨hz, hzb⟩ := List.mem_filter.mp hz
    have hzy : z ≠ y := fun e => hky.1 (e ▸ hz)
    rcases hbest z (hsplit ▸ List.mem_append_left _ hz) hzy hzb with hlt | ⟨-, a, b, hab, hzb'⟩
    · exact hlt
    · have hya : y ∉ a := by
        rw [hab, List.nodup_append'] at hnodup
        exact fun ha => hnodup.2.2 ha (List.mem_cons_self ..)
      have hyb : y ∉ b := by
        rw [hab, List.nodup_append'] at hnodup
        exact (List.nodup_cons.mp hnodup.2.1).1
      obtain ⟨rfl, -, -⟩ := (List.append_cons_inj_of_notMem hya hyb).mp (hab.symm.trans hsplit)
      rw [hab, List.nodup_append'] at hnodup
      exact absurd (List.mem_cons_of_mem _ hzb') (hnodup.2.2 hz)
  · obtain ⟨hz, hzb⟩ := List.mem_filter.mp hz
    have hzy : z ≠ y := fun e => hky.2 (e ▸ hz)
    exact (hbest z (hsplit ▸ List.mem_append_right _ (List.mem_cons_of_mem _ hz)) hzy hzb).elim Nat.le_of_lt fun h => h.1.le

/-! ### The end of a context -/

theorem Mst.put_pauseOrder_of_ne {m : Mst} (h : c.phase ≠ .paused) : (m.put x c).pauseOrder = m.pauseOrder.erase x :=
  if_neg h

theorem Mst.put_ended_of_ended {m : Mst} (h : c.phase.stands = false) (hx : x ∉ m.ended) :
    (m.put x c).ended = m.ended ++ [x] := (if_pos h).trans (by rw [List.erase_of_not_mem hx])

/-- The laws of the lists give what an end needs to know of them. -/
theorem ListLaw.member (h : ListLaw s) (hc : s.mst.slots[x] = some c) (hs : c.phase.stands = true) :
    x ∉ s.mst.ended ∧ (c.phase ≠ .running → x ∉ s.mst.stack) ∧ (c.phase ≠ .paused → x ∉ s.mst.pauseOrder) := by
  obtain ⟨-, -, -, hstack, hpause, hended, -⟩ := h
  refine ⟨fun hx => ?_, fun hp hx => ?_, fun hp hx => ?_⟩
  · have he := (hended x).mp hx
    rw [State.isEnded_eq hc, hs] at he
    nomatch he
  · exact hp (Option.some.inj ((State.phase?_eq hc).symm.trans ((hstack x).mp hx)))
  · exact hp (Option.some.inj ((State.phase?_eq hc).symm.trans ((hpause x).mp hx)))

theorem ListLaw.pauseOrder (h : ListLaw s) :
    s.mst.pauseOrder.Nodup ∧ ∀ z, z ∈ s.mst.pauseOrder → s.mst.slots[z] ≠ none := by
  obtain ⟨-, hnodup, -, -, hpause, -⟩ := h
  refine ⟨hnodup, fun z hz hn => ?_⟩
  have hslot : s.slot? z = none := hn
  have hp := (hpause z).mp hz
  rw [State.phase?, hslot] at hp
  nomatch hp

theorem State.endContext_stays (hc : s.mst.slots[x] = some c) (hs : c.phase.stands = true)
    (h : ¬ (returns = true ∧ c.phase = .running)) :
    s.endContext x reason returns = s.endContext x reason false := by
  rw [State.endContext_standing hc hs, if_neg h, State.endContext_quiet hc hs]

/-- The end makes no other choice of the context that returns. -/
theorem State.endContext_returning? (hl : ListLaw s) (hc : s.mst.slots[x] = some c) (hr : c.phase = .running)
    (p : Nat) (g : Fin 8) : (s.endContext x reason false).returning? p g = s.returning? p g := by
  have hs : c.phase.stands = true := hr ▸ rfl
  obtain ⟨hended, -, hpause⟩ := hl.member hc hs
  have hput := State.endContext_put (reason := reason) hc hs hended
  refine State.returning?_congr ?_ (fun y => ?_) ?_ p g
  · rw [hput]
    exact List.erase_of_not_mem (hpause (by rw [hr]; nofun))
  · rw [State.slot?, State.slot?, hput]
    by_cases hyx : y = x
    · subst hyx
      rw [Mst.put_slots_same, hc]
      rfl
    · rw [Mst.put_slots_other hyx]
  · rw [hput]
    exact Mst.put_template? (c' := c.endedWith reason (s.remainingOf c)) hc rfl

/-- What the end of a context leaves where no other returns. -/
theorem State.endContext_alone (hl : ListLaw s) (hc : s.mst.slots[x] = some c) (hs : c.phase.stands = true)
    (h : returns = false ∨ c.phase ≠ .running ∨ s.slotGroup x = 0 ∨ s.returning? c.owner (s.slotGroup x) = none) :
    (s.endContext x reason returns).mst = (s.endContext x reason false).mst ∧
    ∀ u : Fin 16, (s.endContext x reason returns).tmu.timers[u] = (s.endContext x reason false).tmu.timers[u] := by
  by_cases hret : returns = true ∧ c.phase = .running
  · obtain ⟨rfl, hr⟩ := hret
    obtain ⟨hmst, htimers⟩ := State.endContext_returns (reason := reason) hl.pauseOrder hc hr
    have hnone : (s.endContext x reason false).returnPaused c.owner (s.slotGroup x) = s.endContext x reason false := by
      unfold State.returnPaused
      split
      · rfl
      · next hg =>
        have hnone := ((h.resolve_left nofun).resolve_left fun hn => hn hr).resolve_left hg
        rw [State.endContext_returning? hl hc hr, hnone]
    rw [hnone] at hmst htimers
    exact ⟨hmst, htimers⟩
  · rw [State.endContext_stays hc hs hret]
    exact ⟨rfl, fun _ => rfl⟩

/-- What it leaves where the context in slot y returns. -/
theorem State.endContext_returned (hl : ListLaw s) (hc : s.mst.slots[x] = some c) (hr : c.phase = .running)
    (hg : s.slotGroup x ≠ 0) (hy : s.returning? c.owner (s.slotGroup x) = some y) :
    (s.endContext x reason true).mst = ((s.endContext x reason false).enterRunning y).mst ∧
    ∀ u : Fin 16, (s.endContext x reason true).tmu.timers[u] =
      ((s.endContext x reason false).enterRunning y).tmu.timers[u] := by
  have hret : (s.endContext x reason false).returnPaused c.owner (s.slotGroup x) =
      (s.endContext x reason false).enterRunning y := by
    rw [State.returnPaused, if_neg hg, State.endContext_returning? hl hc hr, hy]
  rw [← hret]
  exact State.endContext_returns hl.pauseOrder hc hr

theorem State.endContext_notice (hc : s.mst.slots[x] = some c) (hs : c.phase.stands = true) :
    (s.endContext x reason returns).hasNotice (.modeEnded x) = true := by
  rw [State.endContext_standing hc hs]
  exact State.hasNotice_raise_self ..

/-- What the return of context d leaves (R85, R91). -/
theorem State.enterRunning_leaves (hd : t.mst.slots[y] = some d) :
    (t.enterRunning y).mst.slots[y] = some { d with phase := .running } ∧
    (∀ z : Fin 12, z ≠ y → (t.enterRunning y).mst.slots[z] = t.mst.slots[z]) ∧
    (t.enterRunning y).mst.ended = t.mst.ended ∧ (t.enterRunning y).mst.pauseOrder = t.mst.pauseOrder.erase y ∧
    (∀ z : Fin 12, z ∈ (t.enterRunning y).mst.stack ↔ z = y ∨ z ∈ t.mst.stack.erase y) := by
  have hput := State.enterRunning_put hd
  refine ⟨?_, fun z hz => ?_, ?_, ?_, fun z => ?_⟩
  · rw [hput]
    exact Mst.put_slots_same
  · rw [hput]
    exact Mst.put_slots_other (m := t.mst) hz
  · rw [hput]
  · have hpause : (t.enterRunning y).mst.pauseOrder = (t.mst.put y { d with phase := .running }).pauseOrder := by rw [hput]
    exact hpause.trans (Mst.put_pauseOrder_of_ne nofun)
  · have hstack : (t.enterRunning y).mst.stack = (t.mst.put y { d with phase := .running }).stack := by rw [hput]
    rw [hstack, Mst.put_stack_running (c := { d with phase := .running }) rfl, mem_insertByPriority]

end

/-- Settles O46: the end is one record put among the ended, and the return one record put into the stack. -/
theorem contextsEnd : Obligations.ContextsEnd := by
  intro s t x c reason returns hl hc hno ht
  have hs : c.phase.stands = true := by
    cases hp : c.phase with
    | ended why => exact absurd hp (hno why)
    | running => rfl
    | paused => rfl
    | parked => rfl
  obtain ⟨hended, hstack, hpause⟩ := hl.member hc hs
  have hrec : t.mst.templates = s.mst.templates ∧ t.hasNotice (.modeEnded x) = true ∧ t.ptb = s.ptb ∧ t.bdt = s.bdt ∧
      t.lmc = s.lmc ∧ t.gpc = s.gpc := by
    rw [ht]
    exact ⟨(Keeps.refl s).endContext.templates, State.endContext_notice hc hs, by simp, by simp, by simp, by simp⟩
  obtain ⟨k1, k2, k3, k4, k5, k6⟩ := hrec
  have hwaits {y : Fin 12} {d : Context} (hd : s.mst.slots[y] = some d) (hp : d.phase = .paused) :
      y ∈ s.mst.pauseOrder := by
    obtain ⟨-, -, -, -, hpauseLaw, -⟩ := hl
    exact (hpauseLaw y).mpr ((State.phase?_eq hd).trans (congrArg some hp))
  have hpaused {y : Fin 12} {d : Context} (hd : s.mst.slots[y] = some d) (hy : y ∈ s.mst.pauseOrder) : d.phase = .paused := by
    obtain ⟨-, -, -, -, hpauseLaw, -⟩ := hl
    exact Option.some.inj ((State.phase?_eq hd).symm.trans ((hpauseLaw y).mp hy))
  have hchosen {y : Fin 12} {d : Context} (hd : s.mst.slots[y] = some d) (hp : d.phase = .paused) (ho : d.owner = c.owner)
      (hg : s.slotGroup y = s.slotGroup x) (hbest : ∀ (z : Fin 12) (f : Context), z ≠ y → s.mst.slots[z] = some f →
        f.phase = .paused → f.owner = c.owner → s.slotGroup z = s.slotGroup x → s.slotPriority z < s.slotPriority y ∨
          (s.slotPriority z = s.slotPriority y ∧ ∃ a b, s.mst.pauseOrder = a ++ y :: b ∧ z ∈ b)) :
      s.returning? c.owner (s.slotGroup x) = some y := by
    refine State.returning?_unique hl.pauseOrder.1 (hwaits hd hp) (State.belongs_iff.mpr ⟨d, hd, ho, hg⟩) fun z hz hzy hzb => ?_
    obtain ⟨f, hf, hfo, hfg⟩ := State.belongs_iff.mp hzb
    exact hbest z f hzy hf (hpaused hf hz) hfo hfg
  have hput := State.endContext_put (reason := reason) hc hs hended
  have htimers := State.endContext_timers (reason := reason) hc hs
  have hbase : (s.endContext x reason false).mst.slots[x] = some (c.endedWith reason (s.remainingOf c)) ∧
      (∀ z : Fin 12, z ≠ x → (s.endContext x reason false).mst.slots[z] = s.mst.slots[z]) ∧
      (s.endContext x reason false).mst.stack = s.mst.stack.erase x ∧
      (s.endContext x reason false).mst.pauseOrder = s.mst.pauseOrder.erase x ∧
      (s.endContext x reason false).mst.ended = s.mst.ended ++ [x] := by
    rw [hput]
    exact ⟨Mst.put_slots_same, fun z hz => Mst.put_slots_other hz, Mst.put_stack_of_ne nofun, Mst.put_pauseOrder_of_ne nofun,
      Mst.put_ended_of_ended rfl hended⟩
  obtain ⟨b1, b2, b3, b4, b5⟩ := hbase
  by_cases hret : returns = true ∧ c.phase = .running ∧ s.slotGroup x ≠ 0 ∧
      ∃ y, s.returning? c.owner (s.slotGroup x) = some y
  · obtain ⟨rfl, hr, hg, y, hy⟩ := hret
    obtain ⟨hyp, hyo, hyg⟩ := State.returning?_some hy
    have hyx : y ≠ x := fun e => hpause (by rw [hr]; nofun) (e ▸ hyp)
    obtain ⟨d, hd⟩ := Option.ne_none_iff_exists'.mp (hl.pauseOrder.2 y hyp)
    have hdo : d.owner = c.owner := by
      have hslot : s.slot? y = some d := hd
      rw [hslot] at hyo
      exact Option.some.inj hyo
    obtain ⟨hmst, htm⟩ := State.endContext_returned (reason := reason) hl hc hr hg hy
    rw [← ht] at hmst
    simp only [← ht] at htm
    have hd' : (s.endContext x reason false).mst.slots[y] = some d := (b2 y hyx).trans hd
    obtain ⟨e1, e2, e3, e4, e5⟩ := State.enterRunning_leaves hd'
    have htmr := State.enterRunning_timers hd'
    rw [← hmst] at e1 e3 e4
    simp only [← hmst] at e2 e5
    have hfree (u : Fin 16) (hu : c.timer = some u) : (s.endContext x reason false).tmu.timers[u] = none := by
      rw [htimers, if_pos hu]
    refine ⟨(e2 x hyx.symm).trans b1, e3.trans b5, fun hx => ?_, fun hx => ?_, k2, fun u hu => ?_, k3, k4, k5, k6, k1,
      fun h => ?_, fun z f _ _ _ hf hfp hfo hfg hbest => ?_⟩
    · rcases (e5 x).mp hx with hx | hx
      · exact hyx hx.symm
      · rw [b3] at hx
        exact hl.1.not_mem_erase (List.mem_of_mem_erase hx)
    · rw [e4, b4] at hx
      exact hl.2.1.not_mem_erase (List.mem_of_mem_erase hx)
    · rw [htm, htmr, hfree u hu]
      exact ite_self _
    · rcases h with h | h | h | h
      · nomatch h
      · exact absurd hr h
      · exact absurd h hg
      · exact absurd hyg (h y d hd (hpaused hd hyp) hdo)
    · obtain rfl := Option.some.inj ((hchosen hf hfp hfo hfg hbest).symm.trans hy)
      obtain rfl := Option.some.inj (hf.symm.trans hd)
      refine ⟨e1, (e5 z).mpr (.inl rfl), ?_, fun w hwx hwz => (e2 w hwz).trans (b2 w hwx), fun u r hu hcu hr' hfr => ?_⟩
      · rw [e4, b4, List.erase_of_not_mem (hpause (by rw [hr]; nofun))]
      · rw [htm, htmr, if_pos hu, htimers, if_neg hcu, hr', Option.map_some, Timer.thaw, if_pos hfr]
  · have halone : returns = false ∨ c.phase ≠ .running ∨ s.slotGroup x = 0 ∨
        s.returning? c.owner (s.slotGroup x) = none := by
      cases hb : returns with
      | false => exact .inl rfl
      | true =>
        refine .inr ?_
        by_contra hno
        obtain ⟨h1, h2, h3⟩ : c.phase = .running ∧ s.slotGroup x ≠ 0 ∧ s.returning? c.owner (s.slotGroup x) ≠ none := by
          simpa only [not_or, not_not] using hno
        exact hret ⟨hb, h1, h2, Option.ne_none_iff_exists'.mp h3⟩
    obtain ⟨hmst, htm⟩ := State.endContext_alone (reason := reason) hl hc hs halone
    rw [← ht] at hmst
    simp only [← ht] at htm
    refine ⟨by rw [hmst]; exact b1, by rw [hmst]; exact b5, fun hx => ?_, fun hx => ?_, k2, fun u hu => ?_, k3, k4, k5, k6,
      k1, fun _ => ⟨by rw [hmst]; exact b3, by rw [hmst]; exact b4, fun y hy => by rw [hmst]; exact b2 y hy, fun u hu => ?_⟩,
      fun z f hb hr hg hf hfp hfo hfg hbest => absurd ⟨hb, hr, hg, z, hchosen hf hfp hfo hfg hbest⟩ hret⟩
    · rw [hmst, b3] at hx
      exact hl.1.not_mem_erase hx
    · rw [hmst, b4] at hx
      exact hl.2.1.not_mem_erase hx
    · rw [htm, htimers, if_pos hu]
    · rw [htm, htimers, if_neg hu]

end Sys2Proof.Machine
end

section
/-! PROOFS. RETIRE_MODE and ADJUST_MODE (R100, R102): O50. -/

namespace Sys2Proof.Machine

section
variable {s t : State} {x : Fin 12} {c d : Context} {tm : Template} {p : List Byte} {f g : Timer → Timer}
  {o : Option (Fin 16)}

/-! ### RETIRE_MODE -/

theorem retireMode_outOfRange (h : 12 ≤ byteAt p 0) : retireMode p s = (s, .bare .outOfRange) := by
  simp only [retireMode, index?_eq_none.mpr h]

theorem retireMode_eq (hx : x.val = byteAt p 0) : retireMode p s = if s.isEnded x then
    (({ s with mst := { s.mst with ended := s.mst.ended.erase x } }).setSlot x none, .bare .ok)
    else (s, .bare .notEnded) := by
  simp only [retireMode, index?_eq_some.mpr hx]

theorem State.isEnded_eq_false (h : s.mst.slots[x] = none ∨ s.isStanding x = true) : s.isEnded x = false := by
  rcases h with hn | hs
  · have hslot : s.slot? x = none := hn
    rw [State.isEnded, hslot]
  · obtain ⟨c, hc, hcs⟩ := State.isStanding_iff.mp hs
    rw [State.isEnded_eq hc, hcs]
    rfl

/-! ### The parts of an adjustment -/

/-- State t is s with context c in slot x and with f applied to the timer named by o. -/
structure State.Amended (s t : State) (x : Fin 12) (c : Context) (f : Timer → Timer) (o : Option (Fin 16)) : Prop where
  mst : t.mst = { s.mst with slots := s.mst.slots.set x.val (some c) x.isLt }
  timers : ∀ u : Fin 16, t.tmu.timers[u] = if o = some u then (s.tmu.timers[u]).map f else s.tmu.timers[u]
  expiring : t.tmu.expiring = s.tmu.expiring
  rest : { t with mst := s.mst, tmu := s.tmu } = s

theorem State.Amended.refl (hc : s.mst.slots[x] = some c) (o : Option (Fin 16)) : s.Amended s x c id o := by
  refine ⟨?_, fun u => ?_, rfl, rfl⟩
  · have hset : s.mst.slots.set x.val (some c) x.isLt = s.mst.slots := by
      conv_rhs => rw [← Vector.set_getElem_self (xs := s.mst.slots) x.isLt]
      exact congrArg (fun o => s.mst.slots.set x.val o x.isLt) hc.symm
    exact congrArg (fun l => { s.mst with slots := l }) hset.symm
  · rw [Option.map_id_fun, id_eq, ite_self]

theorem State.Amended.slot (h : s.Amended t x c f o) : t.mst.slots[x] = some c := by
  rw [h.mst]
  exact Vector.getElem_set_self x.isLt

theorem State.Amended.records (h : s.Amended t x c f o) :
    t.ptb = s.ptb ∧ t.bdt = s.bdt ∧ t.gpc = s.gpc ∧ t.ntu = s.ntu := by
  have hptb : ({ t with mst := s.mst, tmu := s.tmu } : State).ptb = s.ptb := congrArg State.ptb h.rest
  have hbdt : ({ t with mst := s.mst, tmu := s.tmu } : State).bdt = s.bdt := congrArg State.bdt h.rest
  have hgpc : ({ t with mst := s.mst, tmu := s.tmu } : State).gpc = s.gpc := congrArg State.gpc h.rest
  have hntu : ({ t with mst := s.mst, tmu := s.tmu } : State).ntu = s.ntu := congrArg State.ntu h.rest
  exact ⟨hptb, hbdt, hgpc, hntu⟩

theorem State.Amended.modifySlot (h : s.Amended t x c f o) (k : Context → Context) :
    s.Amended (t.modifySlot x k) x (k c) f o := by
  rw [State.modifySlot_eq k h.slot]
  refine ⟨?_, h.timers, h.expiring, ?_⟩
  · rw [State.withSlot, h.mst]
    exact congrArg (fun l => { s.mst with slots := l }) (Vector.set_set ..)
  · exact h.rest

theorem State.Amended.amendHeld (h : s.Amended t x c f o) (k : Timer → Timer) :
    s.Amended (t.amendHeld o k) x c (k ∘ f) o := by
  refine ⟨by rw [State.amendHeld_mst, h.mst], fun u => ?_, ?_, ?_⟩
  · rw [State.amendHeld_timers, h.timers]
    split
    · rw [Option.map_map]
    · rfl
  · rw [← h.expiring]
    cases o <;> rfl
  · have hrest := h.rest
    cases o <;> exact hrest

/-- A count raised by the ticks selected, held at 65,535. -/
def raised (n : Nat) (o : Option Nat) : Nat := o.elim n fun k => min (n + k) 65535

/-- A context as the parts of an adjustment leave it. -/
def Context.adjusted (c : Context) (tm : Template) (a : Adjustment) : Context :=
  { c with
    stored := if c.phase = .parked then raised c.stored a.ticks else c.stored
    value := a.value.elim c.value fun v => tm.adjusted v.worth
    multiplier := a.multiplier.elim c.multiplier heldMultiplier }

/-- Its timer. -/
def Timer.adjusted (r : Timer) (c : Context) (a : Adjustment) : Timer :=
  { r with
    remaining := if c.phase = .parked then r.remaining else raised r.remaining a.ticks
    staged := a.period.elim r.staged some }

theorem State.Amended.adjustValue (h : s.Amended t x d f o) (a : Option PointValue) : s.Amended (t.adjustValue x tm a) x
    { d with value := a.elim d.value fun v => tm.adjusted v.worth } f o := by
  cases a with
  | none => exact h
  | some v => exact h.modifySlot _

theorem State.Amended.adjustMult (h : s.Amended t x d f o) (a : Option Nat) : s.Amended (t.adjustMult x a) x
    { d with multiplier := a.elim d.multiplier heldMultiplier } f o := by
  cases a with
  | none => exact h
  | some v => exact h.modifySlot _

theorem State.Amended.adjustPeriod (h : s.Amended t x d f c.timer) (a : Option Nat) : s.Amended (t.adjustPeriod c a) x d
    (fun r => { f r with staged := a.elim (f r).staged some }) c.timer := by
  cases a with
  | none => exact h
  | some v => exact h.amendHeld _

theorem State.applyAdjustment_amended (hc : s.mst.slots[x] = some c) (a : Adjustment) :
    s.Amended (s.applyAdjustment x c tm a) x (c.adjusted tm a) (fun r => r.adjusted c a) c.timer := by
  have htime : s.Amended (s.adjustTime x c a.ticks) x
      { c with stored := if c.phase = .parked then raised c.stored a.ticks else c.stored }
      (fun r => { r with remaining := if c.phase = .parked then r.remaining else raised r.remaining a.ticks }) c.timer := by
    have hnone := State.Amended.refl hc c.timer
    cases ht : a.ticks with
    | none =>
      simp only [raised, Option.elim_none, ite_self]
      exact hnone
    | some n =>
      have hadd : s.adjustTime x c (some n) = s.addTime x c n := rfl
      rw [hadd, State.addTime]
      by_cases hp : c.phase = .parked
      · simp only [if_pos hp]
        exact hnone.modifySlot _
      · simp only [if_neg hp]
        exact hnone.amendHeld _
  rw [State.applyAdjustment_eq]
  exact ((htime.adjustValue _).adjustMult _).adjustPeriod _

/-! ### ADJUST_MODE -/

theorem adjustMode_outOfRange (h : 12 ≤ byteAt p 0 ∨ adjustment? p = none) : adjustMode p s = (s, .bare .outOfRange) := by
  unfold adjustMode
  split
  · next y a hy ha =>
    rcases h with h | h
    · nomatch (index?_eq_none.mpr h).symm.trans hy
    · nomatch h.symm.trans ha
  · rfl

theorem adjustment?_none (h : 16 ≤ byteAt p 1 ∨ (selected p 1 = true ∧ (9999 < numberAt p 4 2 ∨ 7 < byteAt p 6))) :
    adjustment? p = none :=
  if_pos (h.imp_right fun ⟨hs, hv⟩ => ⟨hs, by rw [pointAt?_eq_none hv]; rfl⟩)

/-- The parts a payload selects. -/
def selectedParts (p : List Byte) : Adjustment :=
  ⟨if selected p 0 then some (numberAt p 2 2) else none,
    if selected p 1 then some ⟨numberAt p 4 2, byteAt p 6⟩ else none,
    if selected p 2 then some (byteAt p 7) else none, if selected p 3 then some (numberAt p 8 2) else none⟩

theorem adjustment?_some (h : byteAt p 1 < 16) (hv : selected p 1 = false ∨ (numberAt p 4 2 ≤ 9999 ∧ byteAt p 6 ≤ 7)) :
    adjustment? p = some (selectedParts p) := by
  rcases hv with hv | ⟨h1, h2⟩
  · simp [adjustment?, selectedParts, hv, Nat.not_le.mpr h]
  · have hp := pointAt?_eq_some h1 h2
    rw [adjustment?, hp, selectedParts, if_neg]
    rintro (hno | ⟨-, hno⟩)
    · exact absurd h (Nat.not_lt.mpr hno)
    · nomatch hno

section
variable {a : Adjustment}

theorem adjustMode_wrongState (hx : x.val = byteAt p 0) (ha : adjustment? p = some a)
    (h : s.mst.slots[x] = none ∨ (∃ c why, s.mst.slots[x] = some c ∧ c.phase = .ended why)) :
    adjustMode p s = (s, .bare .wrongState) := by
  rcases h with hn | ⟨c, why, hc, hp⟩
  · have hslot : s.slot? x = none := hn
    simp only [adjustMode, index?_eq_some.mpr hx, ha, hslot]
  · have hslot : s.slot? x = some c := hc
    have hstands : c.phase.stands = false := hp ▸ rfl
    simp only [adjustMode, index?_eq_some.mpr hx, ha, hslot]
    split
    · next c' tm hc' _ =>
      obtain rfl := Option.some.inj hc'
      exact if_pos hstands
    · rfl

theorem adjustMode_standing (hx : x.val = byteAt p 0) (ha : adjustment? p = some a) (hc : s.mst.slots[x] = some c)
    (hs : c.phase.stands = true) (htm : s.mst.templates[c.template] = some tm) : adjustMode p s =
      (adjustmentRefused c tm a).elim (s.applyAdjustment x c tm a,
        ⟨if s.adjustmentHeld c tm a then .clamped else .ok,
          numberBytes 2 ((s.applyAdjustment x c tm a).remainingOf (c.adjusted tm a)) ++
            numberBytes 5 (c.adjusted tm a).value ++ [small (c.adjusted tm a).multiplier]⟩) fun e => (s, .bare e) := by
  have hslot : s.slot? x = some c := hc
  have hafter : (s.applyAdjustment x c tm a).slot? x = some (c.adjusted tm a) :=
    (State.applyAdjustment_amended (tm := tm) hc a).slot
  simp only [adjustMode, index?_eq_some.mpr hx, ha, hslot, State.slotTemplate?_present hc htm, hs]
  cases adjustmentRefused c tm a with
  | some e => rfl
  | none => simp only [hafter, reduceCtorEq, if_false, Option.elim_none]

/-- The checks after the slot's state, in the order of R100. -/
theorem adjustmentRefused_selected (c : Context) (tm : Template) (p : List Byte) :
    ((selected p 0 = true ∧ tm.period? = none) ∨ (selected p 3 = true ∧ (tm.isHurry = false ∨ numberAt p 8 2 = 0)) →
      adjustmentRefused c tm (selectedParts p) = some .outOfRange) ∧
    (selected p 0 = false ∨ tm.period? ≠ none → selected p 3 = false ∨ (tm.isHurry = true ∧ numberAt p 8 2 ≠ 0) →
      (selected p 3 = true → c.phase = .parked → adjustmentRefused c tm (selectedParts p) = some .wrongState) ∧
      (selected p 3 = false ∨ c.phase ≠ .parked → adjustmentRefused c tm (selectedParts p) = none)) := by
  have htime : ((selectedParts p).ticks.isSome = true ∧ tm.period?.isNone = true) ↔
      (selected p 0 = true ∧ tm.period? = none) := by
    cases h : selected p 0 <;> simp [selectedParts, h]
  have hperiod : (selectedParts p).period = if selected p 3 then some (numberAt p 8 2) else none := rfl
  refine ⟨fun h => ?_, fun h0 h3 => ⟨fun hs hp => ?_, fun hs => ?_⟩⟩
  · by_cases h0 : selected p 0 = true ∧ tm.period? = none
    · exact if_pos (htime.mpr h0)
    · obtain ⟨hs, hbad⟩ := h.resolve_left h0
      rw [adjustmentRefused, if_neg (htime.not.mpr h0), hperiod, if_pos hs]
      exact if_pos hbad
  · have hno : ¬ (selected p 0 = true ∧ tm.period? = none) := fun ⟨h1, h2⟩ => h0.elim (fun h => nomatch h1.symm.trans h) fun h => h h2
    obtain ⟨hh, hn⟩ := h3.resolve_left (by rw [hs]; nofun)
    rw [adjustmentRefused, if_neg (htime.not.mpr hno), hperiod, if_pos hs]
    exact (if_neg fun hbad => hbad.elim (fun h => nomatch hh.symm.trans h) hn).trans (if_pos hp)
  · have hno : ¬ (selected p 0 = true ∧ tm.period? = none) := fun ⟨h1, h2⟩ => h0.elim (fun h => nomatch h1.symm.trans h) fun h => h h2
    rw [adjustmentRefused, if_neg (htime.not.mpr hno), hperiod]
    rcases h3 with h3 | ⟨hh, hn⟩
    · rw [h3]
      rfl
    · split
      · next n heq =>
        split at heq
        · next hs3 =>
          obtain rfl := Option.some.inj heq
          have hp : c.phase ≠ .parked := hs.resolve_left (by rw [hs3]; nofun)
          exact (if_neg fun hbad => hbad.elim (fun h => nomatch hh.symm.trans h) hn).trans (if_neg hp)
        · nomatch heq
      · rfl

theorem selectedParts_value (c : Context) (tm : Template) (p : List Byte) {worth value : Nat}
    (hworth : worth = numberAt p 4 2 * 10 ^ byteAt p 6)
    (h1 : ∀ f, selected p 1 = true → tm.kind = .hurry f → value = max (f.floor.mantissa * 10 ^ f.floor.scale)
      (min worth (tm.value.mantissa * 10 ^ tm.value.scale)))
    (h2 : selected p 1 = true → tm.isHurry = false → value = worth) (h3 : selected p 1 = false → value = c.value) :
    (c.adjusted tm (selectedParts p)).value = value ∧
      (selected p 1 = true → tm.adjusted (⟨numberAt p 4 2, byteAt p 6⟩ : PointValue).worth = value) := by
  have hadj (hs : selected p 1 = true) : tm.adjusted (⟨numberAt p 4 2, byteAt p 6⟩ : PointValue).worth = value := by
    have hw : (⟨numberAt p 4 2, byteAt p 6⟩ : PointValue).worth = worth := hworth.symm
    unfold Template.adjusted
    split
    · next f hk =>
      rw [hw]
      exact (h1 f hs hk).symm
    · next hk =>
      rw [hw]
      refine (h2 hs ?_).symm
      unfold Template.isHurry
      split
      · next f hf => exact absurd hf (hk f)
      · rfl
  refine ⟨?_, hadj⟩
  cases hs : selected p 1 with
  | true => simpa [Context.adjusted, selectedParts, hs] using hadj hs
  | false => simp [Context.adjusted, selectedParts, hs, h3 hs]

/-- The count a standing context has left (R101). -/
theorem State.remainingOf_left {left : Nat} (hs : c.phase.stands = true) (h1 : c.phase = .parked → left = c.stored)
    (h2 : c.phase ≠ .parked → c.timer = none → left = 0 ∧ tm.period? = none)
    (h3 : ∀ u, c.phase ≠ .parked → c.timer = some u → ∃ r : Timer, s.tmu.timers[u] = some r ∧ left = r.remaining) :
    s.remainingOf c = left := by
  by_cases hp : c.phase = .parked
  · rw [State.remainingOf, hp, h1 hp]
  · have hl : c.phase.live = true := by
      cases hph : c.phase with
      | running => rfl
      | paused => rfl
      | parked => exact absurd hph hp
      | ended why => nomatch (hph ▸ hs : Phase.stands (.ended why) = true)
    cases ht : c.timer with
    | none => rw [State.remainingOf_untimed hl ht, (h2 hp ht).1]
    | some u =>
      obtain ⟨r, hr, rfl⟩ := h3 u hp ht
      rw [State.remainingOf_timed hl ht, hr, Option.map_some, Option.getD_some]

/-- The count it has left after the adjustment. -/
theorem State.remainingOf_adjusted {left : Nat} {a : Adjustment} (h : s.Amended t x (c.adjusted tm a) (fun r => r.adjusted c a) c.timer)
    (hs : c.phase.stands = true) (h1 : c.phase = .parked → left = c.stored)
    (h2 : c.phase ≠ .parked → c.timer = none → left = 0 ∧ tm.period? = none)
    (h3 : ∀ u, c.phase ≠ .parked → c.timer = some u → ∃ r : Timer, s.tmu.timers[u] = some r ∧ left = r.remaining)
    (ha : a.ticks = none ∨ tm.period? ≠ none) : t.remainingOf (c.adjusted tm a) = raised left a.ticks := by
  refine State.remainingOf_left (tm := tm) hs (fun hp => ?_) (fun hp ht => ?_) fun u hp ht => ?_
  · rw [h1 hp]
    exact (if_pos hp).symm
  · obtain ⟨hleft, hper⟩ := h2 hp ht
    rw [hleft, ha.resolve_right fun hne => hne hper]
    exact ⟨rfl, hper⟩
  · obtain ⟨r, hr, hleft⟩ := h3 u hp ht
    refine ⟨r.adjusted c a, ?_, ?_⟩
    · rw [h.timers, if_pos (show c.timer = some u from ht), hr]
      rfl
    · rw [hleft]
      exact (if_neg hp).symm

/-- Whether a part was held. -/
theorem State.adjustmentHeld_selected {left value mult worth : Nat} (hleft : s.remainingOf c = left)
    (hworth : worth = numberAt p 4 2 * 10 ^ byteAt p 6)
    (hvalue : selected p 1 = true → tm.adjusted (⟨numberAt p 4 2, byteAt p 6⟩ : PointValue).worth = value)
    (hmult : selected p 2 = true → heldMultiplier (byteAt p 7) = mult) :
    s.adjustmentHeld c tm (selectedParts p) = true ↔ (selected p 0 = true ∧ 65535 < left + numberAt p 2 2) ∨
      (selected p 1 = true ∧ value ≠ worth) ∨ (selected p 2 = true ∧ mult ≠ byteAt p 7) := by
  have hw : (⟨numberAt p 4 2, byteAt p 6⟩ : PointValue).worth = worth := hworth.symm
  have h0 : (match (selectedParts p).ticks with
      | some n => decide (65535 < s.remainingOf c + n)
      | none => false) = decide (selected p 0 = true ∧ 65535 < left + numberAt p 2 2) := by
    cases hs : selected p 0 <;> simp [selectedParts, hs, hleft]
  have h1 : (match (selectedParts p).value with
      | some v => decide (tm.adjusted v.worth ≠ v.worth)
      | none => false) = decide (selected p 1 = true ∧ value ≠ worth) := by
    cases hs : selected p 1 with
    | true => simp [selectedParts, hs, hw, ← hvalue hs]
    | false => simp [selectedParts, hs]
  have h2 : (match (selectedParts p).multiplier with
      | some m => decide (heldMultiplier m ≠ m)
      | none => false) = decide (selected p 2 = true ∧ mult ≠ byteAt p 7) := by
    cases hs : selected p 2 with
    | true => simp [selectedParts, hs, ← hmult hs]
    | false => simp [selectedParts, hs]
  have hheld : s.adjustmentHeld c tm (selectedParts p) = (decide (selected p 0 = true ∧ 65535 < left + numberAt p 2 2) ||
      decide (selected p 1 = true ∧ value ≠ worth) || decide (selected p 2 = true ∧ mult ≠ byteAt p 7)) := by
    rw [← h0, ← h1, ← h2]
    rfl
  rw [hheld]
  simp only [Bool.or_eq_true, decide_eq_true_eq, or_assoc]

end

end

/-- Settles O50: an ENDED slot is set FREE; an adjustment is one record written and its timer's. -/
theorem modesAreRetiredAndAdjusted : Obligations.ModesAreRetiredAndAdjusted := by
  refine ⟨fun s b hw => ⟨fun hb => takeRequest_answers hw (retireMode_outOfRange hb), fun x hx =>
    ⟨fun h => ?stands, fun c why hc hp => ?retires⟩⟩, fun s p sel hw hlen hsel => ?adjust⟩
  case stands =>
    exact takeRequest_answers hw ((retireMode_eq hx).trans (if_neg (by rw [State.isEnded_eq_false h]; nofun)))
  case retires =>
    have he : s.isEnded x = true := by
      rw [State.isEnded_eq hc, hp]
      rfl
    exact takeRequest_answers hw ((retireMode_eq hx).trans (if_pos he))
  case adjust =>
    subst hsel
    refine ⟨fun h => ?outOfRange, fun h16 hv x hx => ?parts⟩
    case outOfRange =>
      exact takeRequest_answers hw (adjustMode_outOfRange (h.imp_right adjustment?_none)) hlen
    have ha := adjustment?_some h16 hv
    refine ⟨fun h => takeRequest_answers hw (adjustMode_wrongState hx ha h) hlen, fun c tm hc hno htm => ?_⟩
    have hs : c.phase.stands = true := by
      cases hp : c.phase with
      | ended why => exact absurd hp (hno why)
      | running => rfl
      | paused => rfl
      | parked => rfl
    have hadjust := adjustMode_standing hx ha hc hs htm
    obtain ⟨hout, hrest⟩ := adjustmentRefused_selected c tm p
    refine ⟨fun h => ?_, fun h0 h3 => ⟨fun hs3 hp => ?_, fun hs3 worth value mult left hworth hval1 hval2 hval3 hmult hl1 hl2 hl3 => ?_⟩⟩
    · rw [hout h] at hadjust
      exact takeRequest_answers hw hadjust hlen
    · rw [(hrest h0 h3).1 hs3 hp] at hadjust
      exact takeRequest_answers hw hadjust hlen
    · rw [(hrest h0 h3).2 hs3] at hadjust
      have ham := State.applyAdjustment_amended (tm := tm) hc (selectedParts p)
      have hleft := State.remainingOf_left (s := s) (tm := tm) hs hl1 hl2 hl3
      have hticks : (selectedParts p).ticks = none ∨ tm.period? ≠ none := h0.imp_left fun h => if_neg (by rw [selected, h]; nofun)
      have hnow := State.remainingOf_adjusted ham hs hl1 hl2 hl3 hticks
      obtain ⟨hv1, hv2⟩ := selectedParts_value c tm p hworth hval1 hval2 hval3
      have hm1 : (c.adjusted tm (selectedParts p)).multiplier = mult := by
        rw [hmult]
        cases hs2 : selected p 2 <;> simp_all [Context.adjusted, selectedParts, heldMultiplier, selected]
      have hm2 (hs2 : selected p 2 = true) : heldMultiplier (byteAt p 7) = mult := by
        rw [← hm1]
        simp [Context.adjusted, selectedParts, hs2]
      have hheld := State.adjustmentHeld_selected (tm := tm) hleft hworth hv2 hm2
      have hraised : raised left (selectedParts p).ticks =
          if (byteAt p 1).testBit 0 then min (left + numberAt p 2 2) 65535 else left := by
        change raised left (if selected p 0 then some (numberAt p 2 2) else none) = if selected p 0 then _ else _
        cases selected p 0 <;> rfl
      rw [hnow, hv1, hm1] at hadjust
      refine ⟨_, _, _, hraised, takeRequest_answers hw hadjust hlen, if_congr hheld rfl rfl, ⟨_, ham.slot, ?_, ?_⟩,
        fun y hy => ?_, fun u r hp ht hr => ?_, fun u hu => ?_, ham.expiring, ?_, ham.records⟩
      · rw [← hv1, ← hm1]
        rfl
      · by_cases hp : c.phase = .parked
        · rw [if_pos hp, hl1 hp]
          exact if_pos hp
        · rw [if_neg hp]
          exact if_neg hp
      · rw [ham.mst]
        exact Vector.getElem_set_ne x.isLt y.isLt fun e => hy (Fin.ext e.symm)
      · obtain ⟨q, hq, hleft'⟩ := hl3 u hp ht
        obtain rfl := Option.some.inj (hq.symm.trans hr)
        rw [ham.timers, if_pos ht, hq, Option.map_some, Timer.adjusted, if_neg hp, hleft']
        have hstaged : (selectedParts p).period.elim q.staged some =
            if (byteAt p 1).testBit 3 then some (numberAt p 8 2) else q.staged := by
          change (if selected p 3 then some (numberAt p 8 2) else none).elim q.staged some = if selected p 3 then _ else _
          cases selected p 3 <;> rfl
        rw [hstaged]
      · refine (ham.timers u).trans ?_
        split
        · next ht =>
          have hp : c.phase = .parked := hu.resolve_right fun h => h ht
          have hs3' : selected p 3 = false := hs3.resolve_right fun h => h hp
          have hid : (fun r : Timer => r.adjusted c (selectedParts p)) = id := by
            funext r
            simp [Timer.adjusted, hp, selectedParts, hs3']
          rw [hid, Option.map_id_fun, id_eq]
        · rfl
      · rw [ham.mst]

end Sys2Proof.Machine
end

section
/-! PROOFS. START_MODE request by request: what a start chooses, a standing context, a new one (R81 to R86): O48, O49. -/

namespace Sys2Proof.Machine

/-! ### What a start finds, under the law of the table -/

section
variable {s t : State} {x y : Fin 12} {i : Fin 32} {p : Nat} {g : Fin 8} {c d : Context} {tm : Template} {cur : Nat}
  {live : Prop} {v : Option (Fin 16)} {o : StartOutcome}

/-- The standing context of a player and template is the one a start finds (R78). -/
theorem Mst.Fits.standing?_eq (h : s.mst.Fits cur live) (hc : s.mst.slots[x] = some c) (hs : c.phase.stands = true) :
    s.standing? c.owner c.template = some x := by
  cases hfound : s.standing? c.owner c.template with
  | none => exact absurd rfl (State.standing?_none hfound x c hc hs rfl)
  | some y =>
    obtain ⟨d, hd, hds, ht, ho⟩ := State.standing?_some hfound
    rw [h.standing y x d c hd hc hds hs ho ht]

theorem State.standing?_eq_none (h : ∀ y : Fin 12, s.standingKey? y ≠ some (p, i)) : s.standing? p i = none := by
  refine Option.eq_none_iff_forall_ne_some.mpr fun y hy => h y ?_
  obtain ⟨d, hd, hds, ht, ho⟩ := State.standing?_some hy
  exact State.standingKey?_eq_some.mpr ⟨d, hd, hds, by rw [ht, ho]⟩

/-- The RUNNING context of a player and group is the one a start meets (R78). -/
theorem Mst.Fits.runningInGroup_eq (h : s.mst.Fits cur live) (hd : s.mst.slots[y] = some d) (hr : d.phase = .running)
    (hg : s.mst.group y ≠ 0) : s.runningInGroup d.owner (s.mst.group y) = some y := by
  cases hfound : s.runningInGroup d.owner (s.mst.group y) with
  | none => exact absurd rfl (State.runningInGroup_none hfound hg y d hd hr rfl)
  | some z =>
    obtain ⟨-, e, he, her, heo, hgroup⟩ := State.runningInGroup_some hfound
    rw [h.running z y e d he hd her hr heo (hgroup ▸ hg) hgroup]

theorem State.runningInGroup_key (h : s.runningInGroup p g = some y) : s.runningKey? y = some (p, g) := by
  obtain ⟨hg, d, hd, hr, ho, hgroup⟩ := State.runningInGroup_some h
  exact State.runningKey?_eq_some.mpr ⟨d, hd, hr, hgroup ▸ hg, by rw [ho, hgroup]⟩

theorem Mst.Fits.runningInGroup_of_key (h : s.mst.Fits cur live) (hk : s.runningKey? y = some (p, g)) :
    s.runningInGroup p g = some y := by
  obtain ⟨d, hd, hr, hg, hkey⟩ := State.runningKey?_eq_some.mp hk
  obtain ⟨rfl, rfl⟩ := Prod.mk.inj hkey
  exact h.runningInGroup_eq hd hr hg

/-- A timed or HURRY context takes the lowest FREE timer (R82). -/
theorem State.timerFor?_lowest {u : Fin 16} (hp : tm.period? ≠ none) (hu : s.tmu.timers[u] = none)
    (hlow : ∀ v, v < u → s.tmu.timers[v] ≠ none) : s.timerFor? tm = some (some u) := by
  obtain ⟨k, hk⟩ := Option.ne_none_iff_exists'.mp hp
  rw [State.timerFor?, hk]
  exact congrArg (Option.map some) (State.freeTimer?_eq_some.mpr ⟨hu, hlow⟩)

theorem State.timerFor?_untimed (hp : tm.period? = none) : s.timerFor? tm = some none := by rw [State.timerFor?, hp]

theorem State.timerFor?_full (hp : tm.period? ≠ none) (hu : ∀ u : Fin 16, s.tmu.timers[u] ≠ none) :
    s.timerFor? tm = none := by
  cases hv : s.timerFor? tm with
  | none => rfl
  | some v =>
    rcases State.timerFor?_some hv with ⟨-, h⟩ | ⟨u, -, h, -⟩
    · exact absurd h hp
    · exact absurd h (hu u)

theorem State.timerFor?_found (h : tm.period? = none ∨ ∃ u : Fin 16, s.tmu.timers[u] = none) :
    ∃ v, s.timerFor? tm = some v := by
  cases hv : s.timerFor? tm with
  | some v => exact ⟨v, rfl⟩
  | none =>
    obtain ⟨hp, hu⟩ := State.timerFor?_none hv
    rcases h with h | ⟨u, h⟩
    · exact absurd h hp
    · exact absurd h (hu u)

/-! ### The checks of a start (R83) -/

theorem State.startMode_undefined (h : s.mst.templates[i] = none) : s.startMode i = (s, .failed .undefined) := by
  simp only [State.startMode, h]

theorem State.startMode_refused (htm : s.mst.templates[i] = some tm)
    (h : s.gpc.tilted = true ∨ (s.gpc.game ≠ .starting ∧ s.gpc.game ≠ .inPlay) ∨
      (tm.mbOnly = true ∧ s.lmc.multiball = false)) : s.startMode i = (s, .failed .wrongState) := by
  simp only [State.startMode, htm]
  split
  · rfl
  · next ht =>
    split
    · rfl
    · next hg => exact if_pos ((h.resolve_left ht).resolve_left hg)

/-- Whether the checks of R83 let a start of a template through. -/
def State.admits (s : State) (tm : Template) : Prop :=
  s.gpc.tilted = false ∧ (s.gpc.game = .starting ∨ s.gpc.game = .inPlay) ∧ (tm.mbOnly = false ∨ s.lmc.multiball = true)

theorem State.startMode_stands (htm : s.mst.templates[c.template] = some tm) (ha : s.admits tm)
    (hm : s.mst.Fits cur live) (hc : s.mst.slots[x] = some c) (hs : c.phase.stands = true)
    (ho : s.currentPlayer = c.owner) : s.startMode c.template = s.startStanding x c tm := by
  obtain ⟨ht, hg, hmb⟩ := ha
  have hslot : s.slot? x = some c := hc
  have hgame : ¬ (s.gpc.game ≠ .starting ∧ s.gpc.game ≠ .inPlay) := by tauto
  have honly : ¬ (tm.mbOnly = true ∧ s.lmc.multiball = false) := by rcases hmb with h | h <;> simp [h]
  simp only [State.startMode, htm, ht, hgame, honly, ho, hm.standing?_eq hc hs, hslot, if_false, Bool.false_eq_true]

theorem State.startMode_new (htm : s.mst.templates[i] = some tm) (ha : s.admits tm)
    (hnone : s.standing? s.currentPlayer i = none) : s.startMode i = s.startNew i tm := by
  obtain ⟨ht, hg, hmb⟩ := ha
  have hgame : ¬ (s.gpc.game ≠ .starting ∧ s.gpc.game ≠ .inPlay) := by tauto
  have honly : ¬ (tm.mbOnly = true ∧ s.lmc.multiball = false) := by rcases hmb with h | h <;> simp [h]
  simp only [State.startMode, htm, ht, hgame, honly, hnone, if_false, Bool.false_eq_true]

/-! ### What START_MODE answers (R98) -/

theorem exec_startMode_failed {why : Status} (hw : s.glk.waiting = false) (h : s.startMode i = (t, .failed why)) :
    exec (.startMode [small i.val]) s = .next (t.answer 0x20 why []) :=
  takeRequest_answers hw (startModeRequest_failed h)

theorem exec_startMode_done (hw : s.glk.waiting = false) (h : s.startMode i = (t, o))
    (ho : o = .started x ∨ o = .stood x) :
    exec (.startMode [small i.val]) s = .next (t.answer 0x20 .ok [small x.val]) :=
  takeRequest_answers hw (startModeRequest_done h ho)

/-! ### A PARKED context resumed by a start (R84) -/

/-- State t is s with the PARKED context c of slot x resumed into phase p, its timer v counting from what was stored. -/
structure State.Resumes (s t : State) (x : Fin 12) (c : Context) (tm : Template) (v : Option (Fin 16)) (p : Phase) :
    Prop where
  slot : t.mst.slots[x] = some { c.taking v with phase := p }
  timer : ∀ u : Fin 16, v = some u →
    t.tmu.timers[u] = some { tm.timer x (tm.period?.getD 0) c.stored with state := p.timerState }
  ptb : t.ptb = s.ptb
  bdt : t.bdt = s.bdt
  lmc : t.lmc = s.lmc
  gpc : t.gpc = s.gpc

theorem State.Resumes.raise {ph : Phase} {n : Source} (h : s.Resumes t x c tm v ph) :
    s.Resumes (t.raise n) x c tm v ph := ⟨h.slot, h.timer, h.ptb, h.bdt, h.lmc, h.gpc⟩

theorem State.resumes_running (hc : s.mst.slots[x] = some c) (ht : c.timer = none) :
    s.Resumes ((s.takeTimer x tm v c.stored).enterRunning x) x c tm v .running where
  slot := by
    rw [State.takeTimer_enterRunning_mst hc]
    exact Mst.put_slots_same (m := s.mst)
  timer u hu := by
    rw [State.takeTimer_enterRunning_timers hc ht, if_pos hu]
    rfl
  ptb := by simp
  bdt := by simp
  lmc := by simp
  gpc := by simp

theorem State.resumes_paused (hc : s.mst.slots[x] = some c) (ht : c.timer = none) :
    s.Resumes ((s.takeTimer x tm v c.stored).enterPaused x) x c tm v .paused where
  slot := by
    rw [State.takeTimer_enterPaused_mst hc]
    exact Mst.put_slots_same (m := s.mst)
  timer u hu := by
    rw [State.takeTimer_enterPaused_timers hc ht, if_pos hu]
    rfl
  ptb := by simp
  bdt := by simp
  lmc := by simp
  gpc := by simp

theorem State.resumes_over (hyx : y ≠ x) (hc : s.mst.slots[x] = some c) (ht : c.timer = none)
    (hd : s.mst.slots[y] = some d) :
    s.Resumes (((s.takeTimer x tm v c.stored).enterPaused y).enterRunning x) x c tm v .running where
  slot := by
    rw [State.enterRunning_mst_congr (State.takeTimer_enterPaused_comm hyx hc hd),
      State.takeTimer_enterRunning_mst ((State.enterPaused_other (fun e => hyx e.symm) hd).trans hc)]
    exact Mst.put_slots_same (m := (s.enterPaused y).mst)
  timer u hu := by
    have hd' : (s.takeTimer x tm v c.stored).mst.slots[y] = some d := by
      rw [State.takeTimer_mst_amend hc, Mst.amend_slots_other hyx]
      exact hd
    have hc' : ((s.takeTimer x tm v c.stored).enterPaused y).mst.slots[x] = some (c.taking v) :=
      (State.enterPaused_other (fun e => hyx e.symm) hd').trans (State.takeTimer_same hc)
    rw [State.enterRunning_timers hc', Context.taking_timer ht, if_pos hu, State.enterPaused_timers hd',
      State.takeTimer_timers, if_pos hu]
    split <;> rfl
  ptb := by simp
  bdt := by simp
  lmc := by simp
  gpc := by simp

/-- A PARKED context that finds no RUNNING one of its group resumes into RUNNING. -/
theorem State.resumeByStart_alone (hm : s.mst.Fits cur live) (hc : s.mst.slots[x] = some c) (hp : c.phase = .parked)
    (ht : c.timer = none) (hv : s.timerFor? tm = some v) (hg : s.runningInGroup c.owner tm.exclusionGroup = none) :
    ∃ t, s.resumeByStart x c tm = (t, .started x) ∧ s.Resumes t x c tm v .running ∧
      t.mst.pauseOrder = s.mst.pauseOrder := by
  refine ⟨((s.takeTimer x tm v c.stored).enterRunning x).raise .modeStarted, ?_, (State.resumes_running hc ht).raise, ?_⟩
  · simp only [State.resumeByStart, hv, State.runningInGroup_takeTimer hc, hg]
  · rw [State.raise_mst, State.takeTimer_enterRunning_mst hc]
    exact List.erase_of_not_mem (hm.not_mem_pause hc (by rw [hp]; nofun))

/-- A PARKED context that finds a RUNNING one of its group is PAUSED behind it, or pauses it, by priority. -/
theorem State.resumeByStart_meets (hm : s.mst.Fits cur live) (hc : s.mst.slots[x] = some c) (hp : c.phase = .parked)
    (ht : c.timer = none) (hv : s.timerFor? tm = some v) (hg : s.runningInGroup c.owner tm.exclusionGroup = some y) :
    (tm.priority ≤ s.mst.priority y → ∃ t, s.resumeByStart x c tm = (t, .started x) ∧ s.Resumes t x c tm v .paused ∧
      t.phase? y = some .running ∧ t.mst.pauseOrder = s.mst.pauseOrder ++ [x]) ∧
    (s.mst.priority y < tm.priority → ∃ t, s.resumeByStart x c tm = (t, .started x) ∧ s.Resumes t x c tm v .running ∧
      t.phase? y = some .paused ∧ t.mst.pauseOrder = s.mst.pauseOrder ++ [y]) := by
  obtain ⟨-, d, hd, hdr, -, -⟩ := State.runningInGroup_some hg
  have hyx : y ≠ x := by
    rintro rfl
    obtain rfl := Option.some.inj (hc.symm.trans hd)
    nomatch hp.symm.trans hdr
  have hx : x ∉ s.mst.pauseOrder := hm.not_mem_pause hc (by rw [hp]; nofun)
  have hy : y ∉ s.mst.pauseOrder := hm.not_mem_pause hd (by rw [hdr]; nofun)
  have hprio : (s.takeTimer x tm v c.stored).slotPriority y = s.mst.priority y := by
    rw [State.slotPriority_eq, State.takeTimer_mst_amend hc, Mst.priority, Mst.template?, Mst.amend_slots_other hyx]
    rfl
  refine ⟨fun hle => ⟨((s.takeTimer x tm v c.stored).enterPaused x).raise .modeStarted, ?_,
      (State.resumes_paused hc ht).raise, State.phase?_iff.mpr ⟨d, ?_, hdr⟩, ?_⟩,
    fun hlt => ⟨(((s.takeTimer x tm v c.stored).enterPaused y).enterRunning x).raise .modeStarted, ?_,
      (State.resumes_over hyx hc ht hd).raise, State.phase?_iff.mpr ⟨{ d with phase := .paused }, ?_, rfl⟩, ?_⟩⟩
  · simp only [State.resumeByStart, hv, State.runningInGroup_takeTimer hc, hg, hprio, if_pos hle]
  · rw [State.raise_mst, State.takeTimer_enterPaused_mst hc]
    exact (Mst.put_slots_other (m := s.mst) hyx).trans hd
  · rw [State.raise_mst, State.takeTimer_enterPaused_mst hc]
    exact congrArg (· ++ [x]) (List.erase_of_not_mem hx)
  · simp only [State.resumeByStart, hv, State.runningInGroup_takeTimer hc, hg, hprio, if_neg (Nat.not_le.mpr hlt)]
  · rw [State.raise_mst, State.enterRunning_mst_congr (State.takeTimer_enterPaused_comm hyx hc hd),
      State.takeTimer_enterRunning_mst ((State.enterPaused_other (fun e => hyx e.symm) hd).trans hc)]
    refine (Mst.put_slots_other (m := (s.enterPaused y).mst) hyx).trans ?_
    rw [State.enterPaused_put hd]
    exact Mst.put_slots_same (m := s.mst)
  · rw [State.raise_mst, State.enterRunning_mst_congr (State.takeTimer_enterPaused_comm hyx hc hd),
      State.takeTimer_enterRunning_mst ((State.enterPaused_other (fun e => hyx e.symm) hd).trans hc),
      State.enterPaused_put hd]
    refine (List.erase_of_not_mem fun h => ?_).trans (congrArg (· ++ [y]) (List.erase_of_not_mem hy))
    rcases List.mem_append.mp h with h | h
    · exact hx (List.mem_of_mem_erase h)
    · exact hyx (List.mem_singleton.mp h).symm

/-- The three courses of a resume, one of which comes to pass. -/
theorem State.resumeByStart_courses (hm : s.mst.Fits cur live) (hc : s.mst.slots[x] = some c) (hp : c.phase = .parked)
    (ht : c.timer = none) (hv : s.timerFor? tm = some v) : ∃ (t : State) (ph : Phase),
      s.resumeByStart x c tm = (t, .started x) ∧ s.Resumes t x c tm v ph ∧
      (∀ y, s.runningInGroup c.owner tm.exclusionGroup = some y →
        (tm.priority ≤ s.mst.priority y → ph = .paused ∧ t.phase? y = some .running ∧
          t.mst.pauseOrder = s.mst.pauseOrder ++ [x]) ∧
        (s.mst.priority y < tm.priority → ph = .running ∧ t.phase? y = some .paused ∧
          t.mst.pauseOrder = s.mst.pauseOrder ++ [y])) ∧
      (s.runningInGroup c.owner tm.exclusionGroup = none → ph = .running ∧ t.mst.pauseOrder = s.mst.pauseOrder) := by
  cases hg : s.runningInGroup c.owner tm.exclusionGroup with
  | none =>
    obtain ⟨t, hrun, hres, hpause⟩ := State.resumeByStart_alone hm hc hp ht hv hg
    exact ⟨t, _, hrun, hres, nofun, fun _ => ⟨rfl, hpause⟩⟩
  | some y =>
    obtain ⟨hbehind, hover⟩ := State.resumeByStart_meets hm hc hp ht hv hg
    rcases Nat.lt_or_ge (s.mst.priority y) tm.priority with hlt | hle
    · obtain ⟨t, hrun, hres, hphase, hpause⟩ := hover hlt
      refine ⟨t, _, hrun, hres, fun z hz => ?_, nofun⟩
      obtain rfl := Option.some.inj hz
      exact ⟨fun hle => absurd hlt (Nat.not_lt.mpr hle), fun _ => ⟨rfl, hphase, hpause⟩⟩
    · obtain ⟨t, hrun, hres, hphase, hpause⟩ := hbehind hle
      refine ⟨t, _, hrun, hres, fun z hz => ?_, nofun⟩
      obtain rfl := Option.some.inj hz
      exact ⟨fun _ => ⟨rfl, hphase, hpause⟩, fun hlt => absurd hlt (Nat.not_lt.mpr hle)⟩

theorem State.resumeByStart_full (hp : tm.period? ≠ none) (hu : ∀ u : Fin 16, s.tmu.timers[u] ≠ none) :
    s.resumeByStart x c tm = (s.endContext x .noTimer false, .failed .noTimer) := by
  simp only [State.resumeByStart, State.timerFor?_full hp hu]

theorem State.startStanding_parked (hp : c.phase = .parked) : s.startStanding x c tm = s.resumeByStart x c tm :=
  if_pos hp

theorem State.startStanding_left (hp : c.phase = .running ∨ c.phase = .paused)
    (h : tm.refreshes = false ∨ c.timer = none) : s.startStanding x c tm = (s, .stood x) := by
  have hnot : c.phase ≠ .parked := by rcases hp with hp | hp <;> rw [hp] <;> nofun
  rw [State.startStanding, if_neg hnot]
  rcases h with h | h
  · rw [if_neg (by rw [h]; nofun)]
  · rw [h]
    exact ite_self _

theorem State.startStanding_refreshed {u : Fin 16} {r : Timer} (hp : c.phase = .running ∨ c.phase = .paused)
    (hf : tm.refreshes = true) (hc : c.timer = some u) (hr : s.tmu.timers[u] = some r) :
    s.startStanding x c tm = (s.withTimer u (some r.load), .stood x) := by
  have hnot : c.phase ≠ .parked := by rcases hp with hp | hp <;> rw [hp] <;> nofun
  rw [State.startStanding, if_neg hnot, if_pos hf, hc, State.modifyHeld, State.modifyTimer, hr]
  rfl

/-- A PARKED context of START_MODE, course by course. -/
theorem exec_startMode_resumes (hw : s.glk.waiting = false) (hm : s.mst.Fits cur live)
    (htm : s.mst.templates[c.template] = some tm) (ha : s.admits tm) (hc : s.mst.slots[x] = some c)
    (hp : c.phase = .parked) (ho : s.currentPlayer = c.owner) (ht : c.timer = none) (hv : s.timerFor? tm = some v) :
    ∃ (t : State) (ph : Phase), exec (.startMode [small c.template.val]) s = .next (t.answer 0x20 .ok [small x.val]) ∧
      t.hasNotice .modeStarted = true ∧ s.Resumes t x c tm v ph ∧
      (∀ y, s.runningInGroup c.owner tm.exclusionGroup = some y →
        (tm.priority ≤ s.mst.priority y → ph = .paused ∧ t.phase? y = some .running ∧
          t.mst.pauseOrder = s.mst.pauseOrder ++ [x]) ∧
        (s.mst.priority y < tm.priority → ph = .running ∧ t.phase? y = some .paused ∧
          t.mst.pauseOrder = s.mst.pauseOrder ++ [y])) ∧
      (s.runningInGroup c.owner tm.exclusionGroup = none → ph = .running ∧ t.mst.pauseOrder = s.mst.pauseOrder) := by
  obtain ⟨t, ph, hrun, hres, hmeets, halone⟩ := State.resumeByStart_courses hm hc hp ht hv
  have hstart : s.startMode c.template = (t, .started x) := by
    rw [State.startMode_stands htm ha hm hc (by rw [hp]; rfl) ho, State.startStanding_parked hp, hrun]
  exact ⟨t, ph, exec_startMode_done hw hstart (.inl rfl), State.startMode_started hstart, hres, hmeets, halone⟩

end

theorem exec_startMode_outOfRange {s : State} {b : Byte} (hw : s.glk.waiting = false) (h : 32 ≤ b.toNat) :
    exec (.startMode [b]) s = .next (s.answer 0x20 .outOfRange []) := by
  refine takeRequest_answers hw ?_
  have hi : index? 32 (byteAt [b] 0) = none := index?_eq_none.mpr h
  rw [startModeRequest, hi]
  rfl

/-- Settles O48: the checks in their order, and the three courses of a PARKED context. -/
theorem startModeMeetsAStandingContext : Obligations.StartModeMeetsAStandingContext := by
  intro s b hw
  refine ⟨exec_startMode_outOfRange hw, fun i hi => ?_⟩
  obtain rfl : b = small i.val := by rw [hi, small_byte]
  refine ⟨fun hn => exec_startMode_failed hw (State.startMode_undefined hn), fun tm htm =>
    ⟨fun h => exec_startMode_failed hw (State.startMode_refused htm h), fun htilt hgame hmb hlaw n x c hcur hc hti hown => ?_⟩⟩
  subst hti
  have ha : s.admits tm := ⟨htilt, hgame, hmb⟩
  have hm := (modeLaw_iff.mp hlaw).1
  have ho : s.currentPlayer = c.owner := (State.currentPlayer_eq hcur).trans hown.symm
  refine ⟨fun hp => ?live, fun hp => ⟨fun hper hfull => ?full, fun hv hct => ?resumed⟩⟩
  case live =>
    have hs : c.phase.stands = true := by rcases hp with hp | hp <;> rw [hp] <;> rfl
    have hstart := State.startMode_stands htm ha hm hc hs ho
    exact ⟨fun h => exec_startMode_done hw (hstart.trans (State.startStanding_left hp h)) (.inr rfl),
      fun u r hf hct hr => exec_startMode_done hw (hstart.trans (State.startStanding_refreshed hp hf hct hr)) (.inr rfl)⟩
  case full =>
    refine exec_startMode_failed hw ((State.startMode_stands htm ha hm hc (by rw [hp]; rfl) ho).trans ?_)
    rw [State.startStanding_parked hp, State.resumeByStart_full hper hfull]
  case resumed =>
    obtain ⟨v, hv⟩ := State.timerFor?_found hv
    obtain ⟨t, ph, hexec, hnotice, hres, hmeets, halone⟩ := exec_startMode_resumes hw hm htm ha hc hp ho hct hv
    refine ⟨_, _, hexec, rfl, hnotice, hres.slot, ?_, fun y hrun hyo hg hyg => ?_, fun hnone => ?_, fun hper => ?_,
      fun u hper hu hlow => ?_, hres.ptb, hres.bdt, hres.lmc, hres.gpc⟩
    · rfl
    · obtain ⟨d, hd, hdr⟩ := State.isRunning_iff.mp hrun
      have hslot : s.slot? y = some d := hd
      rw [hslot] at hyo
      have hdo : d.owner = c.owner := (Option.some.inj hyo).trans hown.symm
      have hyg : s.mst.group y = tm.exclusionGroup := hyg
      have hfound := hm.runningInGroup_eq hd hdr (hyg ▸ hg)
      rw [hdo, hyg] at hfound
      exact hmeets y hfound
    · refine halone (Option.eq_none_iff_forall_ne_some.mpr fun y hy => ?_)
      obtain ⟨hg, d, hd, hdr, hdo, hyg⟩ := State.runningInGroup_some hy
      have hslot : s.slot? y = some d := hd
      refine (hnone y (State.isRunning_iff.mpr ⟨d, hd, hdr⟩) ?_).elim hg (· hyg)
      rw [hslot]
      exact congrArg some (hdo.trans hown)
    · obtain rfl := Option.some.inj ((State.timerFor?_untimed hper).symm.trans hv)
      exact hct
    · obtain rfl := Option.some.inj ((State.timerFor?_lowest hper hu hlow).symm.trans hv)
      obtain ⟨k, hk⟩ := Option.ne_none_iff_exists'.mp hper
      refine ⟨rfl, _, hres.timer u rfl, ?_, rfl, rfl, rfl⟩
      rw [hk]
      rfl

end Sys2Proof.Machine
end

section
/-! PROOFS. START_MODE with no standing context: the slot, the timer, the group, the context set up (R81 to R86): O49. -/

namespace Sys2Proof.Machine

section
variable {s t m : State} {x y : Fin 12} {i : Fin 32} {p : Nat} {c d : Context} {tm : Template} {cur : Nat}
  {live : Prop} {v : Option (Fin 16)}

/-! ### The slot of a new context (R81) -/

theorem State.chooseSlot?_none (hm : s.mst.Fits cur live) (h : ∀ y : Fin 12, s.isStanding y = true) :
    s.chooseSlot? = none := by
  cases hx : s.chooseSlot? with
  | none => rfl
  | some x =>
    obtain ⟨c, hc, hs⟩ := isStanding_iff.mp (h x)
    rcases State.chooseSlot?_some hx with hfree | hended
    · nomatch hfree.symm.trans hc
    · exact absurd hended (hm.not_mem_ended hc hs)

theorem State.chooseSlot?_eq (h : (s.mst.slots[x] = none ∧ ∀ y, y < x → s.mst.slots[y] ≠ none) ∨
    ((∀ y : Fin 12, s.mst.slots[y] ≠ none) ∧ s.mst.ended.head? = some x)) : s.chooseSlot? = some x := by
  unfold State.chooseSlot?
  rcases h with ⟨hx, hlow⟩ | ⟨hfull, hhead⟩
  · have hfind : ((List.finRange 12).find? fun slot => (s.slot? slot).isNone) = some x :=
      find?_finRange_eq_some.mpr ⟨Option.isNone_iff_eq_none.mpr hx, fun y hy =>
        Option.isNone_eq_false_iff.mpr (Option.isSome_iff_ne_none.mpr (hlow y hy))⟩
    rw [hfind]
  · have hfind : ((List.finRange 12).find? fun slot => (s.slot? slot).isNone) = none :=
      List.find?_eq_none.mpr fun y _ h => hfull y (Option.isNone_iff_eq_none.mp h)
    rw [hfind]
    exact hhead

/-! ### The stack of a record put into RUNNING (R79) -/

/-- A slot that enters RUNNING stands before the first entry at or below its priority. -/
theorem Mst.put_stack_split {m : Mst} (hsorted : m.stack.Pairwise fun a b => m.priority b ≤ m.priority a)
    (hx : x ∉ m.stack) (hp : c.phase = .running) (htm : m.templates[c.template] = some tm) :
    ∃ above below, (m.put x c).stack = above ++ x :: below ∧ above ++ below = m.stack ∧
      (∀ y ∈ above, tm.priority < m.priority y) ∧ ∀ y ∈ below, m.priority y ≤ tm.priority := by
  have hown : (m.put x c).priority x = tm.priority := Mst.priority_eq Mst.put_slots_same htm
  obtain ⟨above, below, hl, hi, habove, hbelow⟩ :=
    insertByPriority_split (m.put x c).priority x ((m.put x c).priority x) (m.stack.erase x)
  rw [List.erase_of_not_mem hx] at hl hi
  rw [hown] at habove hbelow
  have hother : ∀ y ∈ m.stack, (m.put x c).priority y = m.priority y := fun y hy =>
    Mst.put_priority_other fun e => hx (e ▸ hy)
  refine ⟨above, below, ?_, hl.symm, fun y hy => ?_, fun y hy => ?_⟩
  · rw [Mst.put_stack_running hp, List.erase_of_not_mem hx, hi]
  · exact hother y (hl ▸ List.mem_append_left _ hy) ▸ habove y hy
  · have hin : ∀ z ∈ below, z ∈ m.stack := fun z hz => hl ▸ List.mem_append_right _ hz
    cases below with
    | nil => nomatch hy
    | cons z below =>
      have hz : m.priority z ≤ tm.priority := hother z (hin z (List.mem_cons_self ..)) ▸ hbelow z rfl
      rcases List.mem_cons.mp hy with rfl | hy
      · exact hz
      · rw [hl] at hsorted
        exact ((List.pairwise_cons.mp (List.pairwise_append.mp hsorted).2.1).1 y hy).trans hz

/-! ### The courses of a start with no standing context (R85) -/

theorem State.startNew_noSlot (h : s.chooseSlot? = none) : s.startNew i tm = (s, .failed .noSlot) := by
  simp only [State.startNew, h]

theorem State.startNew_noTimer (h : s.chooseSlot? = some x) (hv : s.timerFor? tm = none) :
    s.startNew i tm = (s, .failed .noTimer) := by
  simp only [State.startNew, h, hv]

theorem State.startNew_blocked (h : s.chooseSlot? = some x) (hv : s.timerFor? tm = some v)
    (hg : s.runningInGroup s.currentPlayer tm.exclusionGroup = some y) (hle : tm.priority ≤ s.slotPriority y) :
    s.startNew i tm = (s, .failed .blocked) := by
  simp only [State.startNew, h, hv, hg, if_pos hle]

theorem State.startNew_alone (h : s.chooseSlot? = some x) (hv : s.timerFor? tm = some v)
    (hg : s.runningInGroup s.currentPlayer tm.exclusionGroup = none) :
    s.startNew i tm = (s.setUp x v i tm, .started x) := by
  simp only [State.startNew, h, hv, hg]

theorem State.startNew_over (h : s.chooseSlot? = some x) (hv : s.timerFor? tm = some v)
    (hg : s.runningInGroup s.currentPlayer tm.exclusionGroup = some y) (hlt : s.slotPriority y < tm.priority) :
    s.startNew i tm = ((s.enterPaused y).setUp x v i tm, .started x) := by
  simp only [State.startNew, h, hv, hg, if_neg (Nat.not_le.mpr hlt)]

/-! ### The context set up -/

/-- State m is s with the RUNNING context of a player's group, where there is one, put into PAUSED (R85). -/
structure State.GroupCleared (s m : State) (p : Nat) (g : Fin 8) : Prop where
  paused : ∀ (y : Fin 12) (d : Context), s.runningKey? y = some (p, g) → s.mst.slots[y] = some d →
    m.mst.slots[y] = some { d with phase := .paused } ∧ m.mst.pauseOrder = s.mst.pauseOrder ++ [y] ∧
      m.mst.stack = s.mst.stack.erase y ∧ ∀ (u : Fin 16) (r : Timer), d.timer = some u → s.tmu.timers[u] = some r →
        m.tmu.timers[u] = some { r with state := .frozen }
  alone : (∀ y : Fin 12, s.runningKey? y ≠ some (p, g)) → m = s
  others : ∀ y : Fin 12, s.runningKey? y ≠ some (p, g) → m.mst.slots[y] = s.mst.slots[y]
  free : ∀ u : Fin 16, s.tmu.timers[u] = none → m.tmu.timers[u] = none
  stack : m.mst.stack.Sublist s.mst.stack
  pauseOrder : ∀ y : Fin 12, y ∈ m.mst.pauseOrder → y ∈ s.mst.pauseOrder ∨ s.runningKey? y = some (p, g)
  ended : m.mst.ended = s.mst.ended
  priority : m.mst.priority = s.mst.priority
  templates : m.mst.templates = s.mst.templates
  ptb : m.ptb = s.ptb
  bdt : m.bdt = s.bdt
  lmc : m.lmc = s.lmc
  gpc : m.gpc = s.gpc

theorem State.GroupCleared.of_alone {g : Fin 8} (h : ∀ y : Fin 12, s.runningKey? y ≠ some (p, g)) :
    s.GroupCleared s p g where
  paused y _ hy := absurd hy (h y)
  alone _ := rfl
  others _ _ := rfl
  free _ h := h
  stack := List.Sublist.refl _
  pauseOrder _ h := .inl h
  ended := rfl
  priority := rfl
  templates := rfl
  ptb := rfl
  bdt := rfl
  lmc := rfl
  gpc := rfl

theorem State.GroupCleared.of_paused {g : Fin 8} (hm : s.mst.Fits cur live) (ht : s.mst.Timed s.tmu.timers live)
    (hy : s.runningKey? y = some (p, g)) : s.GroupCleared (s.enterPaused y) p g := by
  obtain ⟨d, hd, hr, -, -⟩ := State.runningKey?_eq_some.mp hy
  have hput := State.enterPaused_put hd
  have honly : ∀ z : Fin 12, s.runningKey? z = some (p, g) → z = y := fun z hz =>
    Option.some.inj ((hm.runningInGroup_of_key hz).symm.trans (hm.runningInGroup_of_key hy))
  have hnot : y ∉ s.mst.pauseOrder := hm.not_mem_pause hd (by rw [hr]; nofun)
  have hpause : (s.enterPaused y).mst.pauseOrder = s.mst.pauseOrder ++ [y] := by
    rw [hput]
    exact congrArg (· ++ [y]) (List.erase_of_not_mem hnot)
  have hstack : (s.enterPaused y).mst.stack = s.mst.stack.erase y := by
    rw [hput]
    exact Mst.put_stack_of_ne (m := s.mst) (c := { d with phase := .paused }) nofun
  constructor
  case paused =>
    intro z e hz he
    obtain rfl := honly z hz
    obtain rfl := Option.some.inj (hd.symm.trans he)
    refine ⟨?_, hpause, hstack, fun u r hu hr' => ?_⟩
    · rw [hput]
      exact Mst.put_slots_same (m := s.mst)
    · obtain ⟨tm, htm⟩ := hm.template z d hd
      obtain ⟨r', hr'', -, hstate⟩ := (ht.held z d tm hd htm).2 u hu
      obtain rfl := Option.some.inj (hr'.symm.trans hr'')
      rw [State.enterPaused_timers hd, if_pos hu, hr', Option.map_some, Timer.freeze, if_pos]
      rw [hstate, hr]
      rfl
  case alone => exact fun h => absurd hy (h y)
  case others => exact fun z hz => State.enterPaused_other (fun e => hz (e ▸ hy)) hd
  case free =>
    intro u hu
    rw [State.enterPaused_timers hd, hu]
    exact ite_self _
  case stack => exact hstack ▸ List.erase_sublist
  case pauseOrder =>
    intro z hz
    rw [hpause] at hz
    rcases List.mem_append.mp hz with hz | hz
    · exact .inl hz
    · obtain rfl := List.mem_singleton.mp hz
      exact .inr hy
  case ended => rw [hput]
  case priority =>
    rw [hput]
    exact Mst.put_priority (m := s.mst) hd rfl
  case templates => rw [hput]; rfl
  all_goals simp

/-- A start that is not blocked: the group is cleared, then the context set up. -/
theorem State.startNew_sets (hm : s.mst.Fits cur live) (ht : s.mst.Timed s.tmu.timers live)
    (hx : s.chooseSlot? = some x) (hv : s.timerFor? tm = some v)
    (hlt : ∀ y : Fin 12, s.runningKey? y = some (s.currentPlayer, tm.exclusionGroup) → s.slotPriority y < tm.priority) :
    ∃ m, s.startNew i tm = (m.setUp x v i tm, .started x) ∧ s.GroupCleared m s.currentPlayer tm.exclusionGroup := by
  cases hg : s.runningInGroup s.currentPlayer tm.exclusionGroup with
  | none =>
    refine ⟨s, State.startNew_alone hx hv hg, .of_alone fun y hy => ?_⟩
    nomatch hg.symm.trans (hm.runningInGroup_of_key hy)
  | some y =>
    have hy := State.runningInGroup_key hg
    exact ⟨s.enterPaused y, State.startNew_over hx hv hg (hlt y hy), .of_paused hm ht hy⟩

/-- The slot a start takes is FREE or ENDED, in no list but the ended one. -/
theorem State.chooseSlot?_still (hm : s.mst.Fits cur live) (hx : s.chooseSlot? = some x) :
    ∀ c : Context, s.mst.slots[x] = some c → c.phase.stands = false := fun c hc => by
  rcases State.chooseSlot?_some hx with hfree | hended
  · nomatch hfree.symm.trans hc
  · obtain ⟨d, hd, hs⟩ := (hm.ended x).mp hended
    obtain rfl := Option.some.inj (hc.symm.trans hd)
    exact hs

theorem Mst.Fits.not_mem_of_still {m : Mst} (hm : m.Fits cur live)
    (hx : ∀ c : Context, m.slots[x] = some c → c.phase.stands = false) : x ∉ m.stack ∧ x ∉ m.pauseOrder := by
  refine ⟨fun h => ?_, fun h => ?_⟩
  · obtain ⟨c, hc, hp⟩ := (hm.stack x).mp h
    nomatch (hp ▸ hx c hc : Phase.running.stands = false)
  · obtain ⟨c, hc, hp⟩ := (hm.pause x).mp h
    nomatch (hp ▸ hx c hc : Phase.paused.stands = false)

/-- The lists once the new context has entered RUNNING (R79, R81). -/
theorem State.GroupCleared.setUp_lists {g : Fin 8} (h : s.GroupCleared m p g) (hm : s.mst.Fits cur live)
    (htm : s.mst.templates[i] = some tm) (hx : ∀ c : Context, s.mst.slots[x] = some c → c.phase.stands = false) :
    (m.setUp x v i tm).mst.ended = s.mst.ended.erase x ∧
      (m.setUp x v i tm).mst.pauseOrder = m.mst.pauseOrder ∧
      ∃ above below, (m.setUp x v i tm).mst.stack = above ++ x :: below ∧ above ++ below = m.mst.stack ∧
        (∀ y ∈ above, tm.priority < s.mst.priority y) ∧ ∀ y ∈ below, s.mst.priority y ≤ tm.priority := by
  obtain ⟨hstack, hpause⟩ := hm.not_mem_of_still hx
  rw [State.setUp_put]
  refine ⟨?_, ?_, ?_⟩
  · rw [← h.ended]
    rfl
  · refine List.erase_of_not_mem fun hin => ?_
    rcases h.pauseOrder x hin with hin | hkey
    · exact hpause hin
    · obtain ⟨d, hd, hr, -, -⟩ := State.runningKey?_eq_some.mp hkey
      nomatch (hr ▸ hx d hd : Phase.running.stands = false)
  · rw [← h.priority]
    refine Mst.put_stack_split ?_ (fun hin => hstack (h.stack.subset hin)) rfl ?_
    · rw [h.priority]
      exact hm.sorted.sublist h.stack
    · rw [h.templates]
      exact htm

end

/-- Settles O49: the slot, the timer and the group in their order, then the group cleared and the context set up. -/
theorem startModeSetsUpAContext : Obligations.StartModeSetsUpAContext := by
  intro s b i tm n hw hi htm htilt hgame hmb hlaw htlaw hcur hnone
  obtain rfl : b = small i.val := by rw [hi, small_byte]
  have hm := (modeLaw_iff.mp hlaw).1
  have hplayer := State.currentPlayer_eq hcur
  have hstart : s.startMode i = s.startNew i tm :=
    State.startMode_new htm ⟨htilt, hgame, hmb⟩ (State.standing?_eq_none (hplayer.symm ▸ hnone))
  refine ⟨fun hfull => exec_startMode_failed hw (hstart.trans (State.startNew_noSlot (State.chooseSlot?_none hm hfull))),
    fun x hx => ?_⟩
  have hslot := State.chooseSlot?_eq hx
  refine ⟨fun hper hfull => exec_startMode_failed hw
      (hstart.trans (State.startNew_noTimer hslot (State.timerFor?_full hper hfull))), fun htimer => ?_⟩
  obtain ⟨v, hv⟩ := State.timerFor?_found htimer
  refine ⟨fun y hy hle => exec_startMode_failed hw (hstart.trans (State.startNew_blocked hslot hv ?_ hle)), fun hlt => ?_⟩
  · rw [hplayer]
    exact hm.runningInGroup_of_key hy
  · obtain ⟨m, hnew, hclear⟩ := State.startNew_sets (i := i) hm ((timerLaw_iff hlaw).mp htlaw) hslot hv (hplayer.symm ▸ hlt)
    rw [hplayer] at hclear
    have hcleared : m.currentPlayer = n + 1 := by rw [State.currentPlayer, hclear.gpc]; exact hplayer
    have hrun := hstart.trans hnew
    have hstill := State.chooseSlot?_still hm hslot
    obtain ⟨hended, hpause, above, below, hstack, hboth, habove, hbelow⟩ := hclear.setUp_lists (v := v) hm htm hstill
    have hother : ∀ y : Fin 12, y ≠ x → (m.setUp x v i tm).mst.slots[y] = m.mst.slots[y] := fun y hy => by
      rw [State.setUp_put]
      exact Mst.put_slots_other hy
    have hgpc : (m.setUp x v i tm).gpc = m.gpc := by simp
    have hnotice : (m.setUp x v i tm).hasNotice .modeStarted = true := State.startMode_started hrun
    refine ⟨_, startedContext i tm (n + 1) v, above, below, exec_startMode_done hw hrun (.inl rfl), rfl,
      hnotice, ?_, rfl, rfl, rfl, rfl, rfl, rfl, rfl, hended, hstack, habove, hbelow,
      fun hper => ?_, fun u k hper hu hlow => ?_, fun y d hy hd => ?_, fun h => ?_, fun y hyx hy => ?_,
      ?_, ?_, ?_, hgpc.trans hclear.gpc⟩
    · rw [State.answer_mst, State.setUp_put, hcleared]
      exact Mst.put_slots_same
    · obtain rfl := Option.some.inj ((State.timerFor?_untimed hper).symm.trans hv)
      exact ⟨rfl, fun u hu => (State.setUp_timers i u).trans (hclear.free u hu)⟩
    · have hper' : tm.period? ≠ none := by rw [hper]; nofun
      obtain rfl := Option.some.inj ((State.timerFor?_lowest hper' hu hlow).symm.trans hv)
      refine ⟨rfl, (State.setUp_timers i u).trans ?_⟩
      rw [if_pos rfl, hper]
      rfl
    · obtain ⟨hslots, horder, herase, htimers⟩ := hclear.paused y d hy hd
      refine ⟨(hother y fun e => ?_).trans hslots, hpause.trans horder, hboth.trans herase, fun u r hu hr => ?_⟩
      · obtain ⟨d', hd', hr, -, -⟩ := State.runningKey?_eq_some.mp (e ▸ hy)
        nomatch (hr ▸ hstill d' hd' : Phase.running.stands = false)
      · have hvu : v ≠ some u := fun hvu => by
          rcases State.timerFor?_some hv with ⟨h, -⟩ | ⟨w, h, hw', -⟩
          · nomatch h.symm.trans hvu
          · obtain rfl := Option.some.inj (h.symm.trans hvu)
            nomatch hw'.symm.trans hr
        exact ((State.setUp_timers i u).trans (if_neg hvu)).trans (htimers u r hu hr)
    · obtain rfl := hclear.alone h
      exact ⟨hboth, hpause⟩
    · exact (hother y hyx).trans (hclear.others y hy)
    · exact (show (m.setUp x v i tm).ptb = m.ptb by simp).trans hclear.ptb
    · exact (show (m.setUp x v i tm).bdt = m.bdt by simp).trans hclear.bdt
    · exact (show (m.setUp x v i tm).lmc = m.lmc by simp).trans hclear.lmc

end Sys2Proof.Machine
end

section
/-! PROOFS. Claimed hits: what a credit for a context writes, the claims of one context (R47, R56, R88, R89): O25, O26. -/

namespace Sys2Proof.Machine

/-! ### A credit for a context -/

section
variable {s t : State} {n points k w : Nat} {x y : Fin 12} {c d : Context} {tm : Template} {r : Player} {g : Fin 16}
  {f : ShotFields}

theorem State.addTotal_mst (hc : s.mst.slots[x] = some c) :
    (s.addTotal x points).mst = s.mst.amend x { c with total := min (c.total + points) scoreMax } := by
  rw [State.addTotal, hc]
  rfl

/-- A credit writes the total of the context that pays and nothing else of the stack (R59). -/
theorem State.credit_mst (hc : s.mst.slots[x] = some c) (hr : s.ptb.players[n]? = some r) :
    (s.credit (n + 1) points (some x)).mst = s.mst.amend x { c with total := min (c.total + points) scoreMax } := by
  have hp : s.player? (n + 1) = some r := hr
  simp only [State.credit, hp, State.thresholdCheck_frame, State.addPayer]
  refine (State.addTotal_mst (c := c) ?_).trans ?_ <;> simp only [State.limitCheck_frame, State.modifyPlayer_mst]
  exact hc

/-- A credit writes the score, the flag, the thresholds crossed and the extra balls of the player (R57 to R60). -/
theorem State.credit_player {payer : Option (Fin 12)} (hr : s.ptb.players[n]? = some r) :
    ∃ r' : Player, (s.credit (n + 1) points payer).ptb.players[n]? = some r' ∧
      r' = { r with score := min (r.score + points) scoreMax, scoreLimitReported := r'.scoreLimitReported,
                    crossed := r'.crossed, extraBalls := r'.extraBalls } := by
  obtain ⟨t, r', hcrossed, -⟩ := State.credit_record points payer hr
  refine ⟨r', hcrossed.record, ?_⟩
  rw [hcrossed.fields]
  rfl

theorem State.modifyPlayer_common {p : Nat} {h : Player → Player} :
    (s.modifyPlayer p h).ptb.commonValues = s.ptb.commonValues := by cases p <;> rfl

theorem State.crossThreshold_common {p : Nat} {i : Fin 8} {th : Threshold} :
    (s.crossThreshold p i th).ptb.commonValues = s.ptb.commonValues := by
  have hball (u : State) : (u.giveExtraBall p).ptb.commonValues = u.ptb.commonValues := by
    unfold State.giveExtraBall
    split
    · split
      · exact State.modifyPlayer_common
      · rfl
    · rfl
  unfold State.crossThreshold
  dsimp only
  split
  · exact (hball _).trans State.modifyPlayer_common
  · exact State.modifyPlayer_common

theorem State.checkThreshold_common {p old new : Nat} {i : Fin 8} :
    (s.checkThreshold p old new i).ptb.commonValues = s.ptb.commonValues := by
  unfold State.checkThreshold
  split
  · split
    · exact State.crossThreshold_common
    · rfl
  · rfl

theorem State.limitCheck_common {p : Nat} : (s.limitCheck p r points).ptb.commonValues = s.ptb.commonValues := by
  unfold State.limitCheck
  split
  · exact State.modifyPlayer_common
  · rfl

theorem State.credit_common {p : Nat} {payer : Option (Fin 12)} :
    (s.credit p points payer).ptb.commonValues = s.ptb.commonValues := by
  unfold State.credit
  split
  · rfl
  · refine (foldl_keeps (fun t : State => t.ptb.commonValues = s.ptb.commonValues) _
      (fun _ _ h => State.checkThreshold_common.trans h) _ _ ?_)
    simp only [State.addPayer_frame]
    exact State.limitCheck_common.trans State.modifyPlayer_common

theorem State.pfFactor_eq {b : Bool} (hcur : s.gpc.current = some (n + 1)) (hr : s.ptb.players[n]? = some r) :
    s.pfFactor b = if b then r.pfMult else 1 := by
  have hp : s.player? s.currentPlayer = some r := by rw [State.currentPlayer_eq hcur]; exact hr
  rw [State.pfFactor, hp]
  rfl

/-- The record of a context paid for a hit. -/
def Context.paid (c : Context) (hits points : Nat) : Context :=
  { c with hits := hits, total := min (c.total + points) scoreMax }

/-- The state in which the context c of slot x has been paid and its hits have been counted. -/
def State.paid (s : State) (n points : Nat) (x : Fin 12) (c : Context) (hits : Nat) : State :=
  (s.credit (n + 1) points (some x)).withSlot x (some (c.paid hits points))

/-- What a payment leaves and what it writes. -/
structure State.Pays (s t : State) (n points : Nat) (x : Fin 12) (c : Context) (hits : Nat) (r : Player) : Prop where
  mst : t.mst = s.mst.amend x (c.paid hits points)
  player : ∃ r' : Player, t.ptb.players[n]? = some r' ∧
    r' = { r with score := min (r.score + points) scoreMax, scoreLimitReported := r'.scoreLimitReported,
                  crossed := r'.crossed, extraBalls := r'.extraBalls }
  common : t.ptb.commonValues = s.ptb.commonValues
  tmu : t.tmu = s.tmu
  bdt : t.bdt = s.bdt
  lmc : t.lmc = s.lmc
  gpc : t.gpc = s.gpc

theorem State.paid_pays {hits : Nat} (hc : s.mst.slots[x] = some c) (hr : s.ptb.players[n]? = some r) :
    s.Pays (s.paid n points x c hits) n points x c hits r where
  mst := by
    refine (congrArg (fun m : Mst => m.amend x (c.paid hits points)) (State.credit_mst (points := points) hc hr)).trans ?_
    simp only [Mst.amend, Vector.set_set]
  player := State.credit_player hr
  common := State.credit_common
  tmu := (State.credit_frame s (n + 1) points (some x)).2.2.2.2.2.1
  bdt := (State.credit_frame s (n + 1) points (some x)).2.2.2.1
  lmc := (State.credit_frame s (n + 1) points (some x)).2.2.2.2.1
  gpc := (State.credit_frame s (n + 1) points (some x)).2.2.2.2.2.2.1

/-- The points of a credit made for a context (R56). -/
def Context.worthPoints (c : Context) (tm : Template) (r : Player) (w k : Nat) : Nat :=
  min (w * k * c.multiplier * (if tm.applyPf then r.pfMult else 1)) scoreMax

theorem State.payContext_eq (hr : s.ptb.players[n]? = some r) (hcur : s.gpc.current = some (n + 1)) :
    s.payContext x c tm w k = s.credit (n + 1) (c.worthPoints tm r w k) (some x) := by
  rw [State.payContext, State.currentPlayer_eq hcur, State.pfFactor_eq hcur hr]
  rfl

/-- The credit for a hit, then the count of the hits (R56, R88, R89). -/
theorem State.payContext_hits {hits : Nat} {h : Context → Context} (hc : s.mst.slots[x] = some c)
    (hr : s.ptb.players[n]? = some r) (hcur : s.gpc.current = some (n + 1))
    (hh : ∀ total, h { c with total := total } = { c with total := total, hits := hits }) :
    (s.payContext x c tm w k).modifySlot x h = s.paid n (c.worthPoints tm r w k) x c hits := by
  have hslot := (congrArg (fun m : Mst => m.slots[x]) (State.credit_mst (points := c.worthPoints tm r w k) hc hr)).trans
    Mst.amend_slots_same
  rw [State.payContext_eq hr hcur, State.modifySlot_eq h hslot, hh]
  rfl

/-! ### One claim (R47, R88, R89) -/

theorem State.claims_eq (hc : s.mst.slots[x] = some c) (htm : s.mst.templates[c.template] = some tm) :
    s.claims x g = tm.claims.getLsbD g.val := by
  simp only [State.claims, State.slotTemplate?_present hc htm]

theorem State.claimHit_exclusive (hc : s.mst.slots[x] = some c) (htm : s.mst.templates[c.template] = some tm)
    (hk : tm.kind = .exclusive f) : s.claimHit x k = (s.claimShot x c tm f k, true) := by
  have hslot : s.slot? x = some c := hc
  simp only [State.claimHit, hslot, State.slotTemplate?_present hc htm, hk]

theorem State.claimHit_additive (hc : s.mst.slots[x] = some c) (htm : s.mst.templates[c.template] = some tm)
    (hk : tm.kind = .additive f) : s.claimHit x k = (s.claimShot x c tm f k, false) := by
  have hslot : s.slot? x = some c := hc
  simp only [State.claimHit, hslot, State.slotTemplate?_present hc htm, hk]

theorem State.claimHit_hurry {h : HurryFields} (hc : s.mst.slots[x] = some c)
    (htm : s.mst.templates[c.template] = some tm) (hk : tm.kind = .hurry h) :
    s.claimHit x k = (s.collect x c tm k, true) := by
  have hslot : s.slot? x = some c := hc
  simp only [State.claimHit, hslot, State.slotTemplate?_present hc htm, hk]

/-- A hit that does not complete the context: paid, counted, a RETRIGGER timer restarted. -/
theorem State.claimShot_counts (hc : s.mst.slots[x] = some c) (hr : s.ptb.players[n]? = some r)
    (hcur : s.gpc.current = some (n + 1)) (hf : f.targetHits = 0 ∨ min (c.hits + k) 255 < f.targetHits) :
    s.claimShot x c tm f k = if f.retrigger
      then (s.paid n (c.worthPoints tm r c.value k) x c (min (c.hits + k) 255)).modifyHeld c.timer Timer.load
      else s.paid n (c.worthPoints tm r c.value k) x c (min (c.hits + k) 255) := by
  have hnot : ¬ (0 < f.targetHits ∧ f.targetHits ≤ min (c.hits + k) 255) := by omega
  have hpay := State.payContext_hits (tm := tm) (w := c.value) (k := k) (hits := min (c.hits + k) 255)
    (h := fun d => { d with hits := min (c.hits + k) 255 }) hc hr hcur fun _ => rfl
  simp only [State.claimShot, hpay, if_neg hnot]

/-- The collect of a HURRY context: its value once, the end, the next template. -/
theorem State.collect_eq (hc : s.mst.slots[x] = some c) (hr : s.ptb.players[n]? = some r)
    (hcur : s.gpc.current = some (n + 1)) : s.collect x c tm k =
      ((s.paid n (c.worthPoints tm r c.value 1) x c (min (c.hits + k) 255)).endContext x .completed true).startNext
        tm.nextOnCompletion := by
  have hpay := State.payContext_hits (tm := tm) (w := c.value) (k := 1) (hits := min (c.hits + k) 255)
    (h := fun d => { d with hits := min (d.hits + k) 255 }) hc hr hcur fun _ => rfl
  simp only [State.collect, hpay]

/-! ### A hit that the first claim stops (R47) -/

/-- The first claim of the stack takes the hit. -/
theorem State.scoreHit_first {above below : List (Fin 12)} {l : List Award} (h : ∀ y ∈ above, s.claims y g = false)
    (hx : s.isRunning x = true) (hc : s.claims x g = true) : s.scoreHit g k l (above ++ x :: below) =
      if (s.claimHit x k).2 then (s.claimHit x k).1
      else if ((s.claimHit x k).1.walk g k (((above ++ x :: below).filter s.isRunning).filter
          (s.claimHit x k).1.isRunning) below).2
        then ((s.claimHit x k).1.walk g k (((above ++ x :: below).filter s.isRunning).filter
          (s.claimHit x k).1.isRunning) below).1
        else ((s.claimHit x k).1.walk g k (((above ++ x :: below).filter s.isRunning).filter
          (s.claimHit x k).1.isRunning) below).1.baseAwards k l := by
  have hmem : x ∈ (above ++ x :: below).filter s.isRunning := List.mem_filter.mpr ⟨by simp, hx⟩
  simp only [State.scoreHit]
  rw [State.walk_unclaimed h, State.walk_claimed hmem hc]
  split <;> simp only [if_true]

/-- A claim that stops the walk is all there is of the hit. -/
theorem State.scoreHit_stopped {above below : List (Fin 12)} {l : List Award} (h : ∀ y ∈ above, s.claims y g = false)
    (hx : s.isRunning x = true) (hc : s.claims x g = true) (hhit : s.claimHit x k = (t, true)) :
    s.scoreHit g k l (above ++ x :: below) = t := by
  rw [State.scoreHit_first h hx hc, hhit]
  rfl

/-- AWARD_EVALUATION of a hit that the first claim stops. -/
theorem exec_awardEvaluation_stopped {sw : Fin 128} {rest : List Entry} {e : Edge} {l : List Award}
    {above below : List (Fin 12)} (hq : s.swi.queue = ⟨sw, .scoring, k⟩ :: rest) (hl : s.lineState ≠ .held)
    (hgame : s.gpc.game = .inPlay) (htilt : s.gpc.tilted = false) (hrule : s.evl.rules[sw] = .scoring e g l)
    (hstack : s.mst.stack = above ++ x :: below) (habove : ∀ y ∈ above, s.claims y g = false)
    (hc : s.mst.slots[x] = some c) (hp : c.phase = .running) (htm : s.mst.templates[c.template] = some tm)
    (hclaim : tm.claims.getLsbD g.val = true) (hhit : (s.afterTake rest).claimHit x k = (t, true)) :
    exec .awardEvaluation s = .next t := by
  rw [exec_awardEvaluation_hit hq hl hgame htilt hrule, hstack]
  exact congrArg Host.Outcome.next (State.scoreHit_stopped (s := s.afterTake rest) habove
    (State.isRunning_iff.mpr ⟨c, hc, hp⟩) ((State.claims_eq (s := s.afterTake rest) hc htm).trans hclaim) hhit)

end

end Sys2Proof.Machine
end

section
/-! PROOFS. The claims that stop the walk: an EXCLUSIVE context that goes on, a HURRY collected: O25, O26. -/

namespace Sys2Proof.Machine

section
variable {s t u : State} {n points hits k : Nat} {x y : Fin 12} {c d : Context} {tm : Template} {r : Player} {f : ShotFields}

theorem State.Pays.slot (h : s.Pays t n points x c hits r) : t.mst.slots[x] = some (c.paid hits points) := by
  rw [h.mst]
  exact Mst.amend_slots_same

theorem State.Pays.others (h : s.Pays t n points x c hits r) (hy : y ≠ x) : t.mst.slots[y] = s.mst.slots[y] := by
  rw [h.mst]
  exact Mst.amend_slots_other hy

theorem State.Pays.modifyHeld {o : Option (Fin 16)} {g : Timer → Timer} (h : s.Pays t n points x c hits r) :
    (t.modifyHeld o g).mst = t.mst ∧ (t.modifyHeld o g).ptb = t.ptb ∧ (t.modifyHeld o g).bdt = s.bdt ∧
      (t.modifyHeld o g).lmc = s.lmc ∧ (t.modifyHeld o g).gpc = s.gpc ∧ ∀ u : Fin 16,
        (t.modifyHeld o g).tmu.timers[u] = if o = some u then (s.tmu.timers[u]).map g else s.tmu.timers[u] :=
  ⟨by simp, by simp, (by simp : _ = t.bdt).trans h.bdt, (by simp : _ = t.lmc).trans h.lmc,
    (by simp : _ = t.gpc).trans h.gpc, fun u => by rw [State.modifyHeld_timers, h.tmu]⟩

end

/-- Settles O25: the hit is the claim of that context alone. -/
theorem exclusiveClaimPaysAndStops : Obligations.ExclusiveClaimPaysAndStops := by
  intro s sw k rest e g l above below x c tm f n r hq hl hgame htilt hrule hstack habove hc hp htm hkind hclaim hf hcur hr
  have hhit := State.claimHit_exclusive (s := s.afterTake rest) (k := k) hc htm hkind
  rw [State.claimShot_counts (s := s.afterTake rest) hc hr hcur hf] at hhit
  have hexec := exec_awardEvaluation_stopped hq hl hgame htilt hrule hstack habove hc hp htm hclaim hhit
  have hpays := State.paid_pays (s := s.afterTake rest) (points := c.worthPoints tm r c.value k)
    (hits := min (c.hits + k) 255) hc hr
  obtain ⟨r', hr', hfields⟩ := hpays.player
  generalize (s.afterTake rest).paid n (c.worthPoints tm r c.value k) x c (min (c.hits + k) 255) = t at hexec hpays hr'
  have hrecords : r'.bonus = r.bonus ∧ r'.bonusMult = r.bonusMult ∧ r'.counters = r.counters ∧
      r'.locksLit = r.locksLit := by rw [hfields]; exact ⟨rfl, rfl, rfl, rfl⟩
  have hpaid : ∀ points, points = min (c.value * k * c.multiplier * (if tm.applyPf then r.pfMult else 1)) 999999999999 →
      r'.score = min (r.score + points) 999999999999 ∧ c.paid (min (c.hits + k) 255) (c.worthPoints tm r c.value k) =
        { c with hits := min (c.hits + k) 255, total := min (c.total + points) 999999999999 } := by
    rintro points rfl
    exact ⟨by rw [hfields]; rfl, rfl⟩
  obtain ⟨hbonus, hmult, hcounters, hlit⟩ := hrecords
  cases hre : f.retrigger with
  | false =>
    rw [hre] at hexec
    refine ⟨t, _, r', hexec, hpays.slot, hr', hpaid, hbonus, hmult, hcounters, hlit, hpays.common, ?_, ?_,
      fun y hy => hpays.others hy, hpays.bdt, hpays.lmc, hpays.gpc, fun u _ => ?_, nofun⟩
    · rw [hpays.mst]; rfl
    · rw [hpays.mst]; rfl
    · rw [hpays.tmu]; rfl
  | true =>
    rw [hre] at hexec
    obtain ⟨hmst, hptb, hbdt, hlmc, hgpc, htimers⟩ := hpays.modifyHeld (o := c.timer) (g := Timer.load)
    refine ⟨_, _, r', hexec, (congrArg (fun m : Mst => m.slots[x]) hmst).trans hpays.slot,
      (congrArg (fun p : Ptb => p.players[n]?) hptb).trans hr', hpaid, hbonus, hmult, hcounters, hlit,
      (congrArg Ptb.commonValues hptb).trans hpays.common, ?_, ?_,
      fun y hy => (congrArg (fun m : Mst => m.slots[y]) hmst).trans (hpays.others hy), hbdt, hlmc, hgpc,
      fun u hu => ?_, fun u q hu _ hq => ?_⟩
    · rw [if_pos rfl, hmst, hpays.mst]; rfl
    · rw [if_pos rfl, hmst, hpays.mst]; rfl
    · exact (htimers u).trans (if_neg (hu.resolve_right nofun))
    · refine (htimers u).trans ((if_pos hu).trans ?_)
      exact (congrArg (Option.map Timer.load) hq).trans rfl

/-! ### An end that returns nothing, for want of a group (R91) -/

section
variable {s : State} {x : Fin 12} {c : Context} {tm : Template}

theorem State.endContext_ungrouped {why : EndReason} {b : Bool} (hc : s.mst.slots[x] = some c)
    (hs : c.phase.stands = true) (hg : s.slotGroup x = 0) :
    s.endContext x why b = ((s.releaseHeld c.timer).leaveLists x).enterEnded x why (s.remainingOf c) := by
  rw [State.endContext_standing hc hs, State.returnPaused, if_pos hg, ite_self]

/-- The table after the end of a context of no group. -/
theorem State.endContext_ungrouped_mst {why : EndReason} {b : Bool} (hc : s.mst.slots[x] = some c)
    (hs : c.phase.stands = true) (hg : s.slotGroup x = 0) : (s.endContext x why b).mst = { s.mst with
      slots := s.mst.slots.set x.val (some (c.endedWith why (s.remainingOf c))) x.isLt, stack := s.mst.stack.erase x,
      pauseOrder := s.mst.pauseOrder.erase x, ended := s.mst.ended ++ [x] } := by
  have hleft : ((s.releaseHeld c.timer).leaveLists x).slot? x = some c := by
    rw [State.slot?, State.released_mst]
    exact hc
  rw [State.endContext_ungrouped hc hs hg, State.enterEnded_mst, hleft, State.released_mst]
  rfl

theorem State.endContext_ungrouped_timers {why : EndReason} {b : Bool} (hc : s.mst.slots[x] = some c)
    (hs : c.phase.stands = true) (hg : s.slotGroup x = 0) (u : Fin 16) :
    (s.endContext x why b).tmu.timers[u] = if c.timer = some u then none else s.tmu.timers[u] := by
  rw [State.endContext_ungrouped hc hs hg]
  exact State.releaseHeld_timers s u c.timer

end

/-- Settles O26: the collect is the hit; with no group and no next template it is the payment and the end. -/
theorem hurryCollectPaysOnceAndEnds : Obligations.HurryCollectPaysOnceAndEnds := by
  intro s sw k rest e g l above below x c tm f n r hq hl hgame htilt hrule hstack hnodup habove hc hp htm hkind hclaim hcur hr
  have hhit := State.claimHit_hurry (s := s.afterTake rest) (k := k) hc htm hkind
  rw [State.collect_eq (s := s.afterTake rest) hc hr hcur] at hhit
  have hexec := exec_awardEvaluation_stopped hq hl hgame htilt hrule hstack habove hc hp htm hclaim hhit
  have hpoints : c.worthPoints tm r c.value 1 =
      min (c.value * c.multiplier * (if tm.applyPf then r.pfMult else 1)) 999999999999 := by
    rw [Context.worthPoints, Nat.mul_one]
    rfl
  refine ⟨fun points h => ?_, fun hgroup hnext => ?_⟩
  · rw [hexec, hpoints, h]
    rfl
  · have hpays := State.paid_pays (s := s.afterTake rest) (points := c.worthPoints tm r c.value 1)
      (hits := min (c.hits + k) 255) hc hr
    obtain ⟨r', hr', hfields⟩ := hpays.player
    generalize (s.afterTake rest).paid n (c.worthPoints tm r c.value 1) x c (min (c.hits + k) 255) = t at hexec hpays hr'
    have hslot := hpays.slot
    have hs : (c.paid (min (c.hits + k) 255) (c.worthPoints tm r c.value 1)).phase.stands = true :=
      (congrArg Phase.stands hp).trans rfl
    have htemplate : t.mst.templates[(c.paid (min (c.hits + k) 255) (c.worthPoints tm r c.value 1)).template] = some tm := by
      rw [hpays.mst]
      exact htm
    have hg : t.slotGroup x = 0 := (Mst.group_eq hslot htemplate).trans hgroup
    have hmst := State.endContext_ungrouped_mst (why := .completed) (b := true) hslot hs hg
    rw [hnext] at hexec
    refine ⟨_, (c.paid (min (c.hits + k) 255) (c.worthPoints tm r c.value 1)).endedWith .completed
      (t.remainingOf (c.paid (min (c.hits + k) 255) (c.worthPoints tm r c.value 1))), r', hexec, ?_, ?_, fun points h => ⟨?_, ?_⟩, rfl, rfl, rfl, rfl, fun u hu => ⟨?_, ?_⟩, ?_, ?_,
      State.endContext_notice hslot hs, ?_, ?_, ?_, fun y hy => ?_, ?_, ?_⟩
    · rw [State.startNext, hmst]
      exact Vector.getElem_set_self x.isLt
    · simp only [State.startNext, State.endContext_frame]
      exact hr'
    · rw [hfields, hpoints, h]
      rfl
    · rw [h, ← hpoints]
      rfl
    · exact (State.endContext_ungrouped_timers hslot hs hg u).trans (if_pos hu)
    · refine (State.remainingOf_timed (by rw [show _ = c.phase from rfl, hp]; rfl) hu).trans ?_
      rw [hpays.tmu]
      rfl
    · rw [State.startNext, hmst, hpays.mst]
      refine (congrArg (fun m : List (Fin 12) => m.erase x) hstack).trans ?_
      have hx : x ∉ above := fun h => (List.nodup_append.mp (hstack ▸ hnodup)).2.2 x h x (by simp) rfl
      rw [List.erase_append_right _ hx, List.erase_cons_head]
    · rw [State.startNext, hmst, hpays.mst]
      rfl
    · rw [hfields]
    · rw [hfields]
    · simp only [State.startNext, State.endContext_frame]
      exact hpays.common
    · rw [State.startNext, hmst]
      exact (Vector.getElem_set_ne x.isLt y.isLt fun e => hy (Fin.ext e.symm)).trans (hpays.others hy)
    · simp only [State.startNext, State.endContext_frame]
      exact hpays.bdt
    · simp only [State.startNext, State.endContext_frame]
      exact hpays.gpc

end Sys2Proof.Machine
end

section
/-! PROOFS. Claims that let the walk go on, and completions: O60. The template of a slot in use stands (R81, R90). -/

namespace Sys2Proof.Machine

/-! ### The template of a slot in use -/

/-- The template of slot y is in t the one it is in s. -/
structure State.KeepsKind (y : Fin 12) (s t : State) : Prop where
  templates : t.mst.templates = s.mst.templates
  slot : (t.mst.slots[y]).map Context.template = (s.mst.slots[y]).map Context.template

section
variable {s t u : State} {x y : Fin 12} {c d : Context} {tm : Template} {v : Option (Fin 16)} {i : Fin 32}

theorem State.KeepsKind.refl (s : State) : s.KeepsKind y s := ⟨rfl, rfl⟩

theorem State.KeepsKind.trans (h : State.KeepsKind y s t) (h' : State.KeepsKind y t u) : State.KeepsKind y s u :=
  ⟨h'.templates.trans h.templates, h'.slot.trans h.slot⟩

theorem State.KeepsKind.of_mst (h : t.mst = s.mst) : State.KeepsKind y s t := ⟨by rw [h], by rw [h]⟩

theorem State.KeepsKind.template? (h : State.KeepsKind y s t) : t.mst.template? y = s.mst.template? y := by
  have hbind (m : Mst) : m.template? y = ((m.slots[y]).map Context.template).bind fun i => m.templates[i] := by
    rw [Option.bind_map]
    rfl
  rw [hbind, hbind, h.slot, h.templates]

theorem State.KeepsKind.claims (h : State.KeepsKind y s t) (g : Fin 16) : t.claims y g = s.claims y g := by
  rw [State.claims, State.claims, State.slotTemplate?_eq, State.slotTemplate?_eq, h.template?]

theorem State.KeepsKind.used (h : State.KeepsKind y s t) (hy : s.mst.slots[y] ≠ none) : t.mst.slots[y] ≠ none := by
  intro hn
  have hslot := h.slot
  rw [hn] at hslot
  exact hy (Option.map_eq_none_iff.mp hslot.symm)

/-- A record changed in its place, its template kept. -/
theorem State.KeepsKind.modifySlot {f : Context → Context} (s : State) (x : Fin 12)
    (hf : ∀ c, (f c).template = c.template) : State.KeepsKind y s (s.modifySlot x f) := by
  refine ⟨rfl, ?_⟩
  by_cases hyx : y = x
  · subst hyx
    refine (congrArg (Option.map Context.template) (Vector.getElem_set_self y.isLt)).trans ?_
    rw [Option.map_map, show Context.template ∘ f = Context.template from funext hf]
    rfl
  · exact congrArg (Option.map Context.template) (Vector.getElem_set_ne x.isLt y.isLt fun e => hyx (Fin.ext e.symm))

theorem State.KeepsKind.enterRunning (s : State) (x : Fin 12) : State.KeepsKind y s (s.enterRunning x) := by
  have hmove : State.KeepsKind y s { s.leaveLists x with mst := { (s.leaveLists x).mst with
      stack := insertByPriority (s.leaveLists x).slotPriority x ((s.leaveLists x).slotPriority x)
        (s.leaveLists x).mst.stack } } := ⟨rfl, rfl⟩
  exact (hmove.trans (.modifySlot _ x (f := fun c => { c with phase := .running }) fun _ => rfl)).trans
    (.of_mst (State.modifyHeld_mst ..))

theorem State.KeepsKind.enterPaused (s : State) (x : Fin 12) : State.KeepsKind y s (s.enterPaused x) := by
  have hmove : State.KeepsKind y s { s.leaveLists x with mst := { (s.leaveLists x).mst with
      pauseOrder := (s.leaveLists x).mst.pauseOrder ++ [x] } } := ⟨rfl, rfl⟩
  exact (hmove.trans (.modifySlot _ x (f := fun c => { c with phase := .paused }) fun _ => rfl)).trans
    (.of_mst (State.modifyHeld_mst ..))

theorem State.KeepsKind.takeTimer (s : State) (x : Fin 12) (tm : Template) (v : Option (Fin 16)) (n : Nat) :
    State.KeepsKind y s (s.takeTimer x tm v n) := by
  cases v with
  | none => exact .refl s
  | some w =>
    have hset : State.KeepsKind y s (s.setTimer w (some (tm.timer x (tm.period?.getD 0) n))) := .of_mst rfl
    exact hset.trans (.modifySlot _ x (f := fun c => { c with timer := some w }) fun _ => rfl)

theorem State.KeepsKind.returnPaused (s : State) (p : Nat) (g : Fin 8) : State.KeepsKind y s (s.returnPaused p g) := by
  unfold State.returnPaused
  split
  · exact .refl s
  · split
    · exact .enterRunning ..
    · exact .refl s

theorem State.KeepsKind.enterEnded (s : State) (x : Fin 12) (why : EndReason) (n : Nat) :
    State.KeepsKind y s (s.enterEnded x why n) :=
  (State.KeepsKind.modifySlot s x (f := fun c => { c with phase := .ended why, timer := none, stored := n })
    fun _ => rfl).trans ⟨rfl, rfl⟩

theorem State.KeepsKind.endContext (s : State) (x : Fin 12) (why : EndReason) (b : Bool) :
    State.KeepsKind y s (s.endContext x why b) := by
  unfold State.endContext
  split
  · exact .refl s
  · next c _ =>
    dsimp only
    split
    · have hleft : State.KeepsKind y s ((s.releaseHeld c.timer).leaveLists x) :=
        ⟨by rw [State.released_mst], by rw [State.released_mst]⟩
      split
      · exact (hleft.trans (.returnPaused ..)).trans (.enterEnded ..)
      · exact hleft.trans (.enterEnded ..)
    · exact .refl s

theorem State.KeepsKind.setUp (hx : y ≠ x) : State.KeepsKind y s (s.setUp x v i tm) :=
  ⟨by rw [State.setUp_put]; rfl,
    by rw [State.setUp_put]; exact congrArg (Option.map Context.template) (Mst.put_slots_other hx)⟩

/-- A start takes a slot that is FREE or stands in the ended list: a slot in use keeps its template. -/
theorem State.KeepsKind.startNew (hy : s.mst.slots[y] ≠ none) (hended : y ∉ s.mst.ended) :
    State.KeepsKind y s (s.startNew i tm).1 := by
  unfold State.startNew
  split
  · exact .refl s
  · next x hx =>
    have hyx : y ≠ x := by
      rintro rfl
      exact (State.chooseSlot?_some hx).elim hy hended
    split
    · exact .refl s
    · split
      · exact .setUp hyx
      · split
        · exact .refl s
        · exact (State.KeepsKind.enterPaused ..).trans (.setUp hyx)

theorem State.KeepsKind.resumeByStart : State.KeepsKind y s (s.resumeByStart x c tm).1 := by
  unfold State.resumeByStart
  split
  · exact .endContext ..
  · dsimp only
    have htake (v : Option (Fin 16)) := State.KeepsKind.takeTimer (y := y) s x tm v c.stored
    split
    · exact ((htake _).trans (.enterRunning _ x)).trans (.of_mst rfl)
    · split
      · exact ((htake _).trans (.enterPaused _ x)).trans (.of_mst rfl)
      · exact (((htake _).trans (.enterPaused ..)).trans (.enterRunning _ x)).trans (.of_mst rfl)

theorem State.KeepsKind.startStanding : State.KeepsKind y s (s.startStanding x c tm).1 := by
  unfold State.startStanding
  split
  · exact .resumeByStart
  · split
    · exact .of_mst (State.modifyHeld_mst ..)
    · exact .refl s

theorem State.KeepsKind.startMode (hy : s.mst.slots[y] ≠ none) (hended : y ∉ s.mst.ended) :
    State.KeepsKind y s (s.startMode i).1 := by
  unfold State.startMode
  split
  · exact .refl s
  · split
    · exact .refl s
    · split
      · exact .refl s
      · split
        · exact .refl s
        · split
          · split
            · exact .startStanding
            · exact .refl s
          · exact .startNew hy hended

theorem State.KeepsKind.startNext {o : Option (Fin 32)} (hy : s.mst.slots[y] ≠ none) (hended : y ∉ s.mst.ended) :
    State.KeepsKind y s (s.startNext o) := by
  cases o with
  | none => exact .refl s
  | some i =>
    have hstart := State.KeepsKind.startMode (i := i) hy hended
    rw [State.startNext, State.autoStart]
    split
    · next heq =>
      rw [heq] at hstart
      exact hstart.trans (.of_mst rfl)
    · next heq =>
      rw [heq] at hstart
      exact hstart

theorem State.returnPaused_ended (s : State) (p : Nat) (g : Fin 8) : (s.returnPaused p g).mst.ended = s.mst.ended := by
  unfold State.returnPaused
  split
  · rfl
  · split
    · rw [State.enterRunning_mst]
    · rfl

theorem State.endContext_ended {why : EndReason} {b : Bool} (hc : s.mst.slots[x] = some c) (hs : c.phase.stands = true) :
    (s.endContext x why b).mst.ended = s.mst.ended ++ [x] := by
  rw [State.endContext_standing hc hs, State.enterEnded_mst]
  refine congrArg (· ++ [x]) ?_
  split
  · rw [State.returnPaused_ended, State.released_mst]
  · rw [State.released_mst]

/-- The end of a context and the start of its next template leave the templates of the other slots in use. -/
theorem State.KeepsKind.endAndStart {why : EndReason} {b : Bool} {o : Option (Fin 32)} (hc : s.mst.slots[x] = some c)
    (hs : c.phase.stands = true) (hyx : y ≠ x) (hy : s.mst.slots[y] ≠ none) (hended : y ∉ s.mst.ended) :
    State.KeepsKind y s ((s.endContext x why b).startNext o) := by
  have hend := State.KeepsKind.endContext (y := y) s x why b
  refine hend.trans (.startNext (hend.used hy) fun h => ?_)
  rw [State.endContext_ended hc hs] at h
  exact (List.mem_append.mp h).elim hended fun h => hyx (List.mem_singleton.mp h)

end

end Sys2Proof.Machine
end

section
/-! PROOFS. A claim that lets the walk go on, a claim that completes its context (R47, R88, R90): O60. -/

namespace Sys2Proof.Machine

section
variable {s t w : State} {n k hits points : Nat} {x y : Fin 12} {c d : Context} {tm tn : Template} {r : Player}
  {f h : ShotFields} {g : Fin 16} {l : List Award} {above below mid tail : List (Fin 12)}

/-! ### The completion (R90) -/

/-- A hit that reaches the target: the completion value, the end, the next template. -/
theorem State.claimShot_completes (hc : s.mst.slots[x] = some c) (hr : s.ptb.players[n]? = some r)
    (hcur : s.gpc.current = some (n + 1)) (hf : 0 < f.targetHits) (hreach : f.targetHits ≤ min (c.hits + k) 255) :
    s.claimShot x c tm f k = (((s.paid n (c.worthPoints tm r c.value k) x c (min (c.hits + k) 255)).credit (n + 1)
      (c.worthPoints tm r f.completionValue.worth 1) (some x)).endContext x .completed true).startNext
        tm.nextOnCompletion := by
  have hpay := State.payContext_hits (tm := tm) (w := c.value) (k := k) (hits := min (c.hits + k) 255)
    (h := fun d => { d with hits := min (c.hits + k) 255 }) hc hr hcur fun _ => rfl
  have hpays := State.paid_pays (points := c.worthPoints tm r c.value k) (hits := min (c.hits + k) 255) hc hr
  obtain ⟨r', hr', hfields⟩ := hpays.player
  have hfactor : c.worthPoints tm r' f.completionValue.worth 1 = c.worthPoints tm r f.completionValue.worth 1 := by
    rw [hfields]
    rfl
  have hbonus := State.payContext_eq (x := x) (c := c) (tm := tm) (w := f.completionValue.worth) (k := 1) hr'
    (hpays.gpc ▸ hcur)
  simp only [State.claimShot, hpay, if_pos (And.intro hf hreach), State.complete, hbonus, hfactor]

/-! ### The walk below a claim that lets it go on (R47) -/

/-- State t holds the contexts of s but for slot x, and the player with his playfield multiplier. -/
structure State.WalksOn (s t : State) (n : Nat) (x : Fin 12) (r r' : Player) : Prop where
  slots : ∀ y : Fin 12, y ≠ x → t.mst.slots[y] = s.mst.slots[y]
  templates : t.mst.templates = s.mst.templates
  player : t.ptb.players[n]? = some r'
  pfMult : r'.pfMult = r.pfMult
  gpc : t.gpc = s.gpc

theorem State.WalksOn.claims {r' : Player} (hw : s.WalksOn t n x r r') (hyx : y ≠ x) : t.claims y g = s.claims y g :=
  State.KeepsKind.claims ⟨hw.templates, by rw [hw.slots y hyx]⟩ g

theorem State.Pays.walksOn {o : Option (Fin 16)} {e : Timer → Timer} (hp : s.Pays t n points x c hits r) :
    ∃ r', s.WalksOn (t.modifyHeld o e) n x r r' := by
  obtain ⟨r', hr', hfields⟩ := hp.player
  obtain ⟨hmst, hptb, -, -, hgpc, -⟩ := hp.modifyHeld (o := o) (g := e)
  refine ⟨r', fun y hy => ?_, ?_, ?_, ?_, hgpc⟩
  · rw [hmst]
    exact hp.others hy
  · rw [hmst, hp.mst]
    rfl
  · rw [hptb]
    exact hr'
  · rw [hfields]

/-- With no claim below, the base awards are paid after it. -/
theorem State.scoreHit_goesOn (habove : ∀ y ∈ above, s.claims y g = false) (hx : s.isRunning x = true)
    (hc : s.claims x g = true) (hhit : s.claimHit x k = (t, false)) (hbelow : ∀ y ∈ below, t.claims y g = false) :
    s.scoreHit g k l (above ++ x :: below) = t.baseAwards k l := by
  rw [State.scoreHit_first habove hx hc, hhit]
  simp only [Bool.false_eq_true, if_false, State.walk_none hbelow]

/-- A claim below that stops the walk takes the hit in its turn. -/
theorem State.scoreHit_second (habove : ∀ y ∈ above, s.claims y g = false) (hx : s.isRunning x = true)
    (hc : s.claims x g = true) (hhit : s.claimHit x k = (t, false)) (hmid : ∀ z ∈ mid, t.claims z g = false)
    (hy : s.isRunning y = true) (hyt : t.isRunning y = true) (hcy : t.claims y g = true)
    (hstop : t.claimHit y k = (w, true)) : s.scoreHit g k l (above ++ x :: (mid ++ y :: tail)) = w := by
  rw [State.scoreHit_first habove hx hc, hhit]
  have hmem : y ∈ ((above ++ x :: (mid ++ y :: tail)).filter s.isRunning).filter t.isRunning :=
    List.mem_filter.mpr ⟨List.mem_filter.mpr ⟨by simp, hy⟩, hyt⟩
  simp only [Bool.false_eq_true, if_false, State.walk_unclaimed hmid, State.walk_claimed hmem hcy, hstop, if_true]

/-- The EXCLUSIVE claim below an ADDITIVE one, which does not complete its context. -/
theorem State.WalksOn.claimHit {r' : Player} (hw : s.WalksOn t n x r r') (hyx : y ≠ x) (hd : s.mst.slots[y] = some d)
    (htn : s.mst.templates[d.template] = some tn) (hk : tn.kind = .exclusive h) (hcur : s.gpc.current = some (n + 1))
    (hh : h.targetHits = 0 ∨ min (d.hits + k) 255 < h.targetHits) (hre : h.retrigger = false) :
    t.claimHit y k = (t.paid n (d.worthPoints tn r d.value k) y d (min (d.hits + k) 255), true) := by
  have hd' : t.mst.slots[y] = some d := (hw.slots y hyx).trans hd
  have htn' : t.mst.templates[d.template] = some tn := by
    rw [hw.templates]
    exact htn
  have hpoints : d.worthPoints tn r' d.value k = d.worthPoints tn r d.value k := by
    rw [Context.worthPoints, hw.pfMult]
    rfl
  rw [State.claimHit_exclusive hd' htn' hk, State.claimShot_counts hd' hw.player (hw.gpc ▸ hcur) hh, hre, hpoints]
  rfl

/-- The restart of the timer a RETRIGGER context holds. -/
theorem State.restarted_eq {q : Timer} {v : Fin 16} (hq : s.tmu.timers[v] = some q) :
    s.modifyHeld (some v) Timer.load = s.withTimer v (some q.load) := by
  rw [State.modifyHeld, State.modifyTimer, hq]
  rfl

theorem ListLaw.of_stack (hl : ListLaw s) (hy : y ∈ s.mst.stack) : s.mst.slots[y] ≠ none ∧ y ∉ s.mst.ended := by
  obtain ⟨-, -, -, hstack, -⟩ := id hl
  obtain ⟨d, hd, hdr⟩ := State.phase?_iff.mp ((hstack y).mp hy)
  obtain ⟨hended, -⟩ := hl.member hd (hdr ▸ rfl)
  exact ⟨by rw [hd]; nofun, hended⟩

/-- The completion after a payment leaves the templates of the other slots in use. -/
theorem State.Pays.completes_keeps {points' : Nat} {o : Option (Fin 32)} (hp : s.Pays t n points x c hits r)
    (hs : c.phase.stands = true) (hyx : y ≠ x) (hy : s.mst.slots[y] ≠ none) (hended : y ∉ s.mst.ended) :
    State.KeepsKind y s (((t.credit (n + 1) points' (some x)).endContext x .completed true).startNext o) := by
  obtain ⟨r', hr', -⟩ := hp.player
  have hcredit := State.credit_mst (points := points') hp.slot hr'
  have hpaid : State.KeepsKind y s t := ⟨by rw [hp.mst]; rfl, by rw [hp.others hyx]⟩
  have hkind : State.KeepsKind y s (t.credit (n + 1) points' (some x)) :=
    hpaid.trans ⟨by rw [hcredit]; rfl, by rw [hcredit, Mst.amend_slots_other hyx]⟩
  have hslot := (congrArg (fun m : Mst => m.slots[x]) hcredit).trans Mst.amend_slots_same
  refine hkind.trans (.endAndStart hslot hs hyx (hkind.used hy) ?_)
  rw [hcredit, hp.mst]
  exact hended

end

/-- Settles O60: one claim with the walk below it; the templates of the contexts below stand through a completion. -/
theorem additiveClaimsGoOnAndCompletionsEnd : Obligations.AdditiveClaimsGoOnAndCompletionsEnd := by
  intro s u sw k pf points rest e g l above below x c c' tm f n r hq hl hgame htilt hrule hstack hnodup habove hc hp htm
    hkind hclaim hcur hr hpf hpoints hc' hu
  obtain rfl : points = c.worthPoints tm r c.value k := hpoints.trans (by rw [hpf]; rfl)
  obtain rfl : c' = c.paid (min (c.hits + k) 255) (c.worthPoints tm r c.value k) := hc'
  replace hu : u = (s.afterTake rest).paid n (c.worthPoints tm r c.value k) x c (min (c.hits + k) 255) := hu
  have hpays : (s.afterTake rest).Pays u n (c.worthPoints tm r c.value k) x c (min (c.hits + k) 255) r :=
    hu ▸ State.paid_pays (s := s.afterTake rest) hc hr
  have hrun : (s.afterTake rest).isRunning x = true := State.isRunning_iff.mpr ⟨c, hc, hp⟩
  have hclaims : (s.afterTake rest).claims x g = true := (State.claims_eq (s := s.afterTake rest) hc htm).trans hclaim
  have hbelow : ∀ y ∈ below, y ≠ x := fun y hy e => by
    rw [hstack] at hnodup
    exact (List.nodup_cons.mp (List.nodup_append.mp hnodup).2.1).1 (e ▸ hy)
  have hhit := exec_awardEvaluation_hit hq hl hgame htilt hrule
  rw [hstack] at hhit
  refine ⟨fun hadd hf w hw hw' => ?goesOn, fun hf hreach w hw => ⟨fun hexcl => ?stops, fun hadd hlaw hnone => ?completed⟩⟩
  case goesOn =>
    obtain rfl : w = if f.retrigger then u.modifyHeld c.timer Timer.load else u := by
      cases hre : f.retrigger with
      | false => exact hw (.inl hre)
      | true =>
        cases hv : c.timer with
        | none => exact hw (.inr hv)
        | some v =>
          obtain ⟨q, hq, rfl⟩ := hw' hre v hv
          refine (State.restarted_eq ?_).symm
          rw [hpays.tmu]
          exact hq
    have hcounts := State.claimHit_additive (s := s.afterTake rest) (k := k) hc htm hadd
    rw [State.claimShot_counts (s := s.afterTake rest) hc hr hcur hf, ← hu] at hcounts
    obtain ⟨r', hwalk⟩ : ∃ r', (s.afterTake rest).WalksOn
        (if f.retrigger then u.modifyHeld c.timer Timer.load else u) n x r r' := by
      split
      · exact hpays.walksOn
      · exact hpays.walksOn (o := none) (e := id)
    refine ⟨fun hnone => ?_, fun mid tail y d tn h more hsplit hmid hd hdr htn hkindn hclaimn hh hre hmore => ?_⟩
    · rw [hhit]
      exact congrArg Host.Outcome.next (State.scoreHit_goesOn (s := s.afterTake rest) habove hrun hclaims hcounts
        fun y hy => (hwalk.claims (hbelow y hy)).trans (hnone y hy))
    · subst hsplit
      have hyx : y ≠ x := hbelow y (by simp)
      have hrunning : (s.afterTake rest).isRunning y = true := State.isRunning_iff.mpr ⟨d, hd, hdr⟩
      rw [hhit, hmore]
      refine congrArg Host.Outcome.next (State.scoreHit_second (s := s.afterTake rest) habove hrun hclaims hcounts
        (fun z hz => (hwalk.claims (hbelow z (by simp [hz]))).trans (hmid z hz)) hrunning
        (State.isRunning_iff.mpr ⟨d, (hwalk.slots y hyx).trans hd, hdr⟩) ?_
        (hwalk.claimHit hyx hd htn hkindn hcur hh hre))
      exact (hwalk.claims hyx).trans ((State.claims_eq (s := s.afterTake rest) hd htn).trans hclaimn)
  all_goals
    have hshot := State.claimShot_completes (s := s.afterTake rest) (tm := tm) hc hr hcur hf hreach
    have hbonus : min (f.completionValue.mantissa * 10 ^ f.completionValue.scale * c.multiplier * pf) 999999999999 =
        c.worthPoints tm r f.completionValue.worth 1 := by
      rw [hpf, Context.worthPoints, Nat.mul_one]
      rfl
    rw [← hu, ← hbonus, ← hw] at hshot
  case stops =>
    have hone := State.claimHit_exclusive (s := s.afterTake rest) (k := k) hc htm hexcl
    rw [hshot] at hone
    rw [hhit]
    exact congrArg Host.Outcome.next (State.scoreHit_stopped (s := s.afterTake rest) habove hrun hclaims hone)
  case completed =>
    have hone := State.claimHit_additive (s := s.afterTake rest) (k := k) hc htm hadd
    rw [hshot] at hone
    rw [hhit]
    refine congrArg Host.Outcome.next (State.scoreHit_goesOn (s := s.afterTake rest) habove hrun hclaims hone
      fun y hy => ?_)
    obtain ⟨hused, hended⟩ := hlaw.of_stack (hstack ▸ (List.mem_append_right above (List.mem_cons_of_mem x hy)))
    have hkeeps := hpays.completes_keeps (points' := c.worthPoints tm r f.completionValue.worth 1)
      (o := tm.nextOnCompletion) (by rw [hp]; rfl) (hbelow y hy) hused hended
    rw [← hbonus, ← hw] at hkeeps
    exact (hkeeps.claims g).trans (hnone y hy)

end Sys2Proof.Machine
end

section
/-! PROOFS. The returns at the end of multiball (R91, R96): which contexts return, and what they leave. -/

namespace Sys2Proof.Machine

/-! ### The context that returns, by what it is -/

section
variable {s t u : State} {p : Nat} {g g' : Fin 8} {y z : Fin 12} {c d : Context}

/-- The fittest of a list stands before those it only equals and beats those before it. -/
theorem foldl_fitter_split {q : Fin 12 → Nat} {l : List (Fin 12)} {b : Fin 12} (h : l.foldl (fitter q) none = some b) :
    ∃ k m, l = k ++ b :: m ∧ (∀ z ∈ k, q z < q b) ∧ ∀ z ∈ m, q z ≤ q b := by
  induction l using List.reverseRecOn generalizing b with
  | nil => exact absurd h nofun
  | append_singleton l x ih =>
    rw [List.foldl_append, List.foldl_cons, List.foldl_nil] at h
    cases hl : l.foldl (fitter q) none with
    | none =>
      rw [hl] at h
      obtain rfl : x = b := Option.some.inj h
      have hnil : l = [] := by
        cases l with
        | nil => rfl
        | cons y l =>
          obtain ⟨b, hb, -⟩ := foldl_fitter_some q y l
          nomatch hl.symm.trans hb
      exact ⟨[], [], by rw [hnil], nofun, nofun⟩
    | some a =>
      rw [hl] at h
      obtain ⟨k, m, rfl, hk, hm⟩ := ih hl
      by_cases hlt : q a < q x
      · obtain rfl : x = b := (if_pos hlt).symm.trans (Option.some.inj h)
        refine ⟨k ++ a :: m, [], rfl, fun z hz => ?_, nofun⟩
        rcases List.mem_append.mp hz with hz | hz
        · exact (hk z hz).trans hlt
        · rcases List.mem_cons.mp hz with rfl | hz
          · exact hlt
          · exact (hm z hz).trans_lt hlt
      · obtain rfl : a = b := (if_neg hlt).symm.trans (Option.some.inj h)
        refine ⟨k, m ++ [x], by simp, hk, fun z hz => ?_⟩
        rcases List.mem_append.mp hz with hz | hz
        · exact hm z hz
        · exact List.mem_singleton.mp hz ▸ Nat.le_of_not_lt hlt

/-- An element of a filtered list and those behind it stand so in the list. -/
theorem filter_split {L k m : List (Fin 12)} {q : Fin 12 → Bool} (h : L.filter q = k ++ y :: m) (hz : z ∈ m) :
    ∃ a b, L = a ++ y :: b ∧ z ∈ b := by
  obtain ⟨a, b, rfl, -, hb⟩ := List.filter_eq_append_iff.mp h
  obtain ⟨e, f, rfl, -, -, hf⟩ := List.filter_eq_cons_iff.mp hb
  exact ⟨a ++ e, f, by simp, List.mem_of_mem_filter (hf ▸ hz)⟩

/-- Behind the context that returns, by priority and then by the pause order. -/
def State.outranks (s : State) (y z : Fin 12) : Prop := s.slotPriority z < s.slotPriority y ∨
  (s.slotPriority z = s.slotPriority y ∧ ∃ a b, s.mst.pauseOrder = a ++ y :: b ∧ z ∈ b)

/-- The context that returns outranks the other PAUSED ones of its owner and group. -/
theorem State.returning?_outranks (h : s.returning? p g = some y) (hz : z ∈ s.mst.pauseOrder) (hzy : z ≠ y)
    (hzb : s.belongs p g z = true) : s.outranks y z := by
  rw [State.returning?_eq] at h
  obtain ⟨k, m, hsplit, hk, hm⟩ := foldl_fitter_split h
  have hmem : z ∈ k ++ y :: m := hsplit ▸ List.mem_filter.mpr ⟨hz, hzb⟩
  rcases List.mem_append.mp hmem with hzk | hzm
  · exact .inl (hk z hzk)
  · have hzm := (List.mem_cons.mp hzm).resolve_left hzy
    rcases Nat.lt_or_eq_of_le (hm z hzm) with hlt | heq
    · exact .inl hlt
    · exact .inr ⟨heq, filter_split hsplit hzm⟩

/-- The return into another group makes no other choice. -/
theorem State.returning?_other (hnodup : s.mst.pauseOrder.Nodup) (hd : s.mst.slots[y] = some d)
    (hy : s.belongs p g y = false) : (s.enterRunning y).returning? p g = s.returning? p g := by
  have hput := State.enterRunning_put hd
  have hgroup : (s.enterRunning y).mst.group = s.mst.group := by
    rw [hput]
    exact Mst.put_group (c' := { d with phase := .running }) hd rfl
  have hprio : (s.enterRunning y).slotPriority = s.slotPriority := by
    rw [State.slotPriority_eq, State.slotPriority_eq, hput]
    exact Mst.put_priority (c' := { d with phase := .running }) hd rfl
  have hbelongs : (s.enterRunning y).belongs p g = s.belongs p g := by
    funext z
    have howner : ((s.enterRunning y).slot? z).map Context.owner = (s.slot? z).map Context.owner := by
      rw [State.slot?, State.slot?, hput]
      by_cases hzy : z = y
      · subst hzy
        rw [show ({ s.mst.put z { d with phase := .running } with ended := s.mst.ended } : Mst).slots[z] =
          some { d with phase := .running } from Mst.put_slots_same (m := s.mst), hd]
        rfl
      · exact congrArg (Option.map Context.owner) (Mst.put_slots_other (m := s.mst) hzy)
    have hany (w : State) : w.belongs p g z =
        ((w.slot? z).map Context.owner).any fun o => decide (o = p) && decide (w.slotGroup z = g) := by
      rw [State.belongs]
      cases w.slot? z <;> rfl
    rw [hany, hany, howner, State.slotGroup_eq, State.slotGroup_eq, hgroup]
  have herase : (s.enterRunning y).mst.pauseOrder = s.mst.pauseOrder.erase y := by
    rw [hput]
    exact Mst.put_pauseOrder_of_ne (m := s.mst) (c := { d with phase := .running }) nofun
  rw [State.returning?_eq, State.returning?_eq, hbelongs, hprio, herase, hnodup.erase_eq_filter, List.filter_filter]
  refine congrArg (fun l => List.foldl _ none l) (List.filter_congr fun z _ => ?_)
  by_cases hzy : z = y
  · subst hzy
    rw [hy]
    rfl
  · simp [hzy]

/-! ### The returns, one per group -/

/-- State t is s with the contexts of R returned: in RUNNING, their timers thawed, and nothing else but the lists
changed. -/
structure State.Returns (s t : State) (R : Fin 12 → Prop) : Prop where
  used : ∀ y : Fin 12, R y → s.mst.slots[y] ≠ none
  back : ∀ (y : Fin 12) (c : Context), R y → s.mst.slots[y] = some c → t.mst.slots[y] = some { c with phase := .running }
  kept : ∀ y : Fin 12, ¬ R y → t.mst.slots[y] = s.mst.slots[y]
  thawed : ∀ (y : Fin 12) (c : Context) (u : Fin 16), R y → s.mst.slots[y] = some c → c.timer = some u →
    t.tmu.timers[u] = (s.tmu.timers[u]).map Timer.thaw
  held : ∀ u : Fin 16, (∀ (y : Fin 12) (c : Context), R y → s.mst.slots[y] = some c → c.timer ≠ some u) →
    t.tmu.timers[u] = s.tmu.timers[u]
  templates : t.mst.templates = s.mst.templates
  ended : t.mst.ended = s.mst.ended
  ntu : t.ntu = s.ntu
  gpc : t.gpc = s.gpc

theorem State.Returns.refl (s : State) : s.Returns s fun _ => False :=
  ⟨fun _ h => h.elim, fun _ _ h => h.elim, fun _ _ => rfl, fun _ _ _ h => h.elim, fun _ _ => rfl, rfl, rfl, rfl, rfl⟩

theorem State.Returns.one (hc : s.mst.slots[z] = some c) : s.Returns (s.enterRunning z) (· = z) where
  used := by
    rintro y rfl
    rw [hc]
    nofun
  back := by
    rintro y d rfl hd
    obtain rfl := Option.some.inj (hc.symm.trans hd)
    exact (State.enterRunning_leaves hc).1
  kept y hy := (State.enterRunning_leaves hc).2.1 y hy
  thawed := by
    rintro y d u rfl hd hu
    obtain rfl := Option.some.inj (hc.symm.trans hd)
    rw [State.enterRunning_timers hc, if_pos hu]
  held u hu := by rw [State.enterRunning_timers hc, if_neg (hu z c rfl hc)]
  templates := by rw [State.enterRunning_put hc]; rfl
  ended := (State.enterRunning_leaves hc).2.2.1
  ntu := by simp
  gpc := by simp

/-- No two contexts of a state hold the same timer. -/
def Mst.TimersApart (m : Mst) : Prop := ∀ (y z : Fin 12) (c d : Context) (u : Fin 16), m.slots[y] = some c →
  m.slots[z] = some d → c.timer = some u → d.timer = some u → y = z

theorem State.Returns.apart {R : Fin 12 → Prop} (h : s.Returns t R) (ha : s.mst.TimersApart) : t.mst.TimersApart := by
  have hold {y : Fin 12} {c : Context} (hc : t.mst.slots[y] = some c) : ∃ d, s.mst.slots[y] = some d ∧ d.timer = c.timer := by
    by_cases hy : R y
    · obtain ⟨d, hd⟩ := Option.ne_none_iff_exists'.mp (h.used y hy)
      obtain rfl := Option.some.inj ((h.back y d hy hd).symm.trans hc)
      exact ⟨d, hd, rfl⟩
    · exact ⟨c, (h.kept y hy).symm.trans hc, rfl⟩
  intro y z c d u hc hd hcu hdu
  obtain ⟨c', hc', hct⟩ := hold hc
  obtain ⟨d', hd', hdt⟩ := hold hd
  exact ha y z c' d' u hc' hd' (hct.trans hcu) (hdt.trans hdu)

theorem State.Returns.trans {R Q : Fin 12 → Prop} (h : s.Returns t R) (h' : t.Returns u Q) (ha : s.mst.TimersApart)
    (hdisj : ∀ y, R y → ¬ Q y) : s.Returns u fun y => R y ∨ Q y := by
  have hnot {y : Fin 12} (hy : Q y) : ¬ R y := fun hR => hdisj y hR hy
  have hsame {y : Fin 12} (hy : Q y) : t.mst.slots[y] = s.mst.slots[y] := h.kept y (hnot hy)
  constructor
  case used => exact fun y hy => hy.elim (h.used y) fun hQ => hsame hQ ▸ h'.used y hQ
  case back =>
    rintro y c (hR | hQ) hc
    · exact (h'.kept y (hdisj y hR)).trans (h.back y c hR hc)
    · exact h'.back y c hQ ((hsame hQ).trans hc)
  case kept =>
    intro y hy
    obtain ⟨hR, hQ⟩ := not_or.mp hy
    exact (h'.kept y hQ).trans (h.kept y hR)
  case thawed =>
    rintro y c v (hR | hQ) hc hv
    · refine (h'.held v fun z d hz hd hdv => ?_).trans (h.thawed y c v hR hc hv)
      exact hnot hz (ha y z c d v hc ((hsame hz).symm.trans hd) hv hdv ▸ hR)
    · rw [h'.thawed y c v hQ ((hsame hQ).trans hc) hv, h.held v fun z d hz hd hdv => ?_]
      exact hnot hQ (ha y z c d v hc hd hv hdv ▸ hz)
  case held =>
    intro v hv
    rw [h'.held v fun y c hy hc => hv y c (.inr hy) ((hsame hy).symm.trans hc), h.held v fun y c hy hc => hv y c (.inl hy) hc]
  case templates => exact h'.templates.trans h.templates
  case ended => exact h'.ended.trans h.ended
  case ntu => exact h'.ntu.trans h.ntu
  case gpc => exact h'.gpc.trans h.gpc

theorem State.Returns.congr {R Q : Fin 12 → Prop} (h : s.Returns t R) (hiff : ∀ y, R y ↔ Q y) : s.Returns t Q :=
  (funext fun y => propext (hiff y) : R = Q) ▸ h

/-- One return per group of a list: in each the context that returns before any of them. -/
theorem State.returns_foldl {l : List (Fin 8)} (hnodup : s.mst.pauseOrder.Nodup)
    (hused : ∀ y ∈ s.mst.pauseOrder, s.mst.slots[y] ≠ none) (ha : s.mst.TimersApart) (hl : l.Nodup) (h0 : ∀ g ∈ l, g ≠ 0) :
    s.Returns (l.foldl (fun s g => s.returnPaused p g) s) fun y => ∃ g ∈ l, s.returning? p g = some y := by
  induction l generalizing s with
  | nil => exact (State.Returns.refl s).congr fun y => ⟨False.elim, fun ⟨g, hg, _⟩ => nomatch hg⟩
  | cons g l ih =>
    obtain ⟨hg, hl⟩ := List.nodup_cons.mp hl
    have h0' := fun g' hg' => h0 g' (List.mem_cons_of_mem _ hg')
    rw [List.foldl_cons, State.returnPaused, if_neg (h0 g (List.mem_cons_self ..))]
    cases hz : s.returning? p g with
    | none =>
      refine (ih hnodup hused ha hl h0').congr fun y => ⟨fun ⟨g', hg', hy⟩ => ⟨g', List.mem_cons_of_mem _ hg', hy⟩, ?_⟩
      rintro ⟨g', hg', hy⟩
      rcases List.mem_cons.mp hg' with rfl | hg'
      · nomatch hz.symm.trans hy
      · exact ⟨g', hg', hy⟩
    | some z =>
      obtain ⟨hzp, -, hzg⟩ := State.returning?_some hz
      obtain ⟨c, hc⟩ := Option.ne_none_iff_exists'.mp (hused z hzp)
      have hone := State.Returns.one hc
      have herase : (s.enterRunning z).mst.pauseOrder = s.mst.pauseOrder.erase z := (State.enterRunning_leaves hc).2.2.2.1
      have hsame (g' : Fin 8) (hg' : g' ∈ l) : (s.enterRunning z).returning? p g' = s.returning? p g' := by
        refine State.returning?_other hnodup hc (Bool.eq_false_iff.mpr fun hb => ?_)
        obtain ⟨-, -, -, hb⟩ := State.belongs_iff.mp hb
        exact hg (hzg.symm.trans hb ▸ hg')
      have hrest := ih (s := s.enterRunning z) (herase ▸ hnodup.erase z) (fun y hy => ?_) (hone.apart ha) hl h0'
      · refine (hone.trans hrest ha ?_).congr fun y => ⟨?_, ?_⟩
        · rintro y rfl ⟨g', hg', hy⟩
          rw [hsame g' hg'] at hy
          exact hg (hzg.symm.trans (State.returning?_some hy).2.2 ▸ hg')
        · rintro (rfl | ⟨g', hg', hy⟩)
          · exact ⟨g, List.mem_cons_self .., hz⟩
          · exact ⟨g', List.mem_cons_of_mem _ hg', (hsame g' hg').symm.trans hy⟩
        · rintro ⟨g', hg', hy⟩
          rcases List.mem_cons.mp hg' with rfl | hg'
          · exact .inl (Option.some.inj (hy.symm.trans hz))
          · exact .inr ⟨g', hg', (hsame g' hg').trans hy⟩
      · rw [herase] at hy
        have hys := hused y (List.mem_of_mem_erase hy)
        have hyz : y ≠ z := fun e => hnodup.not_mem_erase (e ▸ hy)
        exact (hone.kept y hyz).symm ▸ hys

end

end Sys2Proof.Machine
end

section
/-! PROOFS. The end of multiball: its mb_only contexts end together, then one PAUSED context of each group left without a
RUNNING one returns (R96, R141). -/

namespace Sys2Proof.Machine

section
variable {s t : State} {cur : Nat} {live : Prop} {y z : Fin 12} {c d : Context} {tm : Template} {g : Fin 8}

/-- Whether the end of multiball ends a slot's context: it is mb_only, in RUNNING or PAUSED (R96). -/
def State.endsAtMb (s : State) (y : Fin 12) : Bool := s.isLive y && ((s.slotTemplate? y).map Template.mbOnly).getD false

theorem State.endsAtMb_eq (hc : s.mst.slots[y] = some c) (htm : s.mst.templates[c.template] = some tm) :
    s.endsAtMb y = (c.phase.live && tm.mbOnly) := by
  rw [State.endsAtMb, State.isLive_eq hc, State.slotTemplate?_present hc htm]
  rfl

theorem State.endsAtMb_used (h : s.endsAtMb y = true) : ∃ c, s.mst.slots[y] = some c ∧ c.phase.live = true :=
  State.isLive_iff.mp (Bool.and_eq_true_iff.mp h).1

/-- State t is s with the mb_only contexts ended, no return made yet. -/
def State.MbSwept (s t : State) : Prop :=
  s.Swept t (List.finRange 12) s.endsAtMb (fun _ => true) fun _ c => c.endedWith .mbEnded (s.remainingOf c)

theorem State.endAll_mbSwept (hs : s.mst.Fits cur live) (hts : s.mst.Timed s.tmu.timers live) :
    s.MbSwept (s.endAll State.endsAtMb .mbEnded) := by
  refine State.endAll_swept hs hts (fun t x htm hat => ?_) fun x hx => ?_
  · have hslot : t.slot? x = s.slot? x := hat
    rw [State.endsAtMb, State.endsAtMb, State.isLive, State.isLive, State.slotTemplate?, State.slotTemplate?, hslot, htm]
  · obtain ⟨c, hc, hl⟩ := State.endsAtMb_used hx
    exact ⟨c, hc, Phase.stands_of_live hl⟩

/-! ### What the sweep leaves of the slots -/

theorem State.MbSwept.kept (h : s.MbSwept t) (hy : s.endsAtMb y = false) : t.mst.slots[y] = s.mst.slots[y] :=
  Swept.kept h y (.inr hy)

theorem State.MbSwept.swept (h : s.MbSwept t) (hy : s.endsAtMb y = true) (hc : s.mst.slots[y] = some c) :
    t.mst.slots[y] = some (c.endedWith .mbEnded (s.remainingOf c)) :=
  Swept.swept h y (List.mem_finRange y) hy c hc

/-- A context that runs or waits after the sweep is one of before, which is not mb_only. -/
theorem State.MbSwept.unended (h : s.MbSwept t) (hs : s.mst.Fits cur live) (hc : t.mst.slots[y] = some c)
    (hl : c.phase.live = true) : s.endsAtMb y = false ∧ s.mst.slots[y] = some c ∧
      ∃ tm, s.mst.templates[c.template] = some tm ∧ tm.mbOnly = false := by
  cases he : s.endsAtMb y with
  | true =>
    obtain ⟨d, hd, -⟩ := State.endsAtMb_used he
    obtain rfl := Option.some.inj ((h.swept he hd).symm.trans hc)
    nomatch hl
  | false =>
    have hcs := (h.kept he).symm.trans hc
    obtain ⟨tm, htm⟩ := hs.template y c hcs
    refine ⟨rfl, hcs, tm, htm, ?_⟩
    rwa [State.endsAtMb_eq hcs htm, hl, Bool.true_and] at he

theorem State.MbSwept.template? (h : s.MbSwept t) (y : Fin 12) : t.mst.template? y = s.mst.template? y := by
  cases he : s.endsAtMb y with
  | false => exact State.KeepsKind.template? ⟨Swept.templates h, by rw [h.kept he]⟩
  | true =>
    obtain ⟨d, hd, -⟩ := State.endsAtMb_used he
    refine State.KeepsKind.template? ⟨Swept.templates h, ?_⟩
    rw [h.swept he hd, hd]
    rfl

theorem State.MbSwept.group (h : s.MbSwept t) (y : Fin 12) : t.mst.group y = s.mst.group y := by
  rw [Mst.group, Mst.group, h.template?]

theorem State.MbSwept.priority (h : s.MbSwept t) (y : Fin 12) : t.slotPriority y = s.slotPriority y := by
  rw [State.slotPriority_eq, State.slotPriority_eq, Mst.priority, Mst.priority, h.template?]

theorem State.MbSwept.pauseOrder (h : s.MbSwept t) : t.mst.pauseOrder = s.mst.pauseOrder.filter fun y => !s.endsAtMb y := by
  refine (Swept.pauseOrder h).trans (List.filter_congr fun y _ => ?_)
  simp [List.mem_finRange]

theorem State.MbSwept.mem_pauseOrder (h : s.MbSwept t) :
    y ∈ t.mst.pauseOrder ↔ y ∈ s.mst.pauseOrder ∧ s.endsAtMb y = false := by
  rw [h.pauseOrder, List.mem_filter, Bool.not_eq_true']

/-- Two PAUSED contexts that are not mb_only stand after the sweep in the order they stood in. -/
theorem State.MbSwept.outranks_iff (h : s.MbSwept t) (hy : y ∈ t.mst.pauseOrder) (hz : z ∈ t.mst.pauseOrder) :
    t.outranks y z ↔ s.outranks y z := by
  obtain ⟨-, hye⟩ := h.mem_pauseOrder.mp hy
  obtain ⟨-, hze⟩ := h.mem_pauseOrder.mp hz
  have hsplit : (∃ a b, t.mst.pauseOrder = a ++ y :: b ∧ z ∈ b) ↔ ∃ a b, s.mst.pauseOrder = a ++ y :: b ∧ z ∈ b := by
    constructor
    · rintro ⟨a, b, hab, hzb⟩
      exact filter_split (h.pauseOrder.symm.trans hab) hzb
    · rintro ⟨a, b, hab, hzb⟩
      refine ⟨a.filter fun y => !s.endsAtMb y, b.filter fun y => !s.endsAtMb y, ?_, List.mem_filter.mpr ⟨hzb, ?_⟩⟩
      · rw [h.pauseOrder, hab, List.filter_append, List.filter_cons_of_pos (by rw [hye]; rfl)]
      · rw [hze]
        rfl
  rw [State.outranks, State.outranks, h.priority, h.priority, hsplit]

/-! ### Which contexts return -/

/-- The condition of the model for a return after the sweep: the group is left without a RUNNING context. -/
def State.comesBack (t : State) (cur : Nat) (y : Fin 12) : Prop :=
  ∃ g, g ≠ 0 ∧ t.runningInGroup cur g = none ∧ t.returning? cur g = some y

/-- The contexts that return are the PAUSED ones, not mb_only, of which R96 says so. -/
theorem State.MbSwept.comesBack_iff (h : s.MbSwept t) (hs : s.mst.Fits cur live) : t.comesBack cur y ↔
    (∃ c tm, s.mst.slots[y] = some c ∧ s.mst.templates[c.template] = some tm ∧ tm.mbOnly = false ∧ c.phase = .paused) ∧
      s.returnsAtEnd y := by
  constructor
  · rintro ⟨g, hg, hrun, hret⟩
    obtain ⟨hy, -, hyg⟩ := State.returning?_some hret
    have hyg : s.mst.group y = g := (h.group y).symm.trans hyg
    obtain ⟨hys, hye⟩ := h.mem_pauseOrder.mp hy
    obtain ⟨c, hc, hp⟩ := (hs.pause y).mp hys
    obtain ⟨-, -, tm, htm, hmb⟩ := h.unended hs ((h.kept hye).trans hc) (by rw [hp]; rfl)
    refine ⟨⟨c, tm, hc, htm, hmb, hp⟩, fun h0 => hg (hyg.symm.trans h0), fun z f tm' hzy hf htm' hmb' hzg => ?_⟩
    have hze : s.endsAtMb z = false := by rw [State.endsAtMb_eq hf htm', hmb', Bool.and_false]
    have hft := (h.kept hze).trans hf
    have hzg : s.mst.group z = g := hzg.trans hyg
    refine ⟨fun hr => ?_, fun hp' => ?_⟩
    · exact State.runningInGroup_none hrun hg z f hft hr (hs.owner z f hf (by rw [hr]; rfl)).1 ((h.group z).trans hzg)
    · have hz : z ∈ t.mst.pauseOrder := h.mem_pauseOrder.mpr ⟨(hs.pause z).mpr ⟨f, hf, hp'⟩, hze⟩
      refine (h.outranks_iff hy hz).mp (State.returning?_outranks hret hz hzy (State.belongs_iff.mpr ⟨f, hft, ?_, ?_⟩))
      · exact (hs.owner z f hf (by rw [hp']; rfl)).1
      · exact (h.group z).trans hzg
  · rintro ⟨⟨c, tm, hc, htm, hmb, hp⟩, hg, hall⟩
    have hye : s.endsAtMb y = false := by rw [State.endsAtMb_eq hc htm, hmb, Bool.and_false]
    have hy : y ∈ t.mst.pauseOrder := h.mem_pauseOrder.mpr ⟨(hs.pause y).mpr ⟨c, hc, hp⟩, hye⟩
    have hnodup : t.mst.pauseOrder.Nodup := h.pauseOrder ▸ hs.pauseNodup.filter _
    refine ⟨s.mst.group y, hg, Option.eq_none_iff_forall_ne_some.mpr fun z hz => ?_,
      State.returning?_unique hnodup hy (State.belongs_iff.mpr ⟨c, (h.kept hye).trans hc, ?_, h.group y⟩)
        fun z hz hzy hzb => ?_⟩
    · obtain ⟨-, d, hd, hdr, -, hzg⟩ := State.runningInGroup_some hz
      obtain ⟨-, hds, tm', htm', hmb'⟩ := h.unended hs hd (by rw [hdr]; rfl)
      have hzy : z ≠ y := by
        rintro rfl
        obtain rfl := Option.some.inj (hc.symm.trans hds)
        nomatch hp.symm.trans hdr
      exact (hall z d tm' hzy hds htm' hmb' ((h.group z).symm.trans hzg)).1 hdr
    · exact (hs.owner y c hc (by rw [hp]; rfl)).1
    · obtain ⟨hzs, hze⟩ := h.mem_pauseOrder.mp hz
      obtain ⟨f, hf, hfp⟩ := (hs.pause z).mp hzs
      obtain ⟨-, -, tm', htm', hmb'⟩ := h.unended hs ((h.kept hze).trans hf) (by rw [hfp]; rfl)
      obtain ⟨-, -, -, hzg⟩ := State.belongs_iff.mp hzb
      exact (h.outranks_iff hy hz).mpr ((hall z f tm' hzy hf htm' hmb' ((h.group z).symm.trans hzg)).2 hfp)

/-- The returns made after the sweep. -/
def State.mbReturned (t : State) : State :=
  (t.returnOrder (t.groupsToReturn t.currentPlayer)).foldl (fun s g => s.returnPaused s.currentPlayer g) t

theorem State.endMbOnly_eq : s.endMbOnly = { (s.endAll State.endsAtMb .mbEnded).mbReturned with
    freeUse := (s.endAll State.endsAtMb .mbEnded).mbReturned.freeUse + 1 } := rfl

/-- The returns after the sweep, whatever the order of the groups (log 8). -/
theorem State.endMbOnly_returns (hs : s.mst.Fits cur live) (hts : s.mst.Timed s.tmu.timers live)
    (hcur : s.currentPlayer = cur) : ∃ t, s.MbSwept t ∧ t.Returns s.endMbOnly fun y =>
      (∃ c tm, s.mst.slots[y] = some c ∧ s.mst.templates[c.template] = some tm ∧ tm.mbOnly = false ∧ c.phase = .paused) ∧
        s.returnsAtEnd y := by
  have hswept := State.endAll_mbSwept hs hts
  have hkept : ModesKept cur live True s (s.endAll State.endsAtMb .mbEnded) := .endAll ..
  have hfits := hkept.modes hs
  have htimed := hkept.timers hs hts
  have hplayer : (s.endAll State.endsAtMb .mbEnded).currentPlayer = cur := by
    rw [State.currentPlayer, Swept.gpc hswept]
    exact hcur
  refine ⟨_, hswept, ?_⟩
  rw [State.endMbOnly_eq]
  generalize s.endAll State.endsAtMb .mbEnded = t at hswept hfits htimed hplayer ⊢
  have hfold (l : List (Fin 8)) : ∀ u : State, u.currentPlayer = cur →
      l.foldl (fun s g => s.returnPaused s.currentPlayer g) u = l.foldl (fun s g => s.returnPaused cur g) u := by
    induction l with
    | nil => exact fun _ _ => rfl
    | cons g l ih =>
      intro u hu
      rw [List.foldl_cons, List.foldl_cons, hu]
      exact ih _ (by rw [← hu]; simp [State.currentPlayer])
  rw [State.mbReturned, hfold _ t hplayer, hplayer]
  have hperm : (t.returnOrder (t.groupsToReturn cur)).Perm (t.groupsToReturn cur) := sortBy_perm ..
  have hmem (g : Fin 8) : g ∈ t.returnOrder (t.groupsToReturn cur) ↔
      g ≠ 0 ∧ (t.returning? cur g).isSome = true ∧ t.runningInGroup cur g = none := by
    rw [hperm.mem_iff, State.groupsToReturn, List.mem_filter]
    simp [List.mem_finRange, and_assoc]
  have hreturns := State.returns_foldl (s := t) (p := cur) (l := t.returnOrder (t.groupsToReturn cur)) hfits.pauseNodup
    (fun y hy => by obtain ⟨c, hc, -⟩ := (hfits.pause y).mp hy; rw [hc]; nofun)
    (fun y z c d u hc hd hcu hdu => (htimed.timer_inj hfits hc hd hcu hdu).symm)
    (hperm.nodup_iff.mpr ((List.nodup_finRange 8).filter _)) fun g hg => ((hmem g).mp hg).1
  have hcongr := hreturns.congr fun y => (show _ ↔ t.comesBack cur y from
    ⟨fun ⟨g, hg, hy⟩ => ⟨g, ((hmem g).mp hg).1, ((hmem g).mp hg).2.2, hy⟩,
      fun ⟨g, h0, hrun, hy⟩ => ⟨g, (hmem g).mpr ⟨h0, by rw [hy]; rfl, hrun⟩, hy⟩⟩).trans (hswept.comesBack_iff hs)
  exact ⟨hcongr.used, hcongr.back, hcongr.kept, hcongr.thawed, hcongr.held, hcongr.templates, hcongr.ended, hcongr.ntu,
    hcongr.gpc⟩

end

end Sys2Proof.Machine
end

section
/-! PROOFS. What the end of multiball makes of a state (R96, R141): `MultiballEnds`. -/

namespace Sys2Proof.Machine

section
variable {s t u : State} {cur : Nat} {live : Prop} {y z : Fin 12} {c d : Context} {tm : Template} {v : Fin 16} {r : Timer}

/-- Whether a context returns at the end of multiball. -/
def State.returnsAtMb (s : State) (y : Fin 12) : Prop :=
  (∃ c tm, s.mst.slots[y] = some c ∧ s.mst.templates[c.template] = some tm ∧ tm.mbOnly = false ∧ c.phase = .paused) ∧
    s.returnsAtEnd y

theorem State.returnsAtMb.stays (h : s.returnsAtMb y) : s.endsAtMb y = false := by
  obtain ⟨⟨c, tm, hc, htm, hmb, -⟩, -⟩ := h
  rw [State.endsAtMb_eq hc htm, hmb, Bool.and_false]

theorem State.returnsAtMb.waits (h : s.returnsAtMb y) (hc : s.mst.slots[y] = some c)
    (htm : s.mst.templates[c.template] = some tm) : tm.mbOnly = false ∧ c.phase = .paused ∧ s.returnsAtEnd y := by
  obtain ⟨⟨c', tm', hc', htm', hmb, hp⟩, hret⟩ := h
  obtain rfl := Option.some.inj (hc.symm.trans hc')
  obtain rfl := Option.some.inj (htm.symm.trans htm')
  exact ⟨hmb, hp, hret⟩

/-- State t is s after the sweep and the returns of the end of multiball. -/
def State.MbEnded (s t : State) : Prop := ∃ m, s.MbSwept m ∧ m.Returns t s.returnsAtMb

theorem State.endMbOnly_mbEnded (hs : s.mst.Fits s.currentPlayer live) (hts : s.mst.Timed s.tmu.timers live) :
    s.MbEnded s.endMbOnly := State.endMbOnly_returns hs hts rfl

theorem State.MbEnded.ended_slot (h : s.MbEnded t) (he : s.endsAtMb y = true) (hc : s.mst.slots[y] = some c) :
    t.mst.slots[y] = some (c.endedWith .mbEnded (s.remainingOf c)) := by
  obtain ⟨m, hm, hr⟩ := h
  exact (hr.kept y fun hR => nomatch he.symm.trans hR.stays).trans (hm.swept he hc)

theorem State.MbEnded.kept (h : s.MbEnded t) (he : s.endsAtMb y = false) (hR : ¬ s.returnsAtMb y) :
    t.mst.slots[y] = s.mst.slots[y] := by
  obtain ⟨m, hm, hr⟩ := h
  exact (hr.kept y hR).trans (hm.kept he)

theorem State.MbEnded.back (h : s.MbEnded t) (hR : s.returnsAtMb y) (hc : s.mst.slots[y] = some c) :
    t.mst.slots[y] = some { c with phase := .running } := by
  obtain ⟨m, hm, hr⟩ := h
  exact hr.back y c hR ((hm.kept hR.stays).trans hc)

/-- A timer no context of the end or of a return holds stands. -/
theorem State.MbEnded.held (h : s.MbEnded t) (hv : ∀ (z : Fin 12) (d : Context), s.mst.slots[z] = some d →
    d.timer = some v → s.endsAtMb z = false ∧ ¬ s.returnsAtMb z) : t.tmu.timers[v] = s.tmu.timers[v] := by
  obtain ⟨m, hm, hr⟩ := h
  rw [hr.held v fun z d hR hd hdv => ?_, Swept.held hm v fun z _ he d hd hdv => ?_]
  · nomatch he.symm.trans (hv z d hd hdv).1
  · exact (hv z d ((hm.kept hR.stays).symm.trans hd) hdv).2 hR

theorem State.MbEnded.released (h : s.MbEnded t) (he : s.endsAtMb y = true) (hc : s.mst.slots[y] = some c)
    (hv : c.timer = some v) : t.tmu.timers[v] = none := by
  obtain ⟨m, hm, hr⟩ := h
  have hnone : m.tmu.timers[v] = none := Swept.released hm y (List.mem_finRange y) he c v hc hv
  by_cases hR : ∃ z d, s.returnsAtMb z ∧ m.mst.slots[z] = some d ∧ d.timer = some v
  · obtain ⟨z, d, hz, hd, hdv⟩ := hR
    rw [hr.thawed z d v hz hd hdv, hnone]
    rfl
  · exact (hr.held v fun z d hz hd hdv => hR ⟨z, d, hz, hd, hdv⟩).trans hnone

theorem State.MbEnded.thawed (h : s.MbEnded t) (ha : s.mst.TimersApart) (hR : s.returnsAtMb y)
    (hc : s.mst.slots[y] = some c) (hv : c.timer = some v) : t.tmu.timers[v] = (s.tmu.timers[v]).map Timer.thaw := by
  obtain ⟨m, hm, hr⟩ := h
  rw [hr.thawed y c v hR ((hm.kept hR.stays).trans hc) hv, Swept.held hm v fun z _ he d hd hdv => ?_]
  obtain rfl := ha y z c d v hc hd hv hdv
  nomatch he.symm.trans hR.stays

theorem State.MbEnded.lists (h : s.MbEnded t) : t.mst.templates = s.mst.templates ∧
    t.mst.ended = s.mst.ended ++ (List.finRange 12).filter s.endsAtMb ∧ s.ntu.Grows t.ntu ∧
    ∀ y, s.endsAtMb y = true → t.hasNotice (.modeEnded y) = true := by
  obtain ⟨m, hm, hr⟩ := h
  refine ⟨hr.templates.trans (Swept.templates hm), hr.ended.trans ((Swept.ended hm).trans ?_),
    hr.ntu ▸ Swept.notices hm, fun y he => ?_⟩
  · exact congrArg (s.mst.ended ++ ·) (List.filter_congr fun y _ => Bool.and_true _)
  · rw [State.hasNotice, hr.ntu]
    exact Swept.noticed hm y (List.mem_finRange y) he rfl

theorem Mst.Timed.apart (hts : s.mst.Timed s.tmu.timers live) (hs : s.mst.Fits cur live) : s.mst.TimersApart :=
  fun _ _ _ _ _ hc hd hcu hdu => (hts.timer_inj hs hc hd hcu hdu).symm

/-- The end of the mb_only contexts, multiball OFF already, with the notice. -/
theorem State.endMbOnly_ends (hs : s.mst.Fits s.currentPlayer live) (hts : s.mst.Timed s.tmu.timers live)
    (hoff : s.lmc.multiball = false) : MultiballEnds s (s.endMbOnly.raise .multiballEnd) := by
  have hmb := State.endMbOnly_mbEnded hs hts
  have hframe : s.endMbOnly.lmc = s.lmc ∧ s.endMbOnly.gpc = s.gpc ∧ s.endMbOnly.ptb = s.ptb := by simp
  generalize s.endMbOnly = t at hmb hframe ⊢
  have hself : (t.raise .multiballEnd).hasNotice .multiballEnd = true := State.hasNotice_raise_self ..
  obtain ⟨hlmc, hgpc, hptb⟩ := hframe
  obtain ⟨htemplates, hended, -, hnoticed⟩ := hmb.lists
  have hapart := hts.apart hs
  unfold MultiballEnds
  rw [State.raise_mst, State.raise_tmu, State.raise_lmc, State.raise_gpc, State.raise_ptb]
  refine ⟨(congrArg Lmc.multiball hlmc).trans hoff, by rw [hlmc], by rw [hlmc], hself, hgpc, hptb, htemplates, hended, fun y hn => ?_, fun y c tm hc htm =>
    ⟨fun hl hb => ?_, fun h => ?_, fun hb hp hret => ?_⟩, fun v hv => ?_⟩
  · have he : s.endsAtMb y = false := Bool.eq_false_iff.mpr fun he => by
      obtain ⟨d, hd, -⟩ := State.endsAtMb_used he
      nomatch hn.symm.trans hd
    exact (hmb.kept he fun hR => by obtain ⟨⟨d, -, hd, -⟩, -⟩ := hR; nomatch hn.symm.trans hd).trans hn
  · have he : s.endsAtMb y = true := by rw [State.endsAtMb_eq hc htm, ← State.isLive_eq hc, hl, hb]; rfl
    exact ⟨State.hasNotice_raise_of (hnoticed y he), hmb.ended_slot he hc, fun v hv => hmb.released he hc hv⟩
  · have he : s.endsAtMb y = false := by
      rw [State.endsAtMb_eq hc htm]
      rcases h with h | ⟨h, -⟩
      · rw [← State.isLive_eq hc, h, Bool.false_and]
      · rw [h, Bool.and_false]
    have hR : ¬ s.returnsAtMb y := fun hR => by
      obtain ⟨-, hp, hret⟩ := hR.waits hc htm
      rcases h with h | ⟨-, h | h⟩
      · rw [State.isLive_eq hc, hp] at h
        nomatch h
      · nomatch h.symm.trans hp
      · exact h hret
    refine ⟨(hmb.kept he hR).trans hc, fun v hv => hmb.held fun z d hd hdv => ?_⟩
    obtain rfl := hapart y z c d v hc hd hv hdv
    exact ⟨he, hR⟩
  · have hR : s.returnsAtMb y := ⟨⟨c, tm, hc, htm, hb, hp⟩, hret⟩
    refine ⟨hmb.back hR hc, fun v r hv hr => ?_⟩
    obtain ⟨q, hq, -, hstate⟩ := (hts.held y c tm hc htm).2 v hv
    obtain rfl := Option.some.inj (hr.symm.trans hq)
    rw [hmb.thawed hapart hR hc hv, hr, Option.map_some, Timer.thaw, if_pos]
    rw [hstate, hp]
    rfl
  · refine hmb.held fun z d hd hdv => ?_
    obtain ⟨tm, htm⟩ := hs.template z d hd
    obtain ⟨q, hq, hb, -⟩ := (hts.held z d tm hd htm).2 v hdv
    exact absurd (hb ▸ hv q hq) Template.binding_not_slotless

/-- The end of multiball read from a state with the same play, whatever its balls and its queue. -/
theorem MultiballEnds.congr (h : MultiballEnds s t) (hj : u.lmc.jackpot = s.lmc.jackpot)
    (hp : u.lmc.params = s.lmc.params) (hgpc : u.gpc = s.gpc) (hptb : u.ptb = s.ptb) (hmst : u.mst = s.mst)
    (htmu : u.tmu = s.tmu) : MultiballEnds u t := by
  have hslot : u.slot? = s.slot? := by
    funext y
    rw [State.slot?, State.slot?, hmst]
  have htemplate : u.slotTemplate? = s.slotTemplate? := by
    funext y
    rw [State.slotTemplate?, State.slotTemplate?, hslot, hmst]
  have hlive : u.isLive = s.isLive := by
    funext y
    rw [State.isLive, State.isLive, hslot]
  have hremaining : u.remainingOf = s.remainingOf := by
    funext c
    exact State.remainingOf_congr fun v _ => by rw [htmu]
  have hreturns : u.returnsAtEnd = s.returnsAtEnd := by
    funext y
    simp only [State.returnsAtEnd, State.slotGroup_eq, State.slotPriority_eq, hmst]
  unfold MultiballEnds at h ⊢
  rw [hlive, htemplate, hremaining, hreturns, hmst, htmu, hgpc, hptb, hj, hp]
  exact h

/-- The end of multiball as the statements describe it. -/
theorem State.endMultiball_ends (hs : s.mst.Fits s.currentPlayer live) (hts : s.mst.Timed s.tmu.timers live) :
    MultiballEnds s s.endMultiball := by
  have h := State.endMbOnly_ends (s := { s with lmc := { s.lmc with multiball := false } }) hs hts rfl
  exact h.congr rfl rfl rfl rfl rfl rfl

end

end Sys2Proof.Machine
end

section
/-! PROOFS. The ball end (R66, R94, R141, R144, R171): the player's record, the contexts, the timers: `BallEnds`. -/

namespace Sys2Proof.Machine

/-! ### Contexts carried to the moment they are parked -/

/-- The contexts of s that run or wait still do so in t, with the count they had left, or are mb_only ones ended MB_ENDED. -/
structure State.Carries (s t : State) : Prop where
  templates : t.mst.templates = s.mst.templates
  context : ∀ (y : Fin 12) (c : Context) (tm : Template), s.mst.slots[y] = some c → c.phase.live = true →
    s.mst.templates[c.template] = some tm →
    (∃ c' : Context, t.mst.slots[y] = some c' ∧ c'.phase.live = true ∧ c' = { c with phase := c'.phase } ∧
      t.remainingOf c' = s.remainingOf c) ∨
    (tm.mbOnly = true ∧ t.mst.slots[y] = some (c.endedWith .mbEnded (s.remainingOf c)))
  still : ∀ (y : Fin 12) (c : Context), s.mst.slots[y] = some c → c.phase.live = false → t.mst.slots[y] = some c

section
variable {s t u : State} {cur : Nat} {live : Prop} {y : Fin 12} {c d : Context} {tm : Template} {v : Fin 16}

theorem State.Carries.of_same (hm : t.mst = s.mst) (ht : t.tmu = s.tmu) : s.Carries t where
  templates := by rw [hm]
  context y c tm hc hl _ := .inl ⟨c, by rw [hm]; exact hc, hl, rfl, State.remainingOf_congr fun v _ => by rw [ht]⟩
  still y c hc _ := by rw [hm]; exact hc

theorem State.Carries.trans (h : s.Carries t) (h' : t.Carries u) : s.Carries u where
  templates := h'.templates.trans h.templates
  context y c tm hc hl htm := by
    have htm' (i : Fin 32) : t.mst.templates[i] = s.mst.templates[i] := by rw [h.templates]
    rcases h.context y c tm hc hl htm with ⟨c', hc', hl', he, hrem⟩ | ⟨hmb, hend⟩
    · have htemp : c'.template = c.template := by rw [he]
      have htm'' : t.mst.templates[c'.template] = some tm := by
        simp only [htemp]
        exact (htm' _).trans htm
      rcases h'.context y c' tm hc' hl' htm'' with ⟨c'', hc'', hl'', he', hrem'⟩ | ⟨hmb, hend⟩
      · refine .inl ⟨c'', hc'', hl'', ?_, hrem'.trans hrem⟩
        rw [he', he]
      · refine .inr ⟨hmb, hend.trans (congrArg some ?_)⟩
        rw [hrem, Context.endedWith, Context.endedWith, he]
    · exact .inr ⟨hmb, h'.still y _ hend rfl⟩
  still y c hc hl := h'.still y c (h.still y c hc hl) hl

/-- Two contexts in RUNNING or PAUSED that hold one timer have what it has left. -/
theorem State.remainingOf_held (hl : c.phase.live = true) (hd : d.phase.live = true) (ht : d.timer = c.timer)
    (h : ∀ v : Fin 16, c.timer = some v →
      (t.tmu.timers[v]).map Timer.remaining = (s.tmu.timers[v]).map Timer.remaining) :
    t.remainingOf d = s.remainingOf c := by
  cases hv : c.timer with
  | none => rw [State.remainingOf_untimed hl hv, State.remainingOf_untimed hd (ht.trans hv)]
  | some v => rw [State.remainingOf_timed hl hv, State.remainingOf_timed hd (ht.trans hv), h v hv]

/-- The end of multiball carries the contexts that it does not end. -/
theorem MultiballEnds.carries (h : MultiballEnds s t) (hs : s.mst.Fits cur live)
    (hts : s.mst.Timed s.tmu.timers live) : s.Carries t := by
  obtain ⟨-, -, -, -, -, -, htemplates, -, -, hall, -⟩ := h
  refine ⟨htemplates, fun y c tm hc hl htm => ?_, fun y c hc hl => ?_⟩
  · obtain ⟨hends, hkept, hback⟩ := hall y c tm hc htm
    have hlive : s.isLive y = true := (State.isLive_eq hc).trans hl
    cases hmb : tm.mbOnly with
    | true => exact .inr ⟨rfl, (hends hlive hmb).2.1⟩
    | false =>
      by_cases hstay : c.phase = .running ∨ ¬ s.returnsAtEnd y
      · obtain ⟨hslot, htimers⟩ := hkept (.inr ⟨hmb, hstay⟩)
        exact .inl ⟨c, hslot, hl, rfl, State.remainingOf_congr htimers⟩
      · obtain ⟨hrun, hret⟩ := not_or.mp hstay
        obtain ⟨hslot, htimers⟩ := hback hmb ((Phase.live_iff.mp hl).resolve_left hrun) (not_not.mp hret)
        refine .inl ⟨_, hslot, rfl, rfl, State.remainingOf_held hl rfl rfl fun v hv => ?_⟩
        obtain ⟨r, hr, -⟩ := (hts.held y c tm hc htm).2 v hv
        rw [htimers v r hv hr, hr]
        rfl
  · obtain ⟨tm, htm⟩ := hs.template y c hc
    exact ((hall y c tm hc htm).2.1 (.inl ((State.isLive_eq hc).trans hl))).1

/-- A context parked or ended at the ball end (R94). -/
def Context.closed (c : Context) (tm : Template) (tilted : Bool) (left : Nat) : Context :=
  { c with
    timer := none
    stored := left
    phase := if tm.mbOnly then .ended .mbEnded else if tilted then .ended .tilted
      else if tm.carries then .parked else .ended .ballEnded }

/-- The contexts carried to the ball end are all parked or ended. -/
theorem State.Carries.closed (h : s.Carries t) (hf : t.mst.Fits t.currentPlayer live)
    (htf : t.mst.Timed t.tmu.timers live) (hc : s.mst.slots[y] = some c) (hl : c.phase.live = true)
    (htm : s.mst.templates[c.template] = some tm) :
    t.parkAll.mst.slots[y] = some (c.closed tm t.gpc.tilted (s.remainingOf c)) := by
  have hswept := State.parkAll_swept hf htf
  rcases h.context y c tm hc hl htm with ⟨c', hc', hl', he, hrem⟩ | ⟨hmb, hend⟩
  · have hof : t.isLiveOf t.currentPlayer y = true := by
      have hslot : t.slot? y = some c' := hc'
      rw [State.isLiveOf, State.isLive_eq hc', hl', hslot, Option.map_some, (hf.owner y c' hc' hl').1]
      simp
    have htemp : c'.template = c.template := by rw [he]
    have htm' : t.mst.template? y = some tm := by
      rw [Mst.template?_eq hc', h.templates]
      simp only [htemp]
      exact htm
    rw [hswept.swept y (List.mem_finRange y) hof c' hc', State.atBallEnd, htm', hrem, he]
    rfl
  · have hof : t.isLiveOf t.currentPlayer y = false := by
      rw [State.isLiveOf, State.isLive_eq hend]
      rfl
    rw [hswept.kept y (.inr hof), hend, Context.closed, if_pos hmb]
    rfl

/-! ### The player's record -/

theorem State.bonusCredit_mst (p : Nat) : (s.bonusCredit p).mst = s.mst := by
  have hcredit (w : State) (points : Nat) : (w.credit p points none).mst = w.mst := by
    unfold State.credit
    split <;> simp [State.addPayer]
  unfold State.bonusCredit
  split
  · rfl
  · dsimp only
    rw [State.modifyPlayer_mst]
    split
    · rfl
    · exact hcredit ..

end

section
variable {s t : State} {n : Nat} {q q' : Player}

/-- The record of a player whose ball has ended (R66, R144, R171). -/
def Player.BallOver (q q' : Player) (tilted litKeeps : Bool) : Prop :=
  q' = { q with
    score := if tilted then q.score else min (q.score + min (q.bonus * q.bonusMult) 999999999999) 999999999999
    bonus := 0
    bonusMult := 1
    pfMult := 1
    locksLit := if litKeeps then q.locksLit else 0
    scoreLimitReported := q'.scoreLimitReported
    crossed := q'.crossed
    extraBalls := q'.extraBalls }

/-- The record of a player after the bonus credit. -/
def Player.Credited (q q' : Player) (tilted : Bool) : Prop :=
  q' = { q with
    score := if tilted then q.score else min (q.score + min (q.bonus * q.bonusMult) 999999999999) 999999999999
    bonus := 0
    bonusMult := 1
    scoreLimitReported := q'.scoreLimitReported
    crossed := q'.crossed
    extraBalls := q'.extraBalls }

/-- State t has player n + 1's record q' in place of the one in s, and the other records and the common values of s. -/
structure State.OnePlayer (s t : State) (n : Nat) (q' : Player) : Prop where
  record : t.ptb.players[n]? = some q'
  others : ∀ m, m ≠ n → t.ptb.players[m]? = s.ptb.players[m]?
  common : t.ptb.commonValues = s.ptb.commonValues

theorem State.OnePlayer.modify {f : Player → Player} (h : s.OnePlayer t n q) :
    s.OnePlayer (t.modifyPlayer (n + 1) f) n (f q) where
  record := by rw [State.modifyPlayer_present f h.record]; exact State.withPlayer_same _ h.record
  others m hm := by
    rw [State.modifyPlayer_present f h.record]
    exact (State.withPlayer_others _ hm).trans (h.others m hm)
  common := State.modifyPlayer_common.trans h.common

theorem State.OnePlayer.of_ptb {u : State} (h : s.OnePlayer t n q) (hp : u.ptb = t.ptb) : s.OnePlayer u n q :=
  ⟨hp ▸ h.record, hp ▸ h.others, hp ▸ h.common⟩

theorem State.bonusCredit_player (hq : s.ptb.players[n]? = some q) :
    ∃ q', s.OnePlayer (s.bonusCredit (n + 1)) n q' ∧ q.Credited q' s.gpc.tilted := by
  have hp : s.player? (n + 1) = some q := hq
  have hrefl : s.OnePlayer s n q := ⟨hq, fun _ _ => rfl, rfl⟩
  rw [State.bonusCredit, hp]
  dsimp only
  cases ht : s.gpc.tilted with
  | true => exact ⟨_, hrefl.modify, rfl⟩
  | false =>
    obtain ⟨t, r', hcrossed, hothers, -⟩ := State.credit_record (awardPoints q.bonus 1 q.bonusMult 1) none hq
    have hone : s.OnePlayer (s.credit (n + 1) (awardPoints q.bonus 1 q.bonusMult 1) none) n r' :=
      ⟨hcrossed.record, fun m hm => (hcrossed.others m hm).trans (hothers m hm), State.credit_common⟩
    refine ⟨_, hone.modify, ?_⟩
    rw [Player.Credited, hcrossed.fields, awardPoints, Nat.mul_one, Nat.mul_one]
    rfl

end

end Sys2Proof.Machine
end

section
/-! PROOFS. The ball end as the statements describe it (R171), from a state that may have left multiball before. -/

namespace Sys2Proof.Machine

section
variable {s t w : State} {n : Nat} {q q' : Player}

/-- The contexts of w are those of the law, the RUNNING and PAUSED ones the current player's. -/
def State.Lawful (w : State) : Prop := w.mst.Fits w.currentPlayer True ∧ w.mst.Timed w.tmu.timers True

theorem State.Lawful.of_laws (hm : ModeLaw s) (ht : TimerLaw s) (hp : s.plays) : s.Lawful := by
  have hplays : s.plays = True := propext ⟨fun _ => trivial, fun _ => hp⟩
  have hfits : s.mst.Fits s.currentPlayer s.plays := (modeLaw_iff.mp hm).1
  have htimed : s.mst.Timed s.tmu.timers s.plays := (timerLaw_iff hm).mp ht
  rw [hplays] at hfits htimed
  exact ⟨hfits, htimed⟩

theorem State.Lawful.of_kept (h : s.Lawful) (hk : ModesKept s.currentPlayer True True s t)
    (hc : t.currentPlayer = s.currentPlayer) : t.Lawful :=
  ⟨hc.symm ▸ hk.modes h.1, hk.timers h.1 h.2⟩

theorem State.Lawful.of_same (h : s.Lawful) (hm : t.mst = s.mst) (ht : t.tmu = s.tmu) (hg : t.currentPlayer = s.currentPlayer) :
    t.Lawful := by
  rw [State.Lawful, hm, ht, hg]
  exact h

/-! ### Up to the parking -/

/-- BALL_OVER with the bonus credited. -/
def State.ballCredited (s : State) : State := (s.setGame .ballOver).bonusCredit (s.setGame .ballOver).currentPlayer

/-- Multiball ended too, where it runs. -/
def State.ballSingle (s : State) : State :=
  if s.ballCredited.lmc.multiball then s.ballCredited.endMultiball else s.ballCredited

theorem State.ballClosed_eq (s : State) : s.ballClosed = if s.ballSingle.lmc.params.litKeeps then s.ballSingle else
    s.ballSingle.modifyPlayer s.ballSingle.currentPlayer fun r => { r with locksLit := 0 } := rfl

theorem State.ballCredited_frame : s.ballCredited.mst = s.mst ∧ s.ballCredited.tmu = s.tmu ∧ s.ballCredited.lmc = s.lmc ∧
    s.ballCredited.gpc = { s.gpc with game := .ballOver } := by
  refine ⟨(State.bonusCredit_mst _).trans rfl, ?_, ?_, ?_⟩ <;> simp [State.ballCredited, State.setGame]

theorem State.ballCredited_player (hcur : s.gpc.current = some (n + 1)) (hq : s.ptb.players[n]? = some q) :
    ∃ q', s.OnePlayer s.ballCredited n q' ∧ q.Credited q' s.gpc.tilted := by
  have hplayer : (s.setGame .ballOver).currentPlayer = n + 1 := State.currentPlayer_eq (s := s.setGame .ballOver) hcur
  rw [State.ballCredited, hplayer]
  obtain ⟨q', hone, hq'⟩ := State.bonusCredit_player (s := s.setGame .ballOver) hq
  exact ⟨q', ⟨hone.record, hone.others, hone.common⟩, hq'⟩

theorem State.ballSingle_records : s.ballSingle.gpc = { s.gpc with game := .ballOver } ∧
    s.ballSingle.ptb = s.ballCredited.ptb ∧ s.ballSingle.lmc = { s.lmc with multiball := false } := by
  obtain ⟨-, -, hlmc, hgpc⟩ := s.ballCredited_frame
  unfold State.ballSingle
  split
  · next hm => exact ⟨by simpa using hgpc, by simp, by rw [show s.ballCredited.endMultiball.lmc =
      { s.ballCredited.lmc with multiball := false } by simp [State.endMultiball], hlmc]⟩
  · next hm =>
    refine ⟨hgpc, rfl, ?_⟩
    rw [hlmc] at hm ⊢
    generalize s.lmc = x at hm
    obtain ⟨claims, params, multiball, jackpot⟩ := x
    obtain rfl : multiball = false := eq_false_of_ne_true hm
    rfl

theorem State.ballSingle_carries (h : s.Lawful) : s.Carries s.ballSingle ∧ s.ballSingle.Lawful ∧
    (s.lmc.multiball = true → s.ballSingle.hasNotice .multiballEnd = true) := by
  obtain ⟨hmst, htmu, hlmc, hgpc⟩ := s.ballCredited_frame
  have hcredited : s.ballCredited.Lawful := h.of_same hmst htmu (by rw [State.currentPlayer, hgpc]; rfl)
  have hfirst : s.Carries s.ballCredited := .of_same hmst htmu
  unfold State.ballSingle
  split
  · next hm =>
    exact ⟨hfirst.trans ((State.endMultiball_ends hcredited.1 hcredited.2).carries hcredited.1 hcredited.2),
      hcredited.of_kept (.endMultiball _ trivial) (by simp [State.currentPlayer]), fun _ => State.hasNotice_raise_self ..⟩
  · next hm => exact ⟨hfirst, hcredited, fun hmb => absurd (hlmc ▸ hmb) hm⟩

/-- The record of a player whose lit locks were treated too. -/
def Player.Closed (q q' : Player) (tilted litKeeps : Bool) : Prop :=
  q' = { q with
    score := if tilted then q.score else min (q.score + min (q.bonus * q.bonusMult) 999999999999) 999999999999
    bonus := 0
    bonusMult := 1
    locksLit := if litKeeps then q.locksLit else 0
    scoreLimitReported := q'.scoreLimitReported
    crossed := q'.crossed
    extraBalls := q'.extraBalls }

theorem State.ballClosed_player (hcur : s.gpc.current = some (n + 1)) (hq : s.ptb.players[n]? = some q) :
    ∃ q', s.OnePlayer s.ballClosed n q' ∧ q.Closed q' s.gpc.tilted s.lmc.params.litKeeps := by
  obtain ⟨q', hone, hq'⟩ := State.ballCredited_player hcur hq
  obtain ⟨hgpc, hptb, hlmc⟩ := s.ballSingle_records
  have hsingle := hone.of_ptb hptb
  have hplayer : s.ballSingle.currentPlayer = n + 1 := State.currentPlayer_eq (by rw [hgpc]; exact hcur)
  rw [State.ballClosed_eq, hplayer, hlmc]
  dsimp only
  cases s.lmc.params.litKeeps with
  | true => exact ⟨q', hsingle, hq'⟩
  | false =>
    refine ⟨_, hsingle.modify, ?_⟩
    rw [Player.Closed, hq']
    rfl

theorem State.ballClosed_records : s.ballClosed.mst = s.ballSingle.mst ∧ s.ballClosed.tmu = s.ballSingle.tmu ∧
    s.ballClosed.gpc = s.ballSingle.gpc ∧ s.ballClosed.ntu = s.ballSingle.ntu := by
  rw [State.ballClosed_eq]
  split <;> simp

/-! ### The ball end -/

/-- What a ball end makes of a state s, record by record. -/
structure State.EndsBall (s t : State) (n : Nat) (q : Player) : Prop where
  gpc : t.gpc = { s.gpc with game := .ballOver }
  notice : t.hasNotice .ballEnd = true
  player : ∃ q', s.OnePlayer t n q' ∧ q.BallOver q' s.gpc.tilted s.lmc.params.litKeeps
  fits : t.mst.Fits t.currentPlayer True
  still : t.mst.Still
  context : ∀ (y : Fin 12) (c : Context) (tm : Template), s.mst.slots[y] = some c → c.phase.live = true →
    s.mst.templates[c.template] = some tm → t.mst.slots[y] = some (c.closed tm s.gpc.tilted (s.remainingOf c))
  multiball : t.lmc.multiball = false
  ended : s.lmc.multiball = true → t.hasNotice .multiballEnd = true
  timers : ∀ (v : Fin 16) (r : Timer), t.tmu.timers[v] = some r → r.binding ≠ .pfMult ∧ r.binding ≠ .ballSave

theorem State.OnePlayer.congr {u : State} (h : s.OnePlayer t n q) (hp : u.ptb = s.ptb) : u.OnePlayer t n q :=
  ⟨h.record, hp ▸ h.others, hp ▸ h.common⟩

/-- The ball end of a state t whose contexts are carried over from s, with the records of s. -/
theorem State.Carries.ballEnd (h : s.Carries t) (hlaw : t.Lawful) (hgpc : t.gpc = s.gpc) (hptb : t.ptb = s.ptb)
    (hparams : t.lmc.params = s.lmc.params)
    (hmb : s.lmc.multiball = true → t.lmc.multiball = true ∨ t.hasNotice .multiballEnd = true)
    (hgame : s.gpc.game ≠ .idle)
    (hcur : s.gpc.current = some (n + 1)) (hq : s.ptb.players[n]? = some q) : s.EndsBall t.ballEnd n q := by
  obtain ⟨hcarried, hsingle, hmbEnd⟩ := State.ballSingle_carries hlaw
  obtain ⟨hsgpc, -, -⟩ := t.ballSingle_records
  obtain ⟨hmst, htmu, hcgpc, hntu⟩ := t.ballClosed_records
  obtain ⟨q', hone, hq'⟩ := State.ballClosed_player (s := t) (hgpc.symm ▸ hcur) (hptb.symm ▸ hq)
  have hgrows : t.ballClosed.ntu.Grows t.ballEnd.ntu :=
    (Keeps.refl t.ballClosed).parkAll.resetPfMult.releaseBinding.releaseBinding.raise.notices
  have hclosed : s.Carries t.ballClosed := (h.trans hcarried).trans (.of_same hmst htmu)
  have hlawful : t.ballClosed.Lawful := hsingle.of_same hmst htmu (by rw [State.currentPlayer, hcgpc]; rfl)
  have hparked : ModesKept t.ballClosed.currentPlayer True True t.ballClosed t.ballClosed.parkAll := .parkAll _
  have hboth := hparked.trans (.ballReset t.ballClosed.parkAll)
  have hend : t.ballEnd.gpc = { s.gpc with game := .ballOver } := by
    simp only [State.ballEnd_eq, State.ballReset_gpc, State.parkAll_frame, State.ballClosed_gpc, hgpc]
  refine ⟨hend, State.hasNotice_raise_self .., ?_, ?_, ?_, fun y c tm hc hl htm => ?_, by rw [State.ballEnd_lmc],
    fun hm => ?_, fun v r hr => ?_⟩
  · have hplayer : t.ballClosed.parkAll.currentPlayer = n + 1 := by
      refine State.currentPlayer_eq ?_
      simp only [State.parkAll_frame, hcgpc, hsgpc, hgpc]
      exact hcur
    have hptbs : t.ballEnd.ptb = (t.ballClosed.modifyPlayer (n + 1) fun r => { r with pfMult := 1 }).ptb := by
      rw [State.ballEnd_eq, State.ballReset, hplayer]
      simp [State.modifyPlayer]
    refine ⟨_, ((hone.modify (f := fun r => { r with pfMult := 1 })).of_ptb hptbs).congr hptb.symm, ?_⟩
    rw [Player.BallOver, hq', hgpc, hparams]
  · have hcurrent : t.ballEnd.currentPlayer = t.ballClosed.currentPlayer := by
      rw [State.currentPlayer, State.currentPlayer, hend, hcgpc, hsgpc, hgpc]
    rw [hcurrent]
    exact hboth.modes hlawful.1
  · rw [State.ballEnd_eq, State.ballReset_mst]
    exact State.parkAll_still hlawful.1
  · rw [State.ballEnd_eq, State.ballReset_mst, hclosed.closed hlawful.1 hlawful.2 hc hl htm, hcgpc, hsgpc, hgpc]
  · rcases hmb hm with hm | hm
    · refine State.hasNotice_of_grows hgrows ?_
      rw [State.hasNotice, hntu]
      exact hmbEnd hm
    · exact State.hasNotice_of_grows (State.ballEnd_keeps (hgpc.symm ▸ hgame)).notices hm
  · rw [State.ballEnd_eq, State.ballReset_timers] at hr
    obtain ⟨r', -, hr'⟩ := Option.bind_eq_some_iff.mp hr
    split at hr'
    · nomatch hr'
    · next hb =>
      obtain rfl := Option.some.inj hr'
      exact not_or.mp hb

theorem State.EndsBall.bound (h : s.EndsBall t n q) : t.ballSaveActive = false ∧ t.boundTimer? .pfMult = none := by
  refine ⟨?_, State.boundTimer?_eq_none.mpr fun v r hr => (h.timers v r hr).1⟩
  rw [State.ballSaveActive, State.boundTimer?_eq_none.mpr fun v r hr => (h.timers v r hr).2]
  rfl

theorem State.EndsBall.empty (h : s.EndsBall t n q) :
    (∀ y : Fin 12, t.isLive y = false) ∧ t.mst.stack = [] ∧ t.mst.pauseOrder = [] := by
  refine ⟨fun y => Bool.eq_false_iff.mpr fun hl => ?_, List.eq_nil_iff_forall_not_mem.mpr fun y hy => ?_,
    List.eq_nil_iff_forall_not_mem.mpr fun y hy => ?_⟩
  · obtain ⟨c, hc, hl⟩ := State.isLive_iff.mp hl
    exact Bool.false_ne_true ((h.still y c hc).symm.trans hl)
  · obtain ⟨c, hc, hr⟩ := (h.fits.stack y).mp hy
    nomatch (hr ▸ h.still y c hc : Phase.running.live = false)
  · obtain ⟨c, hc, hr⟩ := (h.fits.pause y).mp hy
    nomatch (hr ▸ h.still y c hc : Phase.paused.live = false)

theorem State.EndsBall.ballEnds (h : s.EndsBall t n q) : BallEnds s t n q := by
  obtain ⟨q', hone, hq'⟩ := h.player
  obtain ⟨hlive, hstack, hpause⟩ := h.empty
  obtain ⟨hsave, hpf⟩ := h.bound
  refine ⟨h.gpc, h.notice, ⟨q', hone.record, ?_, ?_, ?_, ?_, ?_, ?_, ?_⟩, hone.others, hone.common, hlive, hstack, hpause,
    fun y c tm hc hl htm => ⟨_, h.context y c tm hc ((State.isLive_eq hc).symm.trans hl) htm, rfl, rfl, rfl⟩, h.multiball,
    h.ended, hsave, hpf⟩
  all_goals rw [hq']

end

end Sys2Proof.Machine
end

section
/-! PROOFS. Eject timers and the faulting of a device (R117 to R119), and the ball-end check (R171): O39. -/

namespace Sys2Proof.Machine

/-! ### The play left as it is, the ball end checked -/

/-- State t has the play of s: contexts, timers, players, multiball and the game record. -/
structure State.SamePlay (s t : State) : Prop where
  mst : t.mst = s.mst
  tmu : t.tmu = s.tmu
  ptb : t.ptb = s.ptb
  gpc : t.gpc = s.gpc
  multiball : t.lmc.multiball = s.lmc.multiball
  jackpot : t.lmc.jackpot = s.lmc.jackpot
  lockParams : t.lmc.params = s.lmc.params

section
variable {s t u : State} {n k : Nat} {q : Player} {d c : Fin 6} {r : Device}

theorem State.SamePlay.refl (s : State) : s.SamePlay s := ⟨rfl, rfl, rfl, rfl, rfl, rfl, rfl⟩

theorem State.SamePlay.trans (h : s.SamePlay t) (h' : t.SamePlay u) : s.SamePlay u :=
  ⟨h'.mst.trans h.mst, h'.tmu.trans h.tmu, h'.ptb.trans h.ptb, h'.gpc.trans h.gpc, h'.multiball.trans h.multiball,
    h'.jackpot.trans h.jackpot, h'.lockParams.trans h.lockParams⟩

theorem State.SamePlay.then_frame (h : s.SamePlay t) (h1 : u.mst = t.mst := by simp) (h2 : u.tmu = t.tmu := by simp)
    (h3 : u.ptb = t.ptb := by simp) (h4 : u.gpc = t.gpc := by simp) (h5 : u.lmc = t.lmc := by simp) : s.SamePlay u :=
  h.trans ⟨h1, h2, h3, h4, by rw [h5], by rw [h5], by rw [h5]⟩

theorem State.SamePlay.lawful (h : s.SamePlay t) (hs : s.Lawful) : t.Lawful :=
  hs.of_same h.mst h.tmu (by rw [State.currentPlayer, h.gpc]; rfl)

theorem State.SamePlay.ballEnd (h : s.SamePlay t) (hs : s.Lawful) (hgame : s.gpc.game ≠ .idle)
    (hcur : s.gpc.current = some (n + 1)) (hq : s.ptb.players[n]? = some q) : s.EndsBall t.ballEnd n q :=
  (State.Carries.of_same h.mst h.tmu).ballEnd (h.lawful hs) h.gpc h.ptb h.lockParams
    (fun hm => .inl (by rw [h.multiball]; exact hm)) hgame hcur hq

theorem State.readyPending_eq_zero_iff : s.readyPending = 0 ↔
    ∀ c : Fin 6, (s.bdt.devices[c]).faulted = false → (s.bdt.devices[c]).ejectPending = 0 := by
  simp only [State.readyPending, List.sum_eq_zero_iff, List.mem_map, List.mem_finRange, true_and, forall_exists_index,
    forall_apply_eq_imp_iff]
  refine forall_congr' fun c => ?_
  cases (s.bdt.devices[c]).faulted <;> simp

theorem State.ballEndHolds_iff : s.ballEndHolds = true ↔ s.bdt.ballsInPlay = 0 ∧
    ∀ c : Fin 6, (s.bdt.devices[c]).faulted = false → (s.bdt.devices[c]).ejectPending = 0 := by
  rw [State.ballEndHolds, Bool.and_eq_true, decide_eq_true_eq, decide_eq_true_eq, State.readyPending_eq_zero_iff]

theorem State.ballEndCheck_ends (h : s.ballEndHolds = true) : s.ballEndCheck = s.ballEnd := if_pos h

theorem State.ballEndCheck_stays (h : s.bdt.ballsInPlay ≠ 0 ∨
    ∃ c : Fin 6, (s.bdt.devices[c]).faulted = false ∧ (s.bdt.devices[c]).ejectPending ≠ 0) : s.ballEndCheck = s := by
  refine if_neg fun hb => ?_
  obtain ⟨h0, hall⟩ := State.ballEndHolds_iff.mp hb
  rcases h with h | ⟨c, hf, hp⟩
  · exact h h0
  · exact hp (hall c hf)

/-! ### The device records after an eject request -/

theorem State.requestEject_faulted (s : State) (d c : Fin 6) (n : Nat) :
    ((s.requestEject d n).1.device c).faulted = (s.device c).faulted := by
  by_cases h : c = d
  · subst h
    rcases s.requestEject_cases c n with ⟨-, he⟩ | ⟨-, -, he⟩ | ⟨-, -, he⟩ <;> rw [he]
    · refine (congrArg Device.faulted (State.withDevice_same c _)).trans ?_; rfl
    · refine (congrArg Device.faulted (State.withDevice_same c _)).trans ?_; rfl
  · rw [State.requestEject_other h]

/-! ### The third expiry (R119) -/

/-- The state in which a device was faulted and its owed balls were handed to the trough. -/
def State.faulting (s : State) (d : Fin 6) : State :=
  let f := (s.modifyDevice d fun r =>
    { r with faulted := true, retries := 3, ejectTimer := none, ejectPending := 0 }).raise (.ejectFailed d)
  if d = 0 then f
  else (f.requestEject 0 (s.device d).ejectPending).1.modifyDevice d fun x =>
    { x with replaced := (f.requestEject 0 (s.device d).ejectPending).2 }

theorem State.faultDevice_eq (s : State) (d : Fin 6) : s.faultDevice d = (s.faulting d).ballEndCheckInPlay := rfl

/-- The record of a device that has been faulted. -/
def Device.failed (r : Device) : Device := { r with faulted := true, retries := 3, ejectTimer := none, ejectPending := 0 }

theorem State.faulting_play (s : State) (d : Fin 6) : s.SamePlay (s.faulting d) ∧
    (s.faulting d).hasNotice (.ejectFailed d) = true ∧ (s.faulting d).bdt.ballsInPlay = s.bdt.ballsInPlay ∧
    (s.faulting d).lmc = s.lmc := by
  have hlmc : ((s.modifyDevice d Device.failed).raise (.ejectFailed d)).lmc = s.lmc := rfl
  have hf : s.SamePlay ((s.modifyDevice d Device.failed).raise (.ejectFailed d)) := (State.SamePlay.refl s).then_frame
  have hnote : ((s.modifyDevice d Device.failed).raise (.ejectFailed d)).hasNotice (.ejectFailed d) = true :=
    State.hasNotice_raise_self ..
  have hballs : ((s.modifyDevice d Device.failed).raise (.ejectFailed d)).bdt.ballsInPlay = s.bdt.ballsInPlay := rfl
  have hfold : s.faulting d = if d = 0 then (s.modifyDevice d Device.failed).raise (.ejectFailed d) else
    (((s.modifyDevice d Device.failed).raise (.ejectFailed d)).requestEject 0 (s.device d).ejectPending).1.modifyDevice d
      fun x => { x with replaced := (((s.modifyDevice d Device.failed).raise (.ejectFailed d)).requestEject 0
        (s.device d).ejectPending).2 } := rfl
  rw [hfold]
  generalize (s.modifyDevice d Device.failed).raise (.ejectFailed d) = f at hf hnote hballs hlmc ⊢
  split
  · exact ⟨hf, hnote, hballs, hlmc⟩
  · refine ⟨hf.then_frame, ?_, ?_, ?_⟩
    · exact State.hasNotice_of_grows (Keeps.refl f).requestEject.notices hnote
    · obtain ⟨-, -, hsame, -⟩ := f.requestEject_devices 0 (s.device d).ejectPending
      exact hsame.trans hballs
    · exact (by simp : _ = f.lmc).trans hlmc

/-- The device records once a device has been faulted. -/
theorem State.faulting_devices (s : State) (d : Fin 6) :
    (d = 0 → (s.faulting d).device d = (s.device d).failed) ∧
    (d ≠ 0 → (s.faulting d).device d =
        { (s.device d).failed with replaced := (s.device 0).adds (s.device d).ejectPending } ∧
      ((s.faulting d).device 0).ejectPending = (s.device 0).ejectPending + (s.device 0).adds (s.device d).ejectPending ∧
      ((s.faulting d).device 0).faulted = (s.device 0).faulted) ∧
    ∀ c : Fin 6, c ≠ d → c ≠ 0 → (s.faulting d).device c = s.device c := by
  have hsame : ((s.modifyDevice d Device.failed).raise (.ejectFailed d)).device d = (s.device d).failed :=
    State.modifyDevice_same _
  have hother : ∀ c, c ≠ d → ((s.modifyDevice d Device.failed).raise (.ejectFailed d)).device c = s.device c :=
    fun c h => State.modifyDevice_other _ h
  have hfold : s.faulting d = if d = 0 then (s.modifyDevice d Device.failed).raise (.ejectFailed d) else
    (((s.modifyDevice d Device.failed).raise (.ejectFailed d)).requestEject 0 (s.device d).ejectPending).1.modifyDevice d
      fun x => { x with replaced := (((s.modifyDevice d Device.failed).raise (.ejectFailed d)).requestEject 0
        (s.device d).ejectPending).2 } := rfl
  rw [hfold]
  generalize (s.modifyDevice d Device.failed).raise (.ejectFailed d) = f at hsame hother ⊢
  by_cases hd : d = 0
  · rw [if_pos hd]
    exact ⟨fun _ => hsame, fun h => absurd hd h, fun c h _ => hother c h⟩
  · rw [if_neg hd]
    have h0 : f.device 0 = s.device 0 := hother 0 fun e => hd e.symm
    obtain ⟨hpending, hrest, -, -⟩ := f.requestEject_devices 0 (s.device d).ejectPending
    refine ⟨fun h => absurd h hd, fun _ => ⟨?_, ?_, ?_⟩, fun c hc hc0 => ?_⟩
    · rw [State.modifyDevice_same, hrest d hd, hsame, State.requestEject_added, h0]
    · rw [State.modifyDevice_other _ fun e => hd e.symm, hpending, h0]
    · rw [State.modifyDevice_other _ fun e => hd e.symm, State.requestEject_faulted, h0]
    · rw [State.modifyDevice_other _ hc, hrest c hc0, hother c hc]

/-- An expiry is taken when the last tick produced it and its timer still stands at its last count (R117). -/
theorem exec_ejectExpiry (s : State) (d : Fin 6) : exec (.ejectExpiry d) s =
    .next (if s.bdt.expiring[d] = true ∧ (s.device d).atLast = true then s.ejectExpiry d else s) := rfl

theorem Device.atLast_iff (r : Device) : r.atLast = true ↔ ∃ n, r.ejectTimer = some n ∧ n ≤ 1 := by
  simp [Device.atLast, Option.any_eq_true]

/-- At BDT's tick each eject timer is lowered by 1 or, at its last count, produces its expiry (R117). -/
theorem bdtTick_lowers (s : State) : ∃ t, exec .bdtTick s = .next t ∧ { t with bdt := s.bdt } = s ∧
    t.bdt.ballsInPlay = s.bdt.ballsInPlay ∧ t.bdt.tracking = s.bdt.tracking ∧
    ∀ d : Fin 6, t.bdt.devices[d] = (s.bdt.devices[d]).lower ∧
      (t.bdt.expiring[d] = true ↔ ∃ n, (s.bdt.devices[d]).ejectTimer = some n ∧ n ≤ 1) := by
  refine ⟨s.bdtTick, rfl, rfl, rfl, rfl, fun d => ⟨mapTable_getElem .., ?_⟩⟩
  rw [← Device.atLast_iff]
  exact iff_of_eq (congrArg (· = true) (mapTable_getElem ..))

/-- The third expiry with no ball in play and no eject left in a READY device ends the ball (R119, R171). -/
theorem State.faultDevice_ballEnds (hplay : s.gpc.game = .inPlay) (hcur : s.gpc.current = some (n + 1))
    (hq : s.ptb.players[n]? = some q) (hm : ModeLaw s) (ht : TimerLaw s) (hballs : s.bdt.ballsInPlay = 0)
    (hrest : ∀ c : Fin 6, c ≠ d → (s.bdt.devices[c]).faulted = false → (s.bdt.devices[c]).ejectPending = 0)
    (hadds : d = 0 ∨ (s.device 0).adds (s.device d).ejectPending = 0) : BallEnds s (s.faultDevice d) n q := by
  obtain ⟨hsame, -, hin, -⟩ := s.faulting_play d
  obtain ⟨hzero, hnon, hothers⟩ := s.faulting_devices d
  have hlaw : s.Lawful := .of_laws hm ht (.inr hplay)
  have hends : (s.faulting d).ballEndHolds = true := by
    refine State.ballEndHolds_iff.mpr ⟨hin.trans hballs, fun c hf => ?_⟩
    change ((s.faulting d).device c).faulted = false at hf
    change ((s.faulting d).device c).ejectPending = 0
    by_cases hcd : c = d
    · subst hcd
      by_cases h0 : c = 0
      · rw [hzero h0]; rfl
      · rw [(hnon h0).1]; rfl
    · by_cases h0 : c = 0
      · subst h0
        obtain ⟨-, hp, hft⟩ := hnon fun e => hcd e.symm
        rw [hp, hadds.resolve_left fun e => hcd e.symm]
        exact hrest 0 hcd (hft.symm.trans hf)
      · rw [hothers c hcd h0] at hf ⊢
        exact hrest c hcd hf
  rw [State.faultDevice_eq, State.ballEndCheckInPlay, hsame.gpc, if_pos hplay, State.ballEndCheck_ends hends]
  exact (hsame.ballEnd hlaw (by rw [hplay]; nofun) hcur hq).ballEnds

/-- The third expiry with a ball in play or an eject pending in a READY device lets the ball go on (R119). -/
theorem State.faultDevice_goesOn (h : s.bdt.ballsInPlay ≠ 0 ∨
    (∃ c : Fin 6, c ≠ d ∧ (s.device c).faulted = false ∧ (s.device c).ejectPending ≠ 0) ∨
    (d ≠ 0 ∧ (s.device 0).adds (s.device d).ejectPending ≠ 0)) : s.faultDevice d = s.faulting d := by
  obtain ⟨-, -, hin, -⟩ := s.faulting_play d
  obtain ⟨-, hnon, hothers⟩ := s.faulting_devices d
  have hstay : (s.faulting d).ballEndCheck = s.faulting d := by
    refine State.ballEndCheck_stays ?_
    rcases h with hb | ⟨c, hcd, hf, hp⟩ | ⟨hd, ha⟩
    · exact .inl (by rw [hin]; exact hb)
    · refine .inr ⟨c, ?_⟩
      change ((s.faulting d).device c).faulted = false ∧ ((s.faulting d).device c).ejectPending ≠ 0
      by_cases h0 : c = 0
      · subst h0
        obtain ⟨-, hpend, hft⟩ := hnon fun e => hcd e.symm
        rw [hpend, hft]
        exact ⟨hf, by omega⟩
      · rw [hothers c hcd h0]
        exact ⟨hf, hp⟩
    · refine .inr ⟨0, ?_⟩
      obtain ⟨-, hpend, hft⟩ := hnon hd
      change ((s.faulting d).device 0).faulted = false ∧ ((s.faulting d).device 0).ejectPending ≠ 0
      rw [hpend, hft]
      exact ⟨Device.adds_ready_of_pos (Nat.pos_of_ne_zero ha), by omega⟩
  rw [State.faultDevice_eq, State.ballEndCheckInPlay, hstay, ite_self]

/-- The third expiry outside IN_PLAY makes no ball-end check (R119). -/
theorem State.faultDevice_outside (h : s.gpc.game ≠ .inPlay) : s.faultDevice d = s.faulting d := by
  rw [State.faultDevice_eq, State.ballEndCheckInPlay, (s.faulting_play d).1.gpc, if_neg h]

theorem State.faultDevice_bdt (s : State) (d : Fin 6) : (s.faultDevice d).bdt = (s.faulting d).bdt := by
  rw [State.faultDevice_eq]; simp

theorem State.faultDevice_notice (s : State) (d : Fin 6) : (s.faultDevice d).hasNotice (.ejectFailed d) = true := by
  rw [State.faultDevice_eq]
  obtain ⟨-, hnote, -⟩ := s.faulting_play d
  exact State.hasNotice_of_grows (Keeps.refl _).ballEndCheckInPlay.notices hnote

end

/-- Settles O39. -/
theorem ejectTimersTickAndExpire : Obligations.EjectTimersTickAndExpire := by
  unfold Obligations.EjectTimersTickAndExpire
  refine fun s => ⟨bdtTick_lowers s, fun d r hr => ⟨fun hnone => ?_, fun left hexp hleft hlast => ?_⟩⟩
  · rw [exec_ejectExpiry, if_neg]
    rintro ⟨hexp, hlast⟩
    obtain ⟨n, hn, hle⟩ := (Device.atLast_iff _).mp hlast
    rw [State.device, hr] at hn
    rcases hnone with h | h | ⟨k, h, hk⟩
    · rw [h] at hexp; cases hexp
    · rw [h] at hn; cases hn
    · rw [h] at hn; cases hn; omega
  · have hdev : s.device d = r := hr
    have htake : exec (.ejectExpiry d) s = .next (s.ejectExpiry d) := by
      rw [exec_ejectExpiry, if_pos ⟨hexp, (Device.atLast_iff _).mpr ⟨left, by rw [hdev]; exact hleft, hlast⟩⟩]
    rw [htake]
    refine ⟨fun h2 => ?_, fun h2 => ?_⟩
    · rw [State.ejectExpiry, hdev, if_neg (by omega)]
      subst hr; rfl
    · have hfault : s.ejectExpiry d = s.faultDevice d := by rw [State.ejectExpiry, hdev, if_pos h2]
      obtain ⟨hsame, -, hin, hlmc⟩ := s.faulting_play d
      obtain ⟨hzero, hnon, hothers⟩ := s.faulting_devices d
      refine ⟨_, by rw [hfault], s.faultDevice_notice d, ?_, fun h0 => ?_, fun h0 trough htr => ⟨?_, ?_⟩,
        fun c hc h0 => ?_, fun hgame => ?_, fun n q hplay hcur hq hm ht hballs hrest hadds => ?_, fun hstay => ?_⟩
      · rw [s.faultDevice_bdt]; exact hin
      · rw [s.faultDevice_bdt]; exact (hzero h0).trans (congrArg Device.failed hdev)
      · rw [s.faultDevice_bdt]; exact (hnon h0).1.trans (by rw [hdev, ← htr]; rfl)
      · rw [s.faultDevice_bdt]; exact (hnon h0).2.1.trans (by rw [hdev, ← htr]; rfl)
      · rw [s.faultDevice_bdt]; exact hothers c hc h0
      · rw [State.faultDevice_outside hgame]; exact ⟨hsame.gpc, hsame.mst, hsame.ptb⟩
      · exact State.faultDevice_ballEnds hplay hcur hq hm ht hballs hrest (by rw [hdev]; exact hadds)
      · rw [State.faultDevice_goesOn (d := d) (by rw [hdev]; exact hstay)]
        exact ⟨hsame.gpc, hsame.mst, hsame.ptb, hsame.tmu, hlmc⟩

end Sys2Proof.Machine
end

section
/-! PROOFS. The multiball check and the ball-end check that follow a change of the ball picture (R111, R140), and
RECOUNT and CLEAR_DEVICE_FAULT (R120, R121): O40. -/

namespace Sys2Proof.Machine

section
variable {s t u : State} {n : Nat} {q : Player} {d c : Fin 6} {r : Device} {p : List Byte} {b : Byte}

/-! ### The checks -/

theorem State.multiballCheck_ends (hm : s.lmc.multiball = true) (hb : s.bdt.ballsInPlay + s.readyPending ≤ 1) :
    s.multiballCheck = s.endMultiball := if_pos ⟨hm, hb⟩

theorem State.multiballCheck_stays (h : s.lmc.multiball = false ∨ 1 < s.bdt.ballsInPlay + s.readyPending) :
    s.multiballCheck = s := by
  refine if_neg fun ⟨hm, hb⟩ => ?_
  rcases h with h | h
  · rw [h] at hm; cases hm
  · exact absurd hb (Nat.not_le.mpr h)

theorem State.endMultiball_off (s : State) :
    s.endMultiball.lmc.multiball = false ∧ s.endMultiball.hasNotice .multiballEnd = true :=
  ⟨by rw [State.endMultiball_lmc], State.hasNotice_raise_self ..⟩

/-- The multiball check carries the contexts to the ball end, and reports the multiball it ends. -/
theorem State.Lawful.multiballCheck (h : s.Lawful) : s.Carries s.multiballCheck ∧ s.multiballCheck.Lawful ∧
    (s.lmc.multiball = true → s.multiballCheck.lmc.multiball = true ∨ s.multiballCheck.hasNotice .multiballEnd = true) := by
  obtain ⟨hfits, htimed⟩ := h
  refine ⟨?_, State.Lawful.of_kept ⟨hfits, htimed⟩ (.multiballCheck s trivial) (by simp [State.currentPlayer]), fun hm => ?_⟩
  · rw [State.multiballCheck]
    split
    · exact (State.endMultiball_ends hfits htimed).carries hfits htimed
    · exact .of_same rfl rfl
  · rw [State.multiballCheck]
    split
    · exact .inr s.endMultiball_off.2
    · exact .inl hm

/-- Where the ball-end condition holds after the ball picture has changed, the ball ends (R111, R171). -/
theorem State.SamePlay.checkedBallEnd (h : s.SamePlay u) (hs : s.Lawful) (hend : u.ballEndHolds = true)
    (hgame : s.gpc.game ≠ .idle) (hcur : s.gpc.current = some (n + 1)) (hq : s.ptb.players[n]? = some q) :
    s.EndsBall u.multiballCheck.ballEndCheck n q := by
  obtain ⟨hcarries, hlawful, hmb⟩ := (h.lawful hs).multiballCheck
  have hholds : u.multiballCheck.ballEndHolds = true := by
    simpa [State.ballEndHolds, State.readyPending] using hend
  rw [State.ballEndCheck_ends hholds]
  have hparams : u.multiballCheck.lmc.params = u.lmc.params := by
    rw [State.multiballCheck]
    split
    · rw [State.endMultiball_lmc]
    · rfl
  exact ((State.Carries.of_same h.mst h.tmu).trans hcarries).ballEnd hlawful (by simp [h.gpc]) (by simp [h.ptb])
    (hparams.trans h.lockParams) (fun hm => hmb (h.multiball.trans hm)) hgame hcur hq

/-- Where a ball is left in play or owed by a READY device, only multiball is checked. -/
theorem State.checked_goesOn (h : u.bdt.ballsInPlay ≠ 0 ∨
    ∃ c : Fin 6, (u.bdt.devices[c]).faulted = false ∧ (u.bdt.devices[c]).ejectPending ≠ 0) :
    u.multiballCheck.ballEndCheck = u.multiballCheck :=
  State.ballEndCheck_stays (by simpa using h)

/-- The end of multiball at a drain or a RECOUNT, of the state before the ball picture changed (R96, R141). -/
theorem State.SamePlay.multiballEnds (h : s.SamePlay u) (hs : s.Lawful) : MultiballEnds s u.endMultiball := by
  obtain ⟨hfits, htimed⟩ := h.lawful hs
  exact (State.endMultiball_ends hfits htimed).congr h.jackpot.symm h.lockParams.symm h.gpc.symm
    h.ptb.symm h.mst.symm h.tmu.symm

theorem State.checked_claims (s : State) : s.multiballCheck.ballEndCheck.lmc.claims = s.lmc.claims := by
  rw [State.ballEndCheck]
  split
  · rw [State.ballEnd_lmc]; simp
  · simp

theorem State.checked_bdt (s : State) : s.multiballCheck.ballEndCheck.bdt = s.bdt := by simp

theorem BallEnds.answer {e : Byte} {st : Status} (h : BallEnds s t n q) : BallEnds s (t.answer e st p) n q := h

/-! ### CLEAR_DEVICE_FAULT (R120) -/

theorem exec_clearDeviceFault_outOfRange (hw : s.glk.waiting = false) (hb : 6 ≤ b.toNat) :
    exec (.clearDeviceFault [b]) s = .next (s.answer 0x32 .outOfRange []) := by
  have hi : index? 6 (byteAt [b] 0) = none := index?_eq_none.mpr hb
  exact takeRequest_answers hw (by simp only [clearDeviceFault, hi, Reply.bare])

theorem exec_clearDeviceFault_absent (hw : s.glk.waiting = false) (hd : d.val = b.toNat)
    (hr : (s.device d).definition = none) :
    exec (.clearDeviceFault [b]) s = .next (s.answer 0x32 .outOfRange []) :=
  takeRequest_answers hw (by
    simp only [clearDeviceFault, index?_singleton hd, Device.present, hr, Option.isSome_none, if_true, Reply.bare])

theorem exec_clearDeviceFault_ready (hw : s.glk.waiting = false) (hd : d.val = b.toNat)
    (hr : (s.device d).definition ≠ none) (hf : (s.device d).faulted = false) :
    exec (.clearDeviceFault [b]) s = .next (s.answer 0x32 .wrongState []) := by
  obtain ⟨x, hx⟩ := Option.ne_none_iff_exists'.mp hr
  exact takeRequest_answers hw (by
    simp only [clearDeviceFault, index?_singleton hd, Device.present, hx, Option.isSome_some, reduceCtorEq, if_false, hf,
      if_true, Reply.bare])

theorem exec_clearDeviceFault_cleared (hw : s.glk.waiting = false) (hd : d.val = b.toNat)
    (hr : (s.device d).definition ≠ none) (hf : (s.device d).faulted = true) :
    exec (.clearDeviceFault [b]) s = .next ((s.modifyDevice d fun r =>
      { r with faulted := false, retries := 0, replaced := 0 }).answer 0x32 .ok []) := by
  obtain ⟨x, hx⟩ := Option.ne_none_iff_exists'.mp hr
  exact takeRequest_answers hw (by
    simp only [clearDeviceFault, index?_singleton hd, Device.present, hx, Option.isSome_some, reduceCtorEq, if_false, hf,
      Reply.bare])

/-! ### RECOUNT (R121) -/

/-- The records with the counts of a RECOUNT in force. -/
def State.recounted (s : State) (p : List Byte) : State := { s with
  bdt := ⟨Vector.ofFn fun d => s.bdt.devices[d].recount (byteAt p d.val), byteAt p 6, .ok, s.bdt.expiring⟩
  lmc := { s.lmc with claims := Vector.ofFn fun d => trimClaims s.lmc.claims[d] (byteAt p d.val) } }

theorem State.recounted_play (s : State) (p : List Byte) : s.SamePlay (s.recounted p) :=
  ⟨rfl, rfl, rfl, rfl, rfl, rfl, rfl⟩

theorem State.recounted_device (s : State) (p : List Byte) (d : Fin 6) :
    (s.recounted p).bdt.devices[d] = (s.bdt.devices[d]).recount (byteAt p d.val) :=
  Vector.getElem_ofFn ..

theorem State.recounted_claims (s : State) (p : List Byte) (d : Fin 6) :
    (s.recounted p).lmc.claims[d] = trimClaims s.lmc.claims[d] (byteAt p d.val) :=
  Vector.getElem_ofFn ..

theorem Device.recount_kept {k : Nat} (h : r.ejectPending ≤ k) : r.recount k = { r with occupancy := k } := if_pos h

theorem Device.recount_lowered {k : Nat} (h : k < r.ejectPending) (h0 : 0 < k) :
    r.recount k = { r with occupancy := k, ejectPending := k } := by
  rw [Device.recount, if_neg (Nat.not_le.mpr h), if_neg (Nat.ne_of_gt h0)]

theorem Device.recount_stopped {k : Nat} (h : k < r.ejectPending) (h0 : k = 0) :
    r.recount k = { r with occupancy := 0, ejectPending := 0, retries := 0, ejectTimer := none } := by
  rw [Device.recount, if_neg (Nat.not_le.mpr h), if_pos h0]

/-- RECOUNT trims the pending ejects to the occupancy and leaves the device READY or FAULTED. -/
theorem Device.recount_pending (r : Device) (k : Nat) :
    (r.recount k).faulted = r.faulted ∧ (r.recount k).ejectPending = min r.ejectPending k := by
  rcases Nat.lt_or_ge k r.ejectPending with h | h
  · rcases Nat.eq_zero_or_pos k with h0 | h0
    · rw [Device.recount_stopped h h0]; exact ⟨rfl, by simp [h0]⟩
    · rw [Device.recount_lowered h h0]; exact ⟨rfl, (Nat.min_eq_right h.le).symm⟩
  · rw [Device.recount_kept h]; exact ⟨rfl, (Nat.min_eq_left h).symm⟩

theorem trimClaims_fits {l : List Nat} {k : Nat} (h : l.length ≤ k) : trimClaims l k = l := by
  rw [trimClaims, Nat.sub_eq_zero_of_le h, List.drop_zero]

theorem trimClaims_oldest (gone kept : List Nat) : trimClaims (gone ++ kept) kept.length = kept := by
  rw [trimClaims, List.length_append, Nat.add_sub_cancel, List.drop_left]

theorem State.recounted_ready (s : State) (p : List Byte) :
    (∃ c : Fin 6, ((s.recounted p).bdt.devices[c]).faulted = false ∧ ((s.recounted p).bdt.devices[c]).ejectPending ≠ 0) ↔
      ∃ c : Fin 6, (s.bdt.devices[c]).faulted = false ∧ min (s.bdt.devices[c]).ejectPending (byteAt p c.val) ≠ 0 := by
  refine exists_congr fun c => ?_
  obtain ⟨hf, hp⟩ := Device.recount_pending (s.bdt.devices[c]) (byteAt p c.val)
  rw [s.recounted_device p c, hf, hp]

theorem State.recounted_readyPending (s : State) (p : List Byte) : (s.recounted p).readyPending =
    ((List.finRange 6).map fun c => if (s.bdt.devices[c]).faulted then 0
      else min (s.bdt.devices[c]).ejectPending (byteAt p c.val)).sum := by
  rw [State.readyPending]
  congr 2
  funext c
  obtain ⟨hf, hp⟩ := Device.recount_pending (s.bdt.devices[c]) (byteAt p c.val)
  rw [s.recounted_device p c, hf, hp]

/-- The state a RECOUNT that fits leaves: the counts in force and, in IN_PLAY, multiball and the ball end checked. -/
def State.recountChecked (s : State) (p : List Byte) : State :=
  if s.gpc.game = .inPlay then (s.recounted p).multiballCheck.ballEndCheck else s.recounted p

theorem State.recountFits_iff : s.recountFits p = true ↔
    (∀ d : Fin 6, byteAt p d.val ≤ (s.bdt.devices[d]).capacity) ∧ byteAt p 6 ≤ 12 ∧
      byteAt p 0 + byteAt p 1 + byteAt p 2 + byteAt p 3 + byteAt p 4 + byteAt p 5 + byteAt p 6 = s.gpc.params.installed := by
  have hsum : recountSum p =
      byteAt p 0 + byteAt p 1 + byteAt p 2 + byteAt p 3 + byteAt p 4 + byteAt p 5 + byteAt p 6 := by
    rw [recountSum_eq]; simp [List.finRange_succ]; omega
  rw [State.recountFits, hsum]
  simp only [Bool.and_eq_true, List.all_eq_true, List.mem_finRange, true_implies, decide_eq_true_eq, and_assoc]
  exact Iff.rfl

theorem exec_recount_refused (hw : s.glk.waiting = false) (hl : p.length = 7) (h : s.recountFits p ≠ true) :
    exec (.recount p) s = .next (s.answer 0x31 .outOfRange []) :=
  takeRequest_answers hw (by rw [Machine.recount, if_neg h]; rfl) hl

theorem exec_recount_fits (hw : s.glk.waiting = false) (hl : p.length = 7) (h : s.recountFits p = true) :
    exec (.recount p) s = .next ((s.recountChecked p).answer 0x31 .ok []) :=
  takeRequest_answers hw (by rw [Machine.recount, if_pos h]; rfl) hl

/-- The counts stand as RECOUNT set them, whatever the checks end. -/
theorem State.recountChecked_counts (s : State) (p : List Byte) : (s.recountChecked p).bdt = (s.recounted p).bdt ∧
    (s.recountChecked p).lmc.claims = (s.recounted p).lmc.claims := by
  rw [State.recountChecked]
  split
  · exact ⟨State.checked_bdt _, State.checked_claims _⟩
  · exact ⟨rfl, rfl⟩

/-- A RECOUNT in IN_PLAY that leaves no ball in play and no eject pending in a READY device ends the ball. -/
theorem State.recountChecked_ballEnds (hplay : s.gpc.game = .inPlay) (hcur : s.gpc.current = some (n + 1))
    (hq : s.ptb.players[n]? = some q) (hm : ModeLaw s) (ht : TimerLaw s) (h6 : byteAt p 6 = 0)
    (hall : ∀ c : Fin 6, (s.bdt.devices[c]).faulted = false → min (s.bdt.devices[c]).ejectPending (byteAt p c.val) = 0) :
    BallEnds s (s.recountChecked p) n q := by
  have hends : (s.recounted p).ballEndHolds = true := by
    refine State.ballEndHolds_iff.mpr ⟨h6, fun c hf => ?_⟩
    obtain ⟨hfault, hp⟩ := Device.recount_pending (s.bdt.devices[c]) (byteAt p c.val)
    rw [s.recounted_device p c] at hf ⊢
    rw [hp]
    exact hall c (hfault.symm.trans hf)
  rw [State.recountChecked, if_pos hplay]
  exact ((s.recounted_play p).checkedBallEnd (.of_laws hm ht (.inr hplay)) hends (by rw [hplay]; nofun) hcur hq).ballEnds

/-- A RECOUNT in IN_PLAY that leaves a ball in play or owed lets the ball go on, multiball checked. -/
theorem State.recountChecked_goesOn (hplay : s.gpc.game = .inPlay) (h : byteAt p 6 ≠ 0 ∨
    ∃ c : Fin 6, (s.bdt.devices[c]).faulted = false ∧ min (s.bdt.devices[c]).ejectPending (byteAt p c.val) ≠ 0) :
    s.recountChecked p = (s.recounted p).multiballCheck := by
  rw [State.recountChecked, if_pos hplay]
  exact State.checked_goesOn (h.imp id (s.recounted_ready p).mpr)

/-- A RECOUNT outside IN_PLAY leaves the play and the notices as they stand. -/
theorem State.recountChecked_outside (h : s.gpc.game ≠ .inPlay) : (s.recountChecked p).gpc = s.gpc ∧
    (s.recountChecked p).ptb = s.ptb ∧ (s.recountChecked p).mst = s.mst ∧ (s.recountChecked p).ntu = s.ntu := by
  rw [State.recountChecked, if_neg h]
  exact ⟨rfl, rfl, rfl, rfl⟩

/-- A RECOUNT in IN_PLAY that leaves a ball ends multiball when one at most is in play or owed, and nothing else. -/
theorem State.recountChecked_inPlay (hplay : s.gpc.game = .inPlay) (h : byteAt p 6 ≠ 0 ∨
    ∃ c : Fin 6, (s.bdt.devices[c]).faulted = false ∧ min (s.bdt.devices[c]).ejectPending (byteAt p c.val) ≠ 0) :
    (s.recountChecked p).gpc = s.gpc ∧ (s.recountChecked p).ptb = s.ptb ∧
    ∀ m : Nat, m = byteAt p 6 + ((List.finRange 6).map fun c =>
        if (s.bdt.devices[c]).faulted then 0 else min (s.bdt.devices[c]).ejectPending (byteAt p c.val)).sum →
      (s.lmc.multiball = true → m ≤ 1 → (s.recountChecked p).lmc.multiball = false ∧
        (s.recountChecked p).hasNotice .multiballEnd = true ∧
        (ModeLaw s → TimerLaw s → MultiballEnds s (s.recountChecked p))) ∧
      (s.lmc.multiball = false ∨ 1 < m → (s.recountChecked p).lmc.multiball = s.lmc.multiball ∧
        (s.recountChecked p).mst = s.mst ∧ (s.recountChecked p).tmu = s.tmu ∧ (s.recountChecked p).ntu = s.ntu) := by
  have hsame := s.recounted_play p
  have hready := s.recounted_readyPending p
  have hballs : (s.recounted p).bdt.ballsInPlay = byteAt p 6 := rfl
  have hntu : (s.recounted p).ntu = s.ntu := rfl
  rw [State.recountChecked_goesOn hplay h]
  generalize s.recounted p = u at hsame hready hballs hntu
  refine ⟨(by simp : u.multiballCheck.gpc = u.gpc).trans hsame.gpc,
    (by simp : u.multiballCheck.ptb = u.ptb).trans hsame.ptb, fun m hm => ⟨fun hmb hle => ?_, fun hoff => ?_⟩⟩
  · have hcheck : u.multiballCheck = u.endMultiball :=
      State.multiballCheck_ends (hsame.multiball.trans hmb) (by rw [hballs, hready, ← hm]; exact hle)
    obtain ⟨hstop, hnote⟩ := u.endMultiball_off
    rw [hcheck]
    exact ⟨hstop, hnote, fun hml htl => hsame.multiballEnds (.of_laws hml htl (.inr hplay))⟩
  · rw [State.multiballCheck_stays (hoff.imp hsame.multiball.trans fun h => by rw [hballs, hready, ← hm]; exact h)]
    exact ⟨hsame.multiball, hsame.mst, hsame.tmu, hntu⟩

end

/-- Settles O40. -/
theorem recountAndClearedFaults : Obligations.RecountAndClearedFaults := by
  unfold Obligations.RecountAndClearedFaults
  refine ⟨fun s b hw => ⟨exec_clearDeviceFault_outOfRange hw, fun d r hd hr => ?_⟩, fun s p hw hl => ⟨fun h => ?_,
    fun hfit hplay hsum => ?_⟩⟩
  · subst hr
    exact ⟨exec_clearDeviceFault_absent hw hd, exec_clearDeviceFault_ready hw hd, exec_clearDeviceFault_cleared hw hd⟩
  · refine exec_recount_refused hw hl fun hfits => ?_
    obtain ⟨hcap, hmax, hsum⟩ := State.recountFits_iff.mp hfits
    rcases h with ⟨d, hd⟩ | h | h
    · exact absurd (hcap d) (Nat.not_le.mpr hd)
    · exact absurd hmax (Nat.not_le.mpr h)
    · exact h hsum
  · obtain ⟨hbdt, hclaims⟩ := s.recountChecked_counts p
    refine ⟨_, exec_recount_fits hw hl (State.recountFits_iff.mpr ⟨hfit, hplay, hsum⟩), congrArg Bdt.ballsInPlay hbdt,
      congrArg Bdt.tracking hbdt, rfl, fun d r hr => ?counts, fun hgame => ?outside,
      fun n q hgame hcur hq hm ht h6 hall => (State.recountChecked_ballEnds hgame hcur hq hm ht h6 hall).answer,
      fun hgame hleft => ?goesOn⟩
    case counts =>
      have hdev : (s.recountChecked p).bdt.devices[d] = r.recount (byteAt p d.val) := by
        rw [hbdt, s.recounted_device p d, hr]
      have hcl : (s.recountChecked p).lmc.claims[d] = trimClaims s.lmc.claims[d] (byteAt p d.val) := by
        rw [hclaims, s.recounted_claims p d]
      exact ⟨fun h => hdev.trans (Device.recount_kept h), fun h h0 => hdev.trans (Device.recount_lowered h h0),
        fun h h0 => hdev.trans (Device.recount_stopped h h0), fun h => hcl.trans (trimClaims_fits h),
        fun gone kept hgk hk => hcl.trans (by rw [hgk, ← hk]; exact trimClaims_oldest gone kept)⟩
    case outside => exact State.recountChecked_outside hgame
    case goesOn => exact State.recountChecked_inPlay hgame hleft

end Sys2Proof.Machine
end

section
/-! PROOFS. A ball entering a device: the accounting, the kick-out or the keeping, and the awards after it (R44, R109,
R110): O34. -/

namespace Sys2Proof.Machine

/-! ### The ball picture kept by eject requests -/

/-- P holds of the device records after every eject request made where it holds. -/
def Bdt.KeptByEjects (P : Bdt → Prop) : Prop := ∀ (s : State) (d : Fin 6) (n : Nat), P s.bdt → P (s.requestEject d n).1.bdt

section
variable {P : Bdt → Prop} {s : State}

theorem Bdt.KeptByEjects.takeClaims (hP : Bdt.KeptByEjects P) (d : Fin 6) (p : Nat) (mine : Bool) (l : List Nat)
    (x : Sourcing) (h : P x.state.bdt) : P (x.takeClaims d p mine l).1.state.bdt := by
  induction l generalizing x with
  | nil => exact h
  | cons o l ih =>
    unfold Sourcing.takeClaims
    split
    · refine ih _ (hP _ _ _ ?_)
      cases mine
      · exact (State.loseLock_bdt x.state d o).symm ▸ h
      · exact h
    · exact ih x h

/-- What eject requests keep, the handling of an entry keeps (R110, R111, R131, R136). -/
theorem Bdt.KeptByEjects.source (hP : Bdt.KeptByEjects P) (p n : Nat) (h : P s.bdt) : P (s.source p n).state.bdt := by
  have fold : ∀ (f : Sourcing → Fin 6 → Sourcing), (∀ (x : Sourcing) d, P x.state.bdt → P (f x d).state.bdt) →
      ∀ x : Sourcing, P x.state.bdt → P (lockDevices.foldl f x).state.bdt :=
    fun f hf x hx => foldl_keeps (fun x : Sourcing => P x.state.bdt) f hf _ x hx
  have hclaims (mine : Bool) (x : Sourcing) (d : Fin 6) (hx : P x.state.bdt) : P (x.claimsStep p mine d).state.bdt :=
    hP.takeClaims d p mine _ x hx
  have hstock (x : Sourcing) (d : Fin 6) (hx : P x.state.bdt) : P (x.stockStep d).state.bdt := by
    unfold Sourcing.stockStep
    dsimp only
    split
    · exact hP _ _ _ hx
    · exact hx
  have htrough (x : Sourcing) (hx : P x.state.bdt) : P x.troughStep.state.bdt := by
    unfold Sourcing.troughStep
    split
    · exact hP _ _ _ hx
    · exact hx
  unfold State.source
  dsimp only
  exact htrough _ (fold _ (hclaims false) _ (fold _ hstock _ (fold _ (hclaims true) ⟨s, n, 0⟩ h)))

theorem Bdt.KeptByEjects.afterLock (hP : Bdt.KeptByEjects P) (d : Fin 6) (p : Nat) (h : P s.bdt) :
    P (s.afterLock d p).bdt := by
  unfold State.afterLock State.kickOut
  split
  · have hstart : (s.startMultiball p).1.bdt = (s.source p s.ballsWanted).state.bdt := by
      simp [State.startMultiball]
    exact hstart.symm ▸ hP.source p s.ballsWanted h
  · split
    · exact hP _ _ _ h
    · split
      · split
        · exact (by simp : (s.requestEject 0 1).1.ballEndCheck.bdt = (s.requestEject 0 1).1.bdt).symm ▸ hP _ _ _ h
        · exact hP _ _ _ h
      · exact h

theorem Bdt.KeptByEjects.drain (hP : Bdt.KeptByEjects P) (h : P s.bdt) : P s.drain.bdt := by
  have hsave : P s.saveStep.bdt := by
    have hreq := hP s 0 1 h
    unfold State.saveStep
    dsimp only
    split
    · split
      · exact hreq
      · exact (by simp : (((s.requestEject 0 1).1.raise .ballSaved).releaseBinding .ballSave).bdt =
          (s.requestEject 0 1).1.bdt).symm ▸ hreq
    · exact h
  exact s.saveStep.checked_bdt.symm ▸ hsave

theorem Bdt.KeptByEjects.handleEntry (hP : Bdt.KeptByEjects P) (d : Fin 6) (h : P s.bdt) : P (s.handleEntry d).bdt := by
  have hcheck : P s.ballEndCheckInPlay.bdt := (by simp : s.ballEndCheckInPlay.bdt = s.bdt).symm ▸ h
  unfold State.handleEntry State.lockEntry State.makeLock State.kickOut
  split
  · split
    · exact hP.drain h
    · exact h
  · split
    · refine hP.afterLock d _ ?_
      simpa using h
    · split
      · exact h
      · split
        · exact hcheck
        · exact hP _ _ _ h
  · split
    · exact h
    · split
      · exact hcheck
      · exact hP _ _ _ h
  · exact h

end

/-- The counts of b are those of a: what every device holds, the balls in play, the tracking state. -/
structure Bdt.SameCounts (a b : Bdt) : Prop where
  occupancy : ∀ c : Fin 6, (b.devices[c]).occupancy = (a.devices[c]).occupancy
  ballsInPlay : b.ballsInPlay = a.ballsInPlay
  tracking : b.tracking = a.tracking

theorem Bdt.SameCounts.ejects (a : Bdt) : Bdt.KeptByEjects a.SameCounts := by
  intro s d n h
  obtain ⟨-, hrest, hballs, htrack⟩ := s.requestEject_devices d n
  refine ⟨fun c => ?_, hballs.trans h.ballsInPlay, htrack.trans h.tracking⟩
  refine Eq.trans ?_ (h.occupancy c)
  by_cases hc : c = d
  · subst hc
    rcases s.requestEject_cases c n with ⟨-, he⟩ | ⟨-, -, he⟩ | ⟨-, -, he⟩ <;> rw [he]
    · exact (congrArg Device.occupancy (State.withDevice_same c _)).trans rfl
    · exact (congrArg Device.occupancy (State.withDevice_same c _)).trans rfl
  · exact congrArg Device.occupancy (hrest c hc)

/-! ### The accounting of an entry (R109) -/

/-- The state with a ball that has entered device d counted. -/
def State.counted (s : State) (d : Fin 6) : State :=
  if 0 < s.bdt.ballsInPlay then
    { s with bdt := { s.bdt with
      devices := s.bdt.devices.set d.val { s.device d with occupancy := (s.device d).occupancy + 1 } d.isLt
      ballsInPlay := s.bdt.ballsInPlay - 1 } }
  else State.raise .trackingFault { s with bdt := { s.bdt with
    devices := s.bdt.devices.set d.val { s.device d with occupancy := (s.device d).occupancy + 1 } d.isLt
    tracking := .fault } }

section
variable {s t u : State} {n : Nat} {q : Player} {d c : Fin 6} {r : Device} {x : DeviceDef} {g : Fin 16} {l : List Award}
  {st : List (Fin 12)} {e : Entry} {rest : List Entry}

theorem State.enterDevice_full (h : (s.device d).capacity ≤ (s.device d).occupancy) :
    s.enterDevice d = s.trackingFault := by
  rw [State.enterDevice, State.accountEntry, if_pos h]; rfl

theorem State.enterDevice_counted (h : (s.device d).occupancy < (s.device d).capacity) :
    s.enterDevice d = (s.counted d).handleEntry d := by
  rw [State.enterDevice, State.accountEntry, if_neg (Nat.not_le.mpr h), State.counted]
  by_cases hb : 0 < s.bdt.ballsInPlay
  · rw [if_pos hb, if_pos hb]; rfl
  · rw [if_neg hb, if_neg hb]; rfl

/-- A counted ball changes the ball picture and the pending notices alone. -/
theorem State.counted_others (s : State) (d : Fin 6) :
    s.SamePlay (s.counted d) ∧ (s.counted d).lmc = s.lmc ∧ (s.counted d).swi = s.swi ∧ (s.counted d).glk = s.glk := by
  rw [State.counted]
  split
  · exact ⟨⟨rfl, rfl, rfl, rfl, rfl, rfl, rfl⟩, rfl, rfl, rfl⟩
  · exact ⟨(State.SamePlay.refl s).then_frame, rfl, rfl, rfl⟩

theorem State.counted_devices (s : State) (d : Fin 6) : (s.counted d).bdt.devices =
    s.bdt.devices.set d.val { s.device d with occupancy := (s.device d).occupancy + 1 } d.isLt := by
  rw [State.counted]; split <;> rfl

theorem State.counted_same (s : State) (d : Fin 6) :
    (s.counted d).device d = { s.device d with occupancy := (s.device d).occupancy + 1 } := by
  rw [State.device, State.counted_devices]; exact Vector.getElem_set_self d.isLt

theorem State.counted_other (h : c ≠ d) : (s.counted d).device c = s.device c := by
  rw [State.device, State.counted_devices]; exact Vector.getElem_set_ne d.isLt c.isLt fun e => h (Fin.ext e.symm)

theorem State.counted_occupancy (s : State) (d c : Fin 6) :
    ((s.counted d).device c).occupancy = (s.device c).occupancy + (if c = d then 1 else 0) := by
  by_cases h : c = d
  · rw [if_pos h, h, State.counted_same]
  · rw [if_neg h, State.counted_other h, Nat.add_zero]

/-- What a device owes, and whether it is READY, are not the accounting's. -/
theorem State.counted_owes (s : State) (d c : Fin 6) : ((s.counted d).device c).faulted = (s.device c).faulted ∧
    ((s.counted d).device c).ejectPending = (s.device c).ejectPending ∧
    ((s.counted d).device c).definition = (s.device c).definition := by
  by_cases h : c = d
  · rw [h, State.counted_same]; exact ⟨rfl, rfl, rfl⟩
  · rw [State.counted_other h]; exact ⟨rfl, rfl, rfl⟩

theorem State.counted_ballsInPlay (s : State) (d : Fin 6) : (s.counted d).bdt.ballsInPlay = s.bdt.ballsInPlay - 1 := by
  rw [State.counted]
  split
  · rfl
  · next hb =>
    have h0 : s.bdt.ballsInPlay = 0 := Nat.eq_zero_of_not_pos hb
    exact h0.trans (by rw [h0])

theorem State.counted_tracking (s : State) (d : Fin 6) :
    (0 < s.bdt.ballsInPlay → (s.counted d).bdt.tracking = s.bdt.tracking) ∧
    (s.bdt.ballsInPlay = 0 → (s.counted d).bdt.tracking = .fault ∧ (s.counted d).hasNotice .trackingFault = true) := by
  rw [State.counted]
  split
  · exact ⟨fun _ => rfl, fun h0 => by omega⟩
  · exact ⟨fun h => absurd h ‹_›, fun _ => ⟨rfl, State.hasNotice_raise_self ..⟩⟩

theorem State.counted_endHolds (s : State) (d : Fin 6) : (s.counted d).ballEndHolds = true ↔ s.bdt.ballsInPlay ≤ 1 ∧
    ∀ c : Fin 6, (s.bdt.devices[c]).faulted = false → (s.bdt.devices[c]).ejectPending = 0 := by
  rw [State.ballEndHolds_iff, State.counted_ballsInPlay]
  refine and_congr (by omega) (forall_congr' fun c => ?_)
  obtain ⟨hf, hp, -⟩ := s.counted_owes d c
  exact iff_of_eq (congrArg₂ (fun a b => a = false → b = 0) hf hp)

theorem State.counted_readyPending (s : State) (d : Fin 6) : (s.counted d).readyPending = s.readyPending := by
  rw [State.readyPending, State.readyPending]
  congr 2
  funext c
  obtain ⟨hf, hp, -⟩ := s.counted_owes d c
  exact congrArg₂ (fun (a : Bool) (b : Nat) => if a then 0 else b) hf hp

/-- A device that has just been entered has a ball to give where it owed no more than it held. -/
theorem State.counted_adds (hd : (s.device d).definition = some x) (hf : (s.device d).faulted = false)
    (hp : (s.device d).ejectPending ≤ (s.device d).occupancy) : ((s.counted d).device d).adds 1 = 1 := by
  rw [State.counted_same]
  exact Device.adds_one (by rw [hd]; nofun) hf (Nat.lt_succ_of_le hp)

/-! ### The awards of an entry's rule (R44) -/

/-- The hit of a device entry, made where the ball scores once the entry has been handled (R44). -/
def State.awarded (s : State) (g : Fin 16) (l : List Award) (st : List (Fin 12)) : State :=
  if s.scores then s.scoreHit g 1 l st else s

theorem exec_awardEvaluation_entry (hq : s.swi.queue = e :: rest) (hl : s.lineState ≠ .held) (hc : e.cls = .deviceEntry)
    (hr : s.evl.rules[e.switch] = .deviceEntry d g l) : exec .awardEvaluation s =
      .next (((s.afterTake rest).enterDevice d).awarded g l s.mst.stack) := by
  have hrule : (s.afterTake rest).evl.rules[e.switch] = .deviceEntry d g l := hr
  rw [exec_awardEvaluation_takes hq hl, State.evaluate, hc, hrule]
  rfl

theorem exec_awardEvaluation_counts (hq : s.swi.queue = e :: rest) (hl : s.lineState ≠ .held) (hc : e.cls = .deviceEntry)
    (hr : s.evl.rules[e.switch] = .deviceEntry d g l) (hroom : (s.device d).occupancy < (s.device d).capacity) :
    exec .awardEvaluation s =
      .next ((((s.afterTake rest).counted d).handleEntry d).awarded g l s.mst.stack) := by
  rw [exec_awardEvaluation_entry hq hl hc hr, State.enterDevice_counted (s := s.afterTake rest) hroom]

theorem State.awarded_bdt (s : State) : (s.awarded g l st).bdt = s.bdt := by
  rw [State.awarded]; split <;> simp

theorem State.awarded_gpc (s : State) : (s.awarded g l st).gpc = s.gpc := by
  rw [State.awarded]; split <;> simp

theorem State.awarded_claims (s : State) : (s.awarded g l st).lmc.claims = s.lmc.claims := by
  rw [State.awarded]; split <;> simp

theorem State.awarded_notice {y : Source} (h : s.hasNotice y = true) : (s.awarded g l st).hasNotice y = true := by
  rw [State.awarded]
  split
  · next hs =>
    exact State.hasNotice_of_grows ((Keeps.refl s).scoreHit ((Keeps.refl s).ne_idle_of_scores hs)).notices h
  · exact h

theorem State.awarded_unscored (h : s.gpc.game ≠ .inPlay ∨ s.gpc.tilted = true) : s.awarded g l st = s := by
  refine if_neg fun hs => ?_
  obtain ⟨hgame, htilt⟩ := State.scores_iff.mp hs
  rcases h with h | h
  · exact h hgame
  · rw [htilt] at h; cases h

/-- A hit of the entry's group that no context claims is paid by the rule's list. -/
theorem State.awarded_unclaimed (hgame : s.gpc.game = .inPlay) (htilt : s.gpc.tilted = false)
    (h : ∀ y ∈ st, s.claims y g = false) : s.awarded g l st = l.foldl (fun t a => t.performAward 1 a) s := by
  rw [State.awarded, if_pos (State.scores_iff.mpr ⟨hgame, htilt⟩), State.scoreHit_unclaimed h]
  rfl

theorem State.EndsBall.unscored (h : s.EndsBall t n q) : t.awarded g l st = t :=
  State.awarded_unscored (.inl (by rw [h.gpc]; nofun))

/-- The notices of an accepted entry stand after its handling. -/
theorem State.handleEntry_notice {y : Source} (h : (s.counted d).hasNotice y = true) :
    ((s.counted d).handleEntry d).hasNotice y = true :=
  State.hasNotice_of_grows (Keeps.refl (s.counted d)).handleEntry.notices h

/-! ### The kick-out (R110, R132) -/

/-- A ball that makes no lock: kept outside a game and by a FAULTED device, kicked out by a READY one (R110, R132). -/
def State.keepOrKick (s : State) (d : Fin 6) : State :=
  if s.gpc.game.inProgress = false then s
  else if (s.device d).faulted then s.ballEndCheckInPlay
  else s.kickOut d

theorem State.handleEntry_scoop (hd : (s.device d).definition = some x) (hk : x.kind = .scoop) :
    s.handleEntry d = s.keepOrKick d := by
  simp only [State.handleEntry, hd, Option.map_some, hk, State.keepOrKick]

theorem State.handleEntry_lock {a b : Bool} (hd : (s.device d).definition = some x) (hk : x.kind = .lock a b) :
    s.handleEntry d = s.lockEntry d := by
  simp only [State.handleEntry, hd, Option.map_some, hk]

theorem State.handleEntry_trough (hd : (s.device d).definition = some x) (hk : x.kind = .trough)
    (hgame : s.gpc.game = .inPlay) : s.handleEntry d = s.drain := by
  simp only [State.handleEntry, hd, Option.map_some, hk, if_pos hgame]

theorem State.makesLock_iff : s.makesLock d = true ↔ s.gpc.game = .inPlay ∧ s.gpc.tilted = false ∧
    (s.device d).faulted = false ∧ s.lmc.multiball = false ∧ ∃ q, s.player? s.currentPlayer = some q ∧ 0 < q.locksLit := by
  cases hp : s.player? s.currentPlayer with
  | none => simp [State.makesLock, hp]
  | some q => simp [State.makesLock, State.scores, hp, and_assoc]

theorem State.keepOrKick_kept (h : s.gpc.game = .idle ∨ s.gpc.game = .gameOver ∨ (s.device d).faulted = true) :
    (s.keepOrKick d).bdt = s.bdt := by
  rw [State.keepOrKick]
  split
  · rfl
  · next hgame =>
    rw [if_pos]
    · simp
    · refine (h.resolve_left fun he => hgame ?_).resolve_left fun he => hgame ?_
      all_goals rw [he]; rfl

theorem State.keepOrKick_kicks (hi : s.gpc.game ≠ .idle) (ho : s.gpc.game ≠ .gameOver)
    (hf : (s.device d).faulted = false) : s.keepOrKick d = (s.requestEject d 1).1 := by
  rw [State.keepOrKick, GameState.inProgress_eq_true_iff.mpr ⟨hi, ho⟩, hf]
  rfl

theorem State.keepOrKick_checks (hgame : s.gpc.game = .inPlay) (hf : (s.device d).faulted = true) :
    s.keepOrKick d = s.ballEndCheck := by
  rw [State.keepOrKick, hgame, hf, State.ballEndCheckInPlay, if_pos hgame]
  rfl

theorem Device.room (hd : r.definition = some x) (h : r.occupancy < x.capacity) : r.occupancy < r.capacity := by
  simpa [Device.capacity, hd] using h

theorem State.SamePlay.player (h : s.SamePlay t) : t.player? t.currentPlayer = s.player? s.currentPlayer := by
  simp only [State.player?, State.currentPlayer, h.gpc, h.ptb]

theorem State.afterTake_play (s : State) (rest : List Entry) : s.SamePlay (s.afterTake rest) :=
  ⟨rfl, rfl, rfl, rfl, rfl, rfl, rfl⟩

/-- The play stands while the ball taken from the queue is counted. -/
theorem State.taken_play (s : State) (rest : List Entry) (d : Fin 6) : s.SamePlay ((s.afterTake rest).counted d) :=
  (s.afterTake_play rest).trans ((s.afterTake rest).counted_others d).1

theorem State.taken_lmc (s : State) (rest : List Entry) (d : Fin 6) : ((s.afterTake rest).counted d).lmc = s.lmc := by
  obtain ⟨-, h, -⟩ := (s.afterTake rest).counted_others d
  exact h

/-- The accounting of an entry taken from the queue, whatever its handling and its awards do (R109). -/
theorem State.entry_counts (hroom : (s.device d).occupancy < (s.device d).capacity) (hu : u = s.enterDevice d) :
    (∀ c : Fin 6, (u.device c).occupancy = (s.device c).occupancy + (if c = d then 1 else 0)) ∧
    u.bdt.ballsInPlay = s.bdt.ballsInPlay - 1 ∧ (0 < s.bdt.ballsInPlay → u.bdt.tracking = s.bdt.tracking) ∧
    (s.bdt.ballsInPlay = 0 → u.bdt.tracking = .fault ∧ u.hasNotice .trackingFault = true) := by
  rw [State.enterDevice_counted hroom] at hu
  subst hu
  have hcounts := (Bdt.SameCounts.ejects (s.counted d).bdt).handleEntry d ⟨fun _ => rfl, rfl, rfl⟩
  obtain ⟨hkeeps, hfault⟩ := s.counted_tracking d
  refine ⟨fun c => (hcounts.occupancy c).trans (s.counted_occupancy d c), hcounts.ballsInPlay.trans (s.counted_ballsInPlay d),
    fun h => hcounts.tracking.trans (hkeeps h), fun h => ⟨hcounts.tracking.trans (hfault h).1,
      State.handleEntry_notice (hfault h).2⟩⟩

theorem State.handleEntry_unmade (hd : (s.device d).definition = some x) (hk : x.kind = .scoop ∨ ∃ a b, x.kind = .lock a b ∧
    (s.gpc.game ≠ .inPlay ∨ s.gpc.tilted = true ∨ (s.device d).faulted = true ∨ s.lmc.multiball = true ∨
      ∀ q : Player, s.player? s.currentPlayer = some q → q.locksLit = 0)) : s.handleEntry d = s.keepOrKick d := by
  rcases hk with hk | ⟨a, b, hk, hnot⟩
  · exact State.handleEntry_scoop hd hk
  · rw [State.handleEntry_lock hd hk, State.lockEntry, if_neg]
    · rfl
    · intro hmade
      obtain ⟨hgame, htilt, hf, hm, q, hq, hlit⟩ := State.makesLock_iff.mp hmade
      rcases hnot with h | h | h | h | h
      · exact h hgame
      · rw [h] at htilt; cases htilt
      · rw [h] at hf; cases hf
      · rw [h] at hm; cases hm
      · exact absurd (h q hq) (Nat.ne_of_gt hlit)

/-- A ball kept in IN_PLAY by a FAULTED device ends the ball where none is left in play or owed (R110, R171). -/
theorem State.keptBall_ends (hlaw : s.Lawful) (hgame : s.gpc.game = .inPlay) (hf : (s.device d).faulted = true)
    (hcur : s.gpc.current = some (n + 1)) (hq : s.ptb.players[n]? = some q) (hballs : s.bdt.ballsInPlay ≤ 1)
    (hall : ∀ c : Fin 6, (s.bdt.devices[c]).faulted = false → (s.bdt.devices[c]).ejectPending = 0) :
    s.EndsBall (((s.afterTake rest).counted d).keepOrKick d) n q := by
  have hplay := s.taken_play rest d
  have hends : ((s.afterTake rest).counted d).ballEndHolds = true :=
    ((s.afterTake rest).counted_endHolds d).mpr ⟨hballs, hall⟩
  have hfault : (((s.afterTake rest).counted d).device d).faulted = true := ((s.afterTake rest).counted_owes d d).1.trans hf
  rw [State.keepOrKick_checks (by rw [hplay.gpc]; exact hgame) hfault, State.ballEndCheck_ends hends]
  exact hplay.ballEnd hlaw (by rw [hgame]; nofun) hcur hq

/-- A ball kept in IN_PLAY while a ball is in play or owed lets the ball go on (R110). -/
theorem State.keptBall_goesOn (hgame : s.gpc.game = .inPlay) (hf : (s.device d).faulted = true)
    (h : 1 < s.bdt.ballsInPlay ∨ ∃ c : Fin 6, (s.bdt.devices[c]).faulted = false ∧ (s.bdt.devices[c]).ejectPending ≠ 0) :
    (((s.afterTake rest).counted d).keepOrKick d).gpc = s.gpc := by
  have hplay := s.taken_play rest d
  have hstays : ¬ ((s.afterTake rest).counted d).ballEndHolds = true := fun hends => by
    obtain ⟨hballs, hall⟩ := ((s.afterTake rest).counted_endHolds d).mp hends
    rcases h with h | ⟨c, hc, hp⟩
    · exact absurd hballs (Nat.not_le.mpr h)
    · exact hp (hall c hc)
  rw [State.keepOrKick_checks (by rw [hplay.gpc]; exact hgame) (((s.afterTake rest).counted_owes d d).1.trans hf),
    State.ballEndCheck, if_neg hstays]
  exact hplay.gpc

/-- The ball kicked out: the entered device owes one ball more (R110, R116, R132). -/
theorem State.kickedBall (hd : (s.device d).definition = some x) (hi : s.gpc.game ≠ .idle) (ho : s.gpc.game ≠ .gameOver)
    (hf : (s.device d).faulted = false) (hp : (s.device d).ejectPending ≤ (s.device d).occupancy)
    (hu : u = (s.counted d).keepOrKick d) :
    ((s.device d).ejectPending = 0 → u.hasNotice (.ejectReq d) = true ∧ u.device d = { s.device d with
      occupancy := (s.device d).occupancy + 1, ejectPending := 1, retries := 0, ejectTimer := some x.timeout }) ∧
    ((s.device d).ejectPending ≠ 0 → u.device d = { s.device d with
      occupancy := (s.device d).occupancy + 1, ejectPending := (s.device d).ejectPending + 1 }) := by
  have hplay := (s.counted_others d).1
  have hone := State.counted_adds hd hf hp
  obtain ⟨hfault, hpend, -⟩ := s.counted_owes d d
  rw [State.keepOrKick_kicks (by rw [hplay.gpc]; exact hi) (by rw [hplay.gpc]; exact ho) (hfault.trans hf)] at hu
  refine ⟨fun h0 => ?_, fun h0 => ?_⟩
  · rw [hu, State.requestEject_starts (hone.symm ▸ Nat.one_pos) (hpend.trans h0), hone]
    refine ⟨State.hasNotice_raise_self .., (State.withDevice_same d _).trans ?_⟩
    rw [State.counted_same, Device.timeout, hd]
    rfl
  · rw [hu, State.requestEject_joins (hone.symm ▸ Nat.one_pos) (fun he => h0 (hpend.symm.trans he)), hone]
    refine (State.withDevice_same d _).trans ?_
    rw [State.counted_same]

end

/-- Settles O34. -/
theorem ballEntriesAreCountedAndKickedOut : Obligations.BallEntriesAreCountedAndKickedOut := by
  unfold Obligations.BallEntriesAreCountedAndKickedOut
  refine ⟨fun s e rest d g l r hq hl hc hrule hr => ?accounting,
    fun s e rest d g l r x hq hl hc hrule hr hd hroom hp hk => ?_⟩
  case accounting =>
    subst hr
    refine ⟨_, exec_awardEvaluation_entry hq hl hc hrule, fun hfull => ?_, fun hroom => ?_⟩
    · rw [State.awarded_bdt, State.awarded_claims]
      have hfault : (s.afterTake rest).enterDevice d = (s.afterTake rest).trackingFault := State.enterDevice_full hfull
      refine ⟨by rw [hfault]; rfl, by rw [hfault]; rfl, State.awarded_notice ?_⟩
      rw [hfault]
      exact State.hasNotice_raise_self ..
    · rw [State.awarded_bdt]
      obtain ⟨hocc, hballs, hkeeps, hfault⟩ := State.entry_counts (s := s.afterTake rest) hroom rfl
      exact ⟨hocc, hballs, hkeeps, fun h => ⟨(hfault h).1, State.awarded_notice (hfault h).2⟩⟩
  have hdev : (s.afterTake rest).device d = r := hr
  have hplay := s.taken_play rest d
  obtain ⟨hfault, -, hdef⟩ := (s.afterTake rest).counted_owes d d
  rw [hdev] at hfault hdef
  have hhandle : ((s.afterTake rest).counted d).handleEntry d = ((s.afterTake rest).counted d).keepOrKick d := by
    refine State.handleEntry_unmade (hdef.trans hd) ?_
    rw [hplay.player, hfault, hplay.gpc, hplay.multiball]
    exact hk
  have hexec := exec_awardEvaluation_counts hq hl hc hrule (by rw [State.device, hr]; exact Device.room hd hroom)
  rw [hhandle] at hexec
  refine ⟨_, hexec, fun hkept => ?_, fun hi ho hf => ?_, fun n q hgame hf hcur hq hm ht => ⟨fun hballs hall => ?_,
    fun hleft => ?_⟩⟩
  · rw [State.awarded_bdt, State.keepOrKick_kept (by rw [hfault, hplay.gpc]; exact hkept)]
    exact ((s.afterTake rest).counted_same d).trans (by rw [hdev])
  · obtain ⟨hstarts, hjoins⟩ := State.kickedBall (s := s.afterTake rest) (by rw [hdev]; exact hd) hi ho
      (by rw [hdev]; exact hf) (by rw [hdev]; exact hp) rfl
    rw [hdev] at hstarts hjoins
    rw [State.awarded_bdt]
    exact ⟨fun h0 => ⟨State.awarded_notice (hstarts h0).1, (hstarts h0).2⟩, hjoins⟩
  · have hends := State.keptBall_ends (rest := rest) (.of_laws hm ht (.inr hgame)) hgame (hdev ▸ hf) hcur hq hballs hall
    rw [hends.unscored]
    exact hends.ballEnds
  · rw [State.awarded_gpc]
    exact State.keptBall_goesOn hgame (hdev ▸ hf) hleft

end Sys2Proof.Machine
end

section
/-! PROOFS. What the hit of a device entry leaves alone: multiball, and that no ball save is held (R47 to R53). -/

namespace Sys2Proof.Machine

section
variable {s t u : State} {x : Fin 12} {v : Fin 16} {c : Context} {tm : Template} {g : Fin 16} {k n : Nat}
  {l : List Award}

/-! ### Multiball runs on -/

@[simp] theorem State.collectJackpot_multiball (b : Bool) : (s.collectJackpot b).lmc.multiball = s.lmc.multiball := by
  unfold State.collectJackpot
  split <;> simp

@[simp] theorem State.performAward_multiball (k : Nat) (a : Award) :
    (s.performAward k a).lmc.multiball = s.lmc.multiball := by
  cases a <;> simp [State.performAward]

@[simp] theorem State.baseAwards_multiball (k : Nat) (l : List Award) :
    (s.baseAwards k l).lmc.multiball = s.lmc.multiball :=
  foldl_keeps (fun t : State => t.lmc.multiball = s.lmc.multiball) _ (fun t a h => by simpa using h) l s rfl

@[simp] theorem State.scoreHit_multiball (g : Fin 16) (k : Nat) (l : List Award) (a : List (Fin 12)) :
    (s.scoreHit g k l a).lmc.multiball = s.lmc.multiball := by
  unfold State.scoreHit
  dsimp only
  split <;> simp

theorem State.awarded_multiball {st : List (Fin 12)} (s : State) :
    (s.awarded g l st).lmc.multiball = s.lmc.multiball := by
  rw [State.awarded]; split <;> simp

/-! ### No ball save is given -/

/-- No timer is bound to ball save. -/
def State.Saveless (s : State) : Prop :=
  ∀ (v : Fin 16) (r : Timer), s.tmu.timers[v] = some r → r.binding ≠ .ballSave

theorem State.saveless_iff : s.Saveless ↔ s.ballSaveActive = false := by
  rw [State.ballSaveActive, Option.isSome_eq_false_iff, Option.isNone_iff_eq_none, State.boundTimer?_eq_none]
  rfl

theorem State.Saveless.then_frame (h : s.Saveless) (ht : t.tmu = s.tmu := by simp) : t.Saveless := by
  rw [State.Saveless, ht]; exact h

theorem State.Saveless.setTimer {o : Option Timer} (h : s.Saveless) (ho : ∀ r, o = some r → r.binding ≠ .ballSave) :
    (s.setTimer v o).Saveless := by
  intro w r hw
  by_cases hwv : w = v
  · subst hwv
    exact ho r ((Vector.getElem_set_self w.isLt).symm.trans hw)
  · exact h w r ((Vector.getElem_set_ne v.isLt w.isLt fun e => hwv (Fin.ext e.symm)).symm.trans hw)

theorem State.Saveless.releaseBinding (s : State) : (s.releaseBinding .ballSave).Saveless := by
  intro v r hv
  rw [State.releaseBinding_timerAt] at hv
  obtain ⟨r', -, hr⟩ := Option.bind_eq_some_iff.mp hv
  split at hr
  · cases hr
  · next hb => cases hr; exact hb

theorem State.Saveless.modifyHeld {o : Option (Fin 16)} {f : Timer → Timer} (h : s.Saveless)
    (hf : ∀ r, (f r).binding = r.binding) : (s.modifyHeld o f).Saveless := by
  cases o with
  | none => exact h
  | some v =>
    refine h.setTimer fun r hr => ?_
    obtain ⟨q, hq, rfl⟩ := Option.map_eq_some_iff.mp hr
    rw [hf]
    exact h v q hq

theorem State.Saveless.releaseHeld {o : Option (Fin 16)} (h : s.Saveless) : (s.releaseHeld o).Saveless := by
  cases o with
  | none => exact h
  | some v => exact h.setTimer nofun

theorem State.Saveless.enterRunning (h : s.Saveless) : (s.enterRunning x).Saveless :=
  State.Saveless.modifyHeld (State.Saveless.then_frame h rfl) fun r => by rw [Timer.thaw]; split <;> rfl

theorem State.Saveless.enterPaused (h : s.Saveless) : (s.enterPaused x).Saveless :=
  State.Saveless.modifyHeld (h.then_frame rfl) fun r => by rw [Timer.freeze]; split <;> rfl

theorem State.Saveless.returnPaused {gr : Fin 8} (h : s.Saveless) : (s.returnPaused n gr).Saveless := by
  unfold State.returnPaused
  split
  · exact h
  · split
    · exact h.enterRunning
    · exact h

theorem State.Saveless.endContext {why : EndReason} {b : Bool} (h : s.Saveless) : (s.endContext x why b).Saveless := by
  unfold State.endContext
  split
  · exact h
  · next c _ =>
    dsimp only
    have hleft : ((s.releaseHeld c.timer).leaveLists x).Saveless := h.releaseHeld.then_frame rfl
    split
    · split
      · exact hleft.returnPaused.then_frame rfl
      · exact hleft.then_frame rfl
    · exact h

theorem State.Saveless.takeTimer {o : Option (Fin 16)} (h : s.Saveless) : (s.takeTimer x tm o n).Saveless := by
  cases o with
  | none => exact h
  | some v =>
    refine (h.setTimer (v := v) (o := some (tm.timer x (tm.period?.getD 0) n)) fun r hr => ?_).then_frame rfl
    cases hr
    rw [Template.timer, Template.binding]
    split <;> nofun

theorem State.Saveless.setUp {o : Option (Fin 16)} {i : Fin 32} (h : s.Saveless) : (s.setUp x o i tm).Saveless := by
  have hslot : State.Saveless (State.setSlot { s with mst := { s.mst with ended := s.mst.ended.erase x } } x
      (some (newContext i tm s.currentPlayer))) := State.Saveless.then_frame h rfl
  exact hslot.takeTimer.enterRunning.then_frame (State.raise_tmu ..)

theorem State.Saveless.startNew {i : Fin 32} (h : s.Saveless) : (s.startNew i tm).1.Saveless := by
  unfold State.startNew
  split
  · exact h
  · split
    · exact h
    · split
      · exact h.setUp
      · split
        · exact h
        · exact h.enterPaused.setUp

theorem State.Saveless.resumeByStart (h : s.Saveless) : (s.resumeByStart x c tm).1.Saveless := by
  unfold State.resumeByStart
  split
  · exact h.endContext
  · dsimp only
    split
    · exact h.takeTimer.enterRunning.then_frame rfl
    · split
      · exact h.takeTimer.enterPaused.then_frame rfl
      · exact h.takeTimer.enterPaused.enterRunning.then_frame rfl

theorem State.Saveless.startStanding (h : s.Saveless) : (s.startStanding x c tm).1.Saveless := by
  unfold State.startStanding
  split
  · exact h.resumeByStart
  · split
    · exact h.modifyHeld fun _ => rfl
    · exact h

theorem State.Saveless.startMode {i : Fin 32} (h : s.Saveless) : (s.startMode i).1.Saveless := by
  unfold State.startMode
  split
  · exact h
  · split
    · exact h
    · split
      · exact h
      · split
        · exact h
        · split
          · split
            · exact h.startStanding
            · exact h
          · exact h.startNew

theorem State.Saveless.autoStart {i : Fin 32} (h : s.Saveless) : (s.autoStart i).Saveless := by
  have hstart := h.startMode (i := i)
  unfold State.autoStart
  split
  · next heq =>
    rw [heq] at hstart
    exact hstart.then_frame rfl
  · next heq =>
    rw [heq] at hstart
    exact hstart

theorem State.Saveless.startNext {o : Option (Fin 32)} (h : s.Saveless) : (s.startNext o).Saveless := by
  cases o with
  | none => exact h
  | some i => exact h.autoStart

theorem State.Saveless.claimShot {f : ShotFields} (h : s.Saveless) : (s.claimShot x c tm f k).Saveless := by
  have hpaid : (s.payContext x c tm c.value k).Saveless := h.then_frame (by simp [State.payContext])
  unfold State.claimShot
  dsimp only
  split
  · unfold State.complete
    refine (State.Saveless.endContext (h.then_frame ?_)).startNext
    simp [State.payContext]
  · split
    · exact State.Saveless.modifyHeld (hpaid.then_frame rfl) fun _ => rfl
    · exact hpaid.then_frame rfl

theorem State.Saveless.collect (h : s.Saveless) : (s.collect x c tm k).Saveless := by
  unfold State.collect
  refine (State.Saveless.endContext (h.then_frame ?_)).startNext
  simp [State.payContext]

theorem State.Saveless.claimHit (h : s.Saveless) : (s.claimHit x k).1.Saveless := by
  unfold State.claimHit
  split
  · split
    · exact h.claimShot
    · exact h.claimShot
    · exact h.collect
  · exact h

theorem State.Saveless.walk {alive st : List (Fin 12)} (h : s.Saveless) : (s.walk g k alive st).1.Saveless := by
  induction st generalizing s alive with
  | nil => exact h
  | cons y st ih =>
    unfold State.walk
    split
    · split
      · exact h.claimHit
      · exact ih h.claimHit
    · exact ih h

theorem State.Saveless.counterActions {a : CounterAction} (h : s.Saveless) : (s.counterActions a n).Saveless := by
  induction n generalizing s with
  | zero => exact h
  | succ n ih =>
    refine ih ?_
    cases a with
    | startMode i => exact h.autoStart
    | _ => exact h.then_frame (by simp [State.counterAction])

theorem State.Saveless.performAward {a : Award} (h : s.Saveless) : (s.performAward k a).Saveless := by
  cases a with
  | advance r =>
    rw [State.performAward, State.advanceCounter]
    dsimp only
    split
    · exact h
    · refine State.Saveless.counterActions (h.then_frame ?_)
      split <;> simp
  | startMode i => exact h.autoStart
  | _ => exact h.then_frame (by simp [State.performAward])

theorem State.Saveless.awarded {st : List (Fin 12)} (h : s.Saveless) : (s.awarded g l st).Saveless := by
  unfold State.awarded State.scoreHit
  dsimp only
  split
  · split
    · exact h.walk
    · exact foldl_keeps State.Saveless _ (fun _ _ h => h.performAward) l _ h.walk
  · exact h

end

end Sys2Proof.Machine
end

section
/-! PROOFS. Drains: the ball save, the multiball check, the ball end (R111, R140, R171): O36 and O37. -/

namespace Sys2Proof.Machine

section
variable {s t u : State} {n : Nat} {q : Player} {d c : Fin 6} {r : Device} {x : DeviceDef} {g : Fin 16} {l : List Award}
  {st : List (Fin 12)} {e : Entry} {rest : List Entry} {y : Fin 12}

/-! ### The contexts of the stack claim what they claimed -/

theorem State.KeepsKind.endMbOnly (s : State) : State.KeepsKind y s s.endMbOnly := by
  have hused (v : State) : State.KeepsKind y v { v with freeUse := v.freeUse + 1 } := .of_mst rfl
  have hended : State.KeepsKind y s (s.endAll (fun s slot => s.isLive slot &&
      ((s.slotTemplate? slot).map Template.mbOnly).getD false) .mbEnded) := by
    refine foldl_keeps (State.KeepsKind y s) _ (fun v z h => ?_) _ _ (.refl s)
    split
    · exact h.trans (.endContext ..)
    · exact h
  unfold State.endMbOnly
  dsimp only
  generalize s.endAll _ .mbEnded = u at hended
  exact (foldl_keeps (State.KeepsKind y s) _ (fun v gr h => h.trans (.returnPaused ..)) _ _ hended).trans (hused _)

/-- The end of multiball changes the template of no slot, so no context's claims (R47, R96). -/
theorem State.KeepsKind.multiballCheck (s : State) : State.KeepsKind y s s.multiballCheck := by
  unfold State.multiballCheck
  split
  · have hoff : State.KeepsKind y s { s with lmc := { s.lmc with multiball := false } } := .of_mst rfl
    exact (hoff.trans (.endMbOnly _)).trans (.of_mst (State.raise_mst ..))
  · exact .refl s

theorem State.multiballCheck_unclaimed (hs : s.SamePlay u) (h : ∀ y ∈ st, s.claims y g = false) :
    ∀ y ∈ st, u.multiballCheck.claims y g = false := fun y hy =>
  (((State.KeepsKind.of_mst hs.mst).trans (.multiballCheck u)).claims g).trans (h y hy)

/-! ### The ball save -/

theorem State.SamePlay.ballSave (h : s.SamePlay u) : u.ballSaveActive = s.ballSaveActive := by
  simp only [State.ballSaveActive, State.boundTimer?, h.tmu]

theorem State.saveStep_unsaved (h : s.gpc.tilted = true ∨ (s.device 0).faulted = true ∨ s.ballSaveActive = false) :
    s.saveStep = s := by
  refine if_neg fun ⟨hsave, htilt, hf⟩ => ?_
  rcases h with h | h | h
  · rw [h] at htilt; cases htilt
  · rw [h] at hf; cases hf
  · rw [h] at hsave; cases hsave

/-- The state in which the saved ball is asked back and the save reported. -/
def State.relaunched (s : State) : State := (s.requestEject 0 1).1.raise .ballSaved

theorem State.saveStep_saved (hsave : s.ballSaveActive = true) (htilt : s.gpc.tilted = false)
    (hf : (s.device 0).faulted = false) : s.saveStep =
      if s.lmc.multiball then s.relaunched else s.relaunched.releaseBinding .ballSave := by
  have hlmc : ((s.requestEject 0 1).1.raise .ballSaved).lmc = s.lmc := by simp
  rw [State.saveStep, if_pos ⟨hsave, htilt, hf⟩]
  dsimp only
  rw [hlmc]
  rfl

/-- The save step changes the trough's record, the notices and, where the save is consumed, its timer. -/
theorem State.saveStep_records (s : State) : s.saveStep.mst = s.mst ∧ s.saveStep.ptb = s.ptb ∧ s.saveStep.gpc = s.gpc ∧
    s.saveStep.lmc = s.lmc ∧ (s.lmc.multiball = true → s.saveStep.tmu = s.tmu) := by
  by_cases h : s.ballSaveActive = true ∧ s.gpc.tilted = false ∧ (s.device 0).faulted = false
  · obtain ⟨hsave, htilt, hf⟩ := h
    rw [State.saveStep_saved hsave htilt hf]
    have hrec : s.relaunched.mst = s.mst ∧ s.relaunched.ptb = s.ptb ∧ s.relaunched.gpc = s.gpc ∧
        s.relaunched.lmc = s.lmc ∧ s.relaunched.tmu = s.tmu := by simp [State.relaunched]
    obtain ⟨hmst, hptb, hgpc, hlmc, htmu⟩ := hrec
    generalize s.relaunched = u at hmst hptb hgpc hlmc htmu ⊢
    by_cases hm : s.lmc.multiball = true
    · simp only [if_pos hm]
      exact ⟨hmst, hptb, hgpc, hlmc, fun _ => htmu⟩
    · simp only [if_neg hm, State.releaseBinding_mst, State.releaseBinding_ptb, State.releaseBinding_gpc,
        State.releaseBinding_lmc]
      exact ⟨hmst, hptb, hgpc, hlmc, fun h => absurd h hm⟩
  · rw [show s.saveStep = s from if_neg h]
    exact ⟨rfl, rfl, rfl, rfl, fun _ => rfl⟩

theorem State.saveStep_bdt (hsave : s.ballSaveActive = true) (htilt : s.gpc.tilted = false)
    (hf : (s.device 0).faulted = false) : s.saveStep.bdt = (s.requestEject 0 1).1.bdt := by
  have hbdt : s.relaunched.bdt = (s.requestEject 0 1).1.bdt := by rw [State.relaunched, State.raise_bdt]
  rw [State.saveStep_saved hsave htilt hf, ← hbdt]
  generalize s.relaunched = u
  split <;> rfl

theorem State.saveStep_notice (hsave : s.ballSaveActive = true) (htilt : s.gpc.tilted = false)
    (hf : (s.device 0).faulted = false) : s.saveStep.hasNotice .ballSaved = true ∧
      ∀ z, (s.requestEject 0 1).1.hasNotice z = true → s.saveStep.hasNotice z = true := by
  have hself : s.relaunched.hasNotice .ballSaved = true := State.hasNotice_raise_self ..
  have hgrows (z : Source) (h : (s.requestEject 0 1).1.hasNotice z = true) : s.relaunched.hasNotice z = true :=
    State.hasNotice_raise_of h
  rw [State.saveStep_saved hsave htilt hf]
  generalize s.relaunched = u at hself hgrows ⊢
  by_cases hm : s.lmc.multiball = true
  · simp only [if_pos hm]
    exact ⟨hself, hgrows⟩
  · simp only [if_neg hm, State.hasNotice, State.releaseBinding_ntu]
    exact ⟨hself, hgrows⟩

/-! ### What READY devices owe -/

/-- One device's owed balls changed, the sum of the READY devices follows them. -/
theorem State.readyPending_changed (hother : ∀ c : Fin 6, c ≠ d → t.device c = s.device c)
    (hs : (s.device d).faulted = false) (ht : (t.device d).faulted = false) :
    t.readyPending + (s.device d).ejectPending = s.readyPending + (t.device d).ejectPending := by
  have hsum (v : State) (hv : (v.device d).faulted = false) : v.readyPending = (v.device d).ejectPending +
      ∑ c ∈ Finset.univ.erase d, if (v.device c).faulted then 0 else (v.device c).ejectPending := by
    have hd : (v.device d).ejectPending = if (v.device d).faulted then 0 else (v.device d).ejectPending := by rw [hv]; rfl
    rw [hd, Finset.add_sum_erase _ (fun c => if (v.device c).faulted then 0 else (v.device c).ejectPending)
      (Finset.mem_univ d), Fin.sum_univ_def]
    rfl
  rw [hsum t ht, hsum s hs, Finset.sum_congr rfl fun c hc => by rw [hother c (Finset.ne_of_mem_erase hc)]]
  omega

theorem State.requestEject_readyPending (hf : (s.device d).faulted = false) (hone : (s.device d).adds n = n) :
    (s.requestEject d n).1.readyPending = s.readyPending + n := by
  obtain ⟨hpend, hrest, -, -⟩ := s.requestEject_devices d n
  have h := State.readyPending_changed hrest hf ((s.requestEject_faulted d d n).trans hf)
  omega

/-! ### The drain (R111) -/

theorem State.checked_stays (h : 0 < s.bdt.ballsInPlay + s.readyPending) :
    s.multiballCheck.ballEndCheck = s.multiballCheck := by
  refine if_neg fun hend => ?_
  simp only [State.ballEndHolds, State.readyPending, State.multiballCheck_frame, Bool.and_eq_true, decide_eq_true_eq] at hend
  obtain ⟨hb, hp⟩ := hend
  rw [State.readyPending, hb, hp] at h
  exact absurd h (Nat.lt_irrefl 0)

/-- A drain that is counted and not saved is checked for multiball and for the ball end. -/
theorem exec_awardEvaluation_drains (hq : s.swi.queue = e :: rest) (hl : s.lineState ≠ .held) (hc : e.cls = .deviceEntry)
    (hrule : s.evl.rules[e.switch] = .deviceEntry 0 g l) (hd : (s.device 0).definition = some x) (hk : x.kind = .trough)
    (hroom : (s.device 0).occupancy < x.capacity) (hgame : s.gpc.game = .inPlay) : exec .awardEvaluation s =
      .next ((((s.afterTake rest).counted 0).drain).awarded g l s.mst.stack) := by
  have hplay := s.taken_play rest 0
  obtain ⟨-, -, hdef⟩ := (s.afterTake rest).counted_owes 0 0
  rw [exec_awardEvaluation_counts hq hl hc hrule (Device.room hd hroom),
    State.handleEntry_trough (hdef.trans hd) hk (by rw [hplay.gpc]; exact hgame)]

/-- The drain taken is not saved where s held no ball save, was tilted or had the trough FAULTED. -/
theorem State.taken_unsaved (rest : List Entry)
    (h : s.gpc.tilted = true ∨ (s.device 0).faulted = true ∨ s.ballSaveActive = false) :
    ((s.afterTake rest).counted 0).drain = ((s.afterTake rest).counted 0).multiballCheck.ballEndCheck := by
  have hplay := s.taken_play rest 0
  obtain ⟨hf, -, -⟩ := (s.afterTake rest).counted_owes 0 0
  rw [State.drain, State.saveStep_unsaved]
  rw [hplay.gpc, hf, hplay.ballSave]
  exact h

theorem State.taken_balls (s : State) (rest : List Entry) (d : Fin 6) :
    ((s.afterTake rest).counted d).bdt.ballsInPlay + ((s.afterTake rest).counted d).readyPending =
      s.bdt.ballsInPlay - 1 + s.readyPending := by
  rw [State.counted_ballsInPlay, State.counted_readyPending]
  rfl

/-- Every context the player had in RUNNING or PAUSED stands closed after the ball end; one that is carried is not
in the ended list. -/
theorem State.EndsBall.contexts (h : s.EndsBall t n q) {c : Context} {tm : Template} (hc : s.mst.slots[y] = some c)
    (hlive : s.isLive y = true) (htm : s.mst.templates[c.template] = some tm) :
    t.mst.slots[y] = some (c.closed tm s.gpc.tilted (s.remainingOf c)) ∧
    (tm.carries = true → tm.mbOnly = false → s.gpc.tilted = false → y ∉ t.mst.ended) := by
  have hclosed := h.context y c tm hc ((State.isLive_eq hc).symm.trans hlive) htm
  refine ⟨hclosed, fun hcarry hmb htilt hmem => ?_⟩
  obtain ⟨c', hc', hstands⟩ := (h.fits.ended y).mp hmem
  cases hclosed.symm.trans hc'
  rw [Context.closed, hmb, htilt, hcarry] at hstands
  exact absurd (show Phase.parked.stands = false from hstands) (by decide)

/-- The last ball's drain, not saved, ends the ball, and its rule's awards are not paid (R44, R111, R171). -/
theorem State.lastDrain_ends (rest : List Entry) (hlaw : s.Lawful) (hgame : s.gpc.game = .inPlay)
    (hsave : s.gpc.tilted = true ∨ (s.device 0).faulted = true ∨ s.ballSaveActive = false)
    (hballs : s.bdt.ballsInPlay ≤ 1)
    (hall : ∀ d : Fin 6, (s.bdt.devices[d]).faulted = false → (s.bdt.devices[d]).ejectPending = 0)
    (hcur : s.gpc.current = some (n + 1)) (hq : s.ptb.players[n]? = some q)
    (hu : u = ((s.afterTake rest).counted 0).drain.awarded g l st) :
    s.EndsBall u n q ∧ u.bdt = ((s.afterTake rest).counted 0).bdt ∧ u.lmc.claims = s.lmc.claims := by
  have hplay := s.taken_play rest 0
  obtain ⟨-, hlmc, -, -⟩ := (s.afterTake rest).counted_others 0
  have hends : ((s.afterTake rest).counted 0).ballEndHolds = true :=
    ((s.afterTake rest).counted_endHolds 0).mpr ⟨hballs, hall⟩
  have hend := hplay.checkedBallEnd hlaw hends (by rw [hgame]; nofun) hcur hq
  rw [State.taken_unsaved rest hsave, hend.unscored] at hu
  subst hu
  exact ⟨hend, State.checked_bdt _, (State.checked_claims _).trans (by rw [hlmc]; rfl)⟩

/-- The awards that follow a drain which leaves the game IN_PLAY: none on a tilted ball, else the rule's list (R44, R48). -/
theorem State.drained_awards (hs : s.SamePlay u) (hgame : s.gpc.game = .inPlay)
    (h : s.gpc.tilted = true ∨ ∀ y ∈ st, s.claims y g = false) : u.multiballCheck.awarded g l st =
      if s.gpc.tilted then u.multiballCheck else l.foldl (fun t a => t.performAward 1 a) u.multiballCheck := by
  have hgpc : u.multiballCheck.gpc = s.gpc := (by simp : u.multiballCheck.gpc = u.gpc).trans hs.gpc
  cases htilt : s.gpc.tilted with
  | true => exact State.awarded_unscored (.inr (by rw [hgpc, htilt]))
  | false =>
    have hclaims := State.multiballCheck_unclaimed hs (h.resolve_left (by rw [htilt]; nofun))
    exact State.awarded_unclaimed (by rw [hgpc, hgame]) (by rw [hgpc, htilt]) hclaims

/-- A drain of multiball, not saved, with a ball left: multiball ends when one is left, and the awards follow. -/
theorem State.multiballDrain (rest : List Entry) {m : Nat} (hgame : s.gpc.game = .inPlay) (hmb : s.lmc.multiball = true)
    (hsave : s.gpc.tilted = true ∨ (s.device 0).faulted = true ∨ s.ballSaveActive = false)
    (hm : m = s.bdt.ballsInPlay - 1 + s.readyPending) (hpos : 0 < m)
    (hu : u = (s.afterTake rest).counted 0) (ht : t = u.drain.awarded g l st) :
    t.gpc = s.gpc ∧ t.bdt = u.bdt ∧ (1 < m → t.lmc.multiball = true) ∧
      (m = 1 → t.lmc.multiball = false ∧ t.hasNotice .multiballEnd = true) ∧
      (s.gpc.tilted = true ∨ (∀ y ∈ st, s.claims y g = false) → ∃ w : State,
        t = (if s.gpc.tilted then w else l.foldl (fun t a => t.performAward 1 a) w) ∧ (1 < m → w = u) ∧
        (m = 1 → ModeLaw s → TimerLaw s → MultiballEnds s w ∧ w.lmc.claims = s.lmc.claims ∧ w.swi = u.swi)) := by
  have hplay : s.SamePlay u := hu ▸ s.taken_play rest 0
  have hballs : u.bdt.ballsInPlay + u.readyPending = m := by rw [hm, hu]; exact s.taken_balls rest 0
  have hlmc : u.lmc = s.lmc := hu ▸ s.taken_lmc rest 0
  have hmbu : u.lmc.multiball = true := hplay.multiball.trans hmb
  have hdrain : u.drain = u.multiballCheck := by
    rw [hu, State.taken_unsaved rest hsave, ← hu]
    exact State.checked_stays (by rw [hballs]; exact hpos)
  have hmore (h : 1 < m) : u.multiballCheck = u := State.multiballCheck_stays (.inr (by rw [hballs]; exact h))
  have hone (h : m = 1) : u.multiballCheck = u.endMultiball := State.multiballCheck_ends hmbu (by rw [hballs, h])
  rw [hdrain] at ht
  subst ht
  refine ⟨?_, ?_, fun h => ?_, fun h => ?_, fun h => ⟨u.multiballCheck, State.drained_awards hplay hgame h, hmore,
    fun h1 hml htl => ⟨?_, ?_, by simp⟩⟩⟩
  · rw [State.awarded_gpc]
    exact (by simp : u.multiballCheck.gpc = u.gpc).trans hplay.gpc
  · rw [State.awarded_bdt]
    simp
  · rw [State.awarded_multiball, hmore h]
    exact hmbu
  · rw [State.awarded_multiball, hone h]
    exact ⟨u.endMultiball_off.1, State.awarded_notice u.endMultiball_off.2⟩
  · rw [hone h1]
    exact hplay.multiballEnds (.of_laws hml htl (.inr hgame))
  · rw [State.multiballCheck_claims, hlmc]

end

/-- Settles O37. -/
theorem lastDrainEndsTheBall : Obligations.LastDrainEndsTheBall := by
  unfold Obligations.LastDrainEndsTheBall
  refine ⟨fun s e rest g l r x n q hq hl hc hrule hr hd hk hroom hballs hgame hsave hall hcur hpl hm ht => ?last,
    fun s u e rest g l r x m hq hl hc hrule hr hd hk hroom hgame hmb hsave hm hu hpos => ?multiball⟩
  case last =>
    subst hr
    obtain ⟨hend, hbdt, hclaims⟩ := State.lastDrain_ends (g := g) (l := l) (st := s.mst.stack) rest
      (.of_laws hm ht (.inr hgame)) hgame hsave hballs hall hcur hpl rfl
    obtain ⟨hgpc, hnote, ⟨q', hq', hscore, hbonus, hmult, hpf, hcount, hmade, hlit⟩, hothers, hcommon, hlive, hstack,
      hpause, -, hoff, hended, hball, hpft⟩ := hend.ballEnds
    refine ⟨_, q', exec_awardEvaluation_drains hq hl hc hrule hd hk hroom hgame, hgpc, hq', hscore, hbonus, hmult, hpf,
      hcount, hmade, hlit, hcommon, hothers, hlive, hstack, hpause, fun y c tm hs hsl htm => ?_, hoff, hclaims, hended,
      hball, hpft, hnote, ?_⟩
    · obtain ⟨hslot, hcarried⟩ := hend.contexts hs hsl htm
      exact ⟨⟨_, hslot, rfl, rfl, rfl, rfl, rfl, rfl⟩, hcarried⟩
    · rw [hbdt]
      exact congrArg Device.occupancy ((s.afterTake rest).counted_same 0)
  case multiball =>
    subst hr
    exact ⟨_, exec_awardEvaluation_drains hq hl hc hrule hd hk hroom hgame,
      State.multiballDrain rest hgame hmb hsave hm hpos hu (by rw [hu]; rfl)⟩

end Sys2Proof.Machine
end

section
/-! PROOFS. Saved drains: the relaunch, the save consumed or standing, the multiball check (R111, R115, R140): O36. -/

namespace Sys2Proof.Machine

section
variable {s t u v : State} {d c : Fin 6} {x : DeviceDef} {g : Fin 16} {l : List Award} {st : List (Fin 12)}
  {rest : List Entry}

/-- The play after the save step of a drain taken: the save is consumed with multiball OFF and stands in multiball. -/
theorem State.savedDrain_play (hsave : s.ballSaveActive = true) (htilt : s.gpc.tilted = false)
    (hf : (s.device 0).faulted = false) (hv : v = ((s.afterTake rest).counted 0).saveStep) :
    v.mst = s.mst ∧ v.ptb = s.ptb ∧ v.gpc = s.gpc ∧ v.lmc = s.lmc ∧ (s.lmc.multiball = true → v.tmu = s.tmu) ∧
    (s.lmc.multiball = false → v.Saveless) := by
  have hplay := s.taken_play rest 0
  have hlmc : ((s.afterTake rest).counted 0).lmc = s.lmc := s.taken_lmc rest 0
  obtain ⟨hmst, hptb, hgpc, hlmc', htmu⟩ := ((s.afterTake rest).counted 0).saveStep_records
  obtain ⟨hfault, -, -⟩ := (s.afterTake rest).counted_owes 0 0
  subst hv
  refine ⟨hmst.trans hplay.mst, hptb.trans hplay.ptb, hgpc.trans hplay.gpc, hlmc'.trans hlmc,
    fun hm => (htmu (by rw [hlmc]; exact hm)).trans hplay.tmu, fun hm => ?_⟩
  rw [State.saveStep_saved (hplay.ballSave.trans hsave) (by rw [hplay.gpc]; exact htilt) (hfault.trans hf), hlmc, hm]
  exact State.Saveless.releaseBinding _

/-- The ball picture after the save step of a drain taken: the ball is counted and asked back. -/
theorem State.savedDrain_balls (hsave : s.ballSaveActive = true) (htilt : s.gpc.tilted = false)
    (hf : (s.device 0).faulted = false) (hd : (s.device 0).definition = some x)
    (hp : (s.device 0).ejectPending ≤ (s.device 0).occupancy) (hi : s.gpc.game = .inPlay)
    (hv : v = ((s.afterTake rest).counted 0).saveStep) :
    v.bdt.ballsInPlay = s.bdt.ballsInPlay - 1 ∧ v.readyPending = s.readyPending + 1 ∧
    (∀ c : Fin 6, c ≠ 0 → v.device c = s.device c) ∧ v.hasNotice .ballSaved = true ∧
    ((s.device 0).ejectPending = 0 → v.hasNotice (.ejectReq 0) = true ∧ v.device 0 = { s.device 0 with
      occupancy := (s.device 0).occupancy + 1, ejectPending := 1, retries := 0, ejectTimer := some x.timeout }) ∧
    ((s.device 0).ejectPending ≠ 0 → v.device 0 = { s.device 0 with
      occupancy := (s.device 0).occupancy + 1, ejectPending := (s.device 0).ejectPending + 1 }) := by
  have hplay := s.taken_play rest 0
  obtain ⟨hfault, -, -⟩ := (s.afterTake rest).counted_owes 0 0
  have hready : (((s.afterTake rest).counted 0).device 0).faulted = false := hfault.trans hf
  have hkick : ((s.afterTake rest).counted 0).keepOrKick 0 = (((s.afterTake rest).counted 0).requestEject 0 1).1 :=
    State.keepOrKick_kicks (by rw [hplay.gpc, hi]; nofun) (by rw [hplay.gpc, hi]; nofun) hready
  obtain ⟨hstarts, hjoins⟩ := State.kickedBall (s := s.afterTake rest) hd
    (hi.trans_ne nofun) (hi.trans_ne nofun) hf hp hkick.symm
  have hone : (((s.afterTake rest).counted 0).device 0).adds 1 = 1 := State.counted_adds (s := s.afterTake rest) hd hf hp
  have hpend := State.requestEject_readyPending hready hone
  have hcount : ((s.afterTake rest).counted 0).readyPending = s.readyPending := (s.afterTake rest).counted_readyPending 0
  have hballs : ((s.afterTake rest).counted 0).bdt.ballsInPlay = s.bdt.ballsInPlay - 1 :=
    (s.afterTake rest).counted_ballsInPlay 0
  have hrest (c : Fin 6) (hc : c ≠ 0) : ((s.afterTake rest).counted 0).device c = s.device c :=
    State.counted_other (s := s.afterTake rest) hc
  have hactive := hplay.ballSave.trans hsave
  have hlevel : ((s.afterTake rest).counted 0).gpc.tilted = false := by rw [hplay.gpc]; exact htilt
  generalize (s.afterTake rest).counted 0 = u at *
  obtain ⟨-, hothers, hinplay, -⟩ := u.requestEject_devices 0 1
  have hbdt : v.bdt = (u.requestEject 0 1).1.bdt := hv ▸ State.saveStep_bdt hactive hlevel hready
  obtain ⟨hnote, hgrows⟩ := State.saveStep_notice hactive hlevel hready
  rw [← hv] at hnote hgrows
  have hdev (c : Fin 6) : v.device c = (u.requestEject 0 1).1.device c := by rw [State.device, hbdt]; rfl
  refine ⟨?_, ?_, fun c hc => ?_, hnote, fun h0 => ⟨hgrows _ (hstarts h0).1, (hdev 0).trans (hstarts h0).2⟩,
    fun h0 => (hdev 0).trans (hjoins h0)⟩
  · rw [hbdt, hinplay, hballs]
  · rw [← hcount, ← hpend, State.readyPending, hbdt]
    rfl
  · rw [hdev, hothers c hc, hrest c hc]

end

/-- Settles O36. -/
theorem savedDrainsAreRelaunched : Obligations.SavedDrainsAreRelaunched := by
  unfold Obligations.SavedDrainsAreRelaunched
  intro s e rest g l r x hq hl hc hrule hr hd hk hroom hp hf hgame htilt hsave
  subst hr
  have hexec := exec_awardEvaluation_drains hq hl hc hrule hd hk hroom hgame
  rw [State.drain] at hexec
  obtain ⟨v, hv⟩ : ∃ v, v = ((s.afterTake rest).counted 0).saveStep := ⟨_, rfl⟩
  rw [← hv] at hexec
  obtain ⟨hmst, hptb, hgpc, hlmc, htmu, hspent⟩ := State.savedDrain_play hsave htilt hf hv
  obtain ⟨hballs, hpend, hothers, hnote, hstarts, hjoins⟩ := State.savedDrain_balls hsave htilt hf hd hp hgame hv
  rw [State.checked_stays (by omega)] at hexec
  have hbdt : (v.multiballCheck.awarded g l s.mst.stack).bdt = v.bdt := by rw [State.awarded_bdt]; simp
  have hgrows {z : Source} (h : v.hasNotice z = true) : (v.multiballCheck.awarded g l s.mst.stack).hasNotice z = true :=
    State.awarded_notice (State.hasNotice_of_grows (Keeps.refl v).multiballCheck.notices h)
  have hdev (c : Fin 6) : (v.multiballCheck.awarded g l s.mst.stack).bdt.devices[c] = v.device c := by rw [hbdt]; rfl
  refine ⟨_, hexec, ?_, ?_, ?_, hgrows hnote, fun hm => ?_, fun h0 => ⟨hgrows (hstarts h0).1, (hdev 0).trans (hstarts h0).2⟩,
    fun h0 => (hdev 0).trans (hjoins h0), fun c h0 => (hdev c).trans (hothers c h0), ?_, fun m hm hsum => ?multiball⟩
  · rw [State.awarded_gpc, (by simp : v.multiballCheck.gpc = v.gpc), hgpc, hgame]
  · rw [hdev]
    by_cases h0 : (s.device 0).ejectPending = 0
    · rw [(hstarts h0).2]; rfl
    · rw [hjoins h0]; rfl
  · rw [hdev]
    by_cases h0 : (s.device 0).ejectPending = 0
    · rw [(hstarts h0).2]; exact congrArg (· + 1) h0.symm
    · rw [hjoins h0]; rfl
  · rw [State.multiballCheck_stays (.inl (by rw [hlmc]; exact hm))]
    exact State.saveless_iff.mp (hspent hm).awarded
  · rw [hbdt, hballs]
  case multiball =>
    have hplay : s.SamePlay v := ⟨hmst, htmu hm, hptb, hgpc, by rw [hlmc], by rw [hlmc], by rw [hlmc]⟩
    have hcount : v.bdt.ballsInPlay + v.readyPending = m := by
      rw [hballs, hpend, hsum]
      exact (Nat.add_assoc ..).symm
    have hmore (h : 1 < m) : v.multiballCheck = v := State.multiballCheck_stays (.inr (by rw [hcount]; exact h))
    have hone (h : m ≤ 1) : v.multiballCheck = v.endMultiball :=
      State.multiballCheck_ends (hplay.multiball.trans hm) (by rw [hcount]; exact h)
    refine ⟨fun h => ?_, fun h => ?_, fun hfree => ⟨v.multiballCheck, ?_, ?_, ?_, fun h => ?_, fun h hml htl => ?_⟩⟩
    · rw [State.awarded_multiball, hmore h, hlmc]
      exact hm
    · rw [State.awarded_multiball, hone h]
      exact ⟨v.endMultiball_off.1, State.awarded_notice v.endMultiball_off.2⟩
    · rw [State.drained_awards hplay hgame (.inr hfree), htilt]
      rfl
    · exact (by simp : v.multiballCheck.ptb = v.ptb).trans hptb
    · exact (by simp : v.multiballCheck.gpc = v.gpc).trans hgpc
    · rw [hmore h]
      exact ⟨hlmc, hmst, htmu hm⟩
    · rw [hone h]
      exact hplay.multiballEnds (.of_laws hml htl (.inr hgame))

end Sys2Proof.Machine
end

section
/-! PROOFS. A ball leaving a device: the accounting, the claim check, the confirmation, the start of the ball (R112 to
R114, R133, R170): O38. -/

namespace Sys2Proof.Machine

section
variable {s t u : State} {n k : Nat} {q : Player} {d c : Fin 6} {r : Device} {x : DeviceDef} {e : Entry}
  {rest : List Entry} {owner : Nat} {more : List Nat}

/-! ### Ball save given (R115) -/

theorem State.withTimer_tmu_congr {w : Fin 16} {o : Option Timer} (h : u.tmu = s.tmu) :
    (u.withTimer w o).tmu = (s.withTimer w o).tmu := by
  rw [State.withTimer, State.withTimer, h]

/-- The timer of a ball save given: none is left to give, the lowest FREE one, or the held one restarted (log 13). -/
theorem State.giveBallSave_timers (h : u.tmu = s.tmu) :
    ((∀ (v : Fin 16) (f : Timer), s.tmu.timers[v] = some f → f.binding ≠ .ballSave) →
      (∀ w : Fin 16, s.tmu.timers[w] = none → (∀ v, v < w → s.tmu.timers[v] ≠ none) → (u.giveBallSave k).tmu =
        (s.withTimer w (some ⟨.running, .oneShot, k, none, k, true, .ballSave⟩)).tmu) ∧
      ((∀ v : Fin 16, s.tmu.timers[v] ≠ none) → (u.giveBallSave k).tmu = s.tmu)) ∧
    (∀ (w : Fin 16) (f : Timer), s.tmu.timers[w] = some f → f.binding = .ballSave →
      (∀ (v : Fin 16) (f : Timer), v ≠ w → s.tmu.timers[v] = some f → f.binding ≠ .ballSave) → (u.giveBallSave k).tmu =
        (s.withTimer w (some { f with period := k, staged := none, remaining := k, state := .running })).tmu) := by
  refine ⟨fun hnone => ⟨fun w hw hlow => ?_, fun hfull => ?_⟩, fun w f hw hb huniq => ?_⟩
  · rw [← h] at hnone hw hlow
    rw [State.giveBallSave, State.giveBoundTimer_taken k (State.boundTimer?_eq_none.mpr hnone)
      (State.freeTimer?_eq_some.mpr ⟨hw, hlow⟩)]
    exact State.withTimer_tmu_congr h
  · rw [← h] at hnone hfull
    rw [State.giveBallSave, State.giveBoundTimer_none k (State.boundTimer?_eq_none.mpr hnone)
      (State.freeTimer?_eq_none.mpr hfull)]
    exact h
  · rw [← h] at hw huniq
    rw [State.giveBallSave, State.giveBoundTimer_held k
      (State.boundTimer?_eq_some hw hb fun v f hv hf => huniq v f (ne_of_lt hv) hf) hw]
    exact State.withTimer_tmu_congr h

theorem State.ballSaveActive_of (v : Fin 16) (f : Timer) (h : s.tmu.timers[v] = some f) (hb : f.binding = .ballSave) :
    s.ballSaveActive = true := by
  by_contra hn
  exact State.saveless_iff.mpr (Bool.not_eq_true _ ▸ hn) v f h hb

/-- A ball save given with a FREE timer at hand is active. -/
theorem State.giveBallSave_active (h : ∃ v : Fin 16, s.tmu.timers[v] = none) : (s.giveBallSave k).ballSaveActive = true := by
  have hset (v : Fin 16) (o : Option Timer) : (s.withTimer v o).tmu.timers[v] = o := Vector.getElem_set_self v.isLt
  cases hb : s.boundTimer? .ballSave with
  | some v =>
    obtain ⟨f, hf, hbind⟩ := State.boundTimer?_some hb
    rw [State.giveBallSave, State.giveBoundTimer_held k hb hf]
    exact State.ballSaveActive_of v _ (hset v _) hbind
  | none =>
    cases hfree : s.freeTimer? with
    | some v =>
      rw [State.giveBallSave, State.giveBoundTimer_taken k hb hfree]
      exact State.ballSaveActive_of v _ (hset v _) rfl
    | none =>
      obtain ⟨v, hv⟩ := h
      exact absurd hv (State.freeTimer?_eq_none.mp hfree v)

/-! ### The trough step (R114, R170) -/

theorem State.troughStep_gpc (s : State) (d : Fin 6) : (s.troughStep d).gpc =
    { s.gpc with game := if d = 0 ∧ s.gpc.game = .starting then .inPlay else s.gpc.game } := by
  rw [State.troughStep]
  split
  · dsimp only
    split
    · simp [State.setGame]
    · rfl
  · rfl

theorem State.troughStep_saves (hd : d = 0) (hgame : s.gpc.game = .starting) (hk : 0 < s.gpc.params.ballSaveTicks)
    (htilt : s.gpc.tilted = false) : s.troughStep d = (s.setGame .inPlay).giveBallSave s.gpc.params.ballSaveTicks := by
  rw [State.troughStep, if_pos ⟨hd, hgame⟩]
  exact if_pos ⟨hk, htilt⟩

theorem State.troughStep_tmu (h : d ≠ 0 ∨ s.gpc.game ≠ .starting ∨ s.gpc.params.ballSaveTicks = 0 ∨ s.gpc.tilted = true) :
    (s.troughStep d).tmu = s.tmu := by
  rw [State.troughStep]
  split
  · next hstart =>
    obtain ⟨hd, hgame⟩ := hstart
    have hno : ¬ (0 < s.gpc.params.ballSaveTicks ∧ s.gpc.tilted = false) := by
      rintro ⟨hk, htilt⟩
      rcases h with h | h | h | h
      · exact h hd
      · exact h hgame
      · omega
      · rw [h] at htilt; cases htilt
    exact Eq.trans (b := (s.setGame .inPlay).tmu) (congrArg State.tmu (if_neg hno)) rfl
  · rfl

/-! ### The accounting of an exit (R112) -/

theorem State.accountExit_counts (s : State) (d : Fin 6) :
    (s.accountExit d).bdt.ballsInPlay =
      (if s.bdt.ballsInPlay < 12 then s.bdt.ballsInPlay + 1 else s.bdt.ballsInPlay) ∧
    (s.bdt.ballsInPlay < 12 → (s.accountExit d).bdt.tracking = s.bdt.tracking) ∧
    (12 ≤ s.bdt.ballsInPlay → (s.accountExit d).bdt.tracking = .fault ∧
      (s.accountExit d).hasNotice .trackingFault = true) := by
  by_cases h : s.bdt.ballsInPlay < 12
  · have he : s.accountExit d = { s.modifyDevice d fun r => { r with occupancy := r.occupancy - 1 } with
        bdt := { (s.modifyDevice d fun r => { r with occupancy := r.occupancy - 1 }).bdt with
          ballsInPlay := s.bdt.ballsInPlay + 1 } } := if_pos h
    rw [he, if_pos h]
    exact ⟨rfl, fun _ => rfl, fun h' => absurd h (Nat.not_lt.mpr h')⟩
  · have he : s.accountExit d = (s.modifyDevice d fun r => { r with occupancy := r.occupancy - 1 }).trackingFault := if_neg h
    rw [he, if_neg h]
    exact ⟨rfl, fun h' => absurd h' h, fun _ => ⟨rfl, State.hasNotice_raise_self ..⟩⟩

/-! ### The claim check (R133) -/

theorem State.claimCheck_fits (h : (s.claimsOf d).length ≤ (s.device d).occupancy) : s.claimCheck d = s := by
  rw [State.claimCheck]
  split
  · next o l hl => exact if_neg (Nat.not_lt.mpr (by rw [hl] at h; exact h))
  · rfl

theorem State.claimCheck_loses (hl : s.claimsOf d = owner :: more) (h : (s.device d).occupancy < more.length + 1) :
    s.claimCheck d = (s.setClaims d more).loseLock d owner := by
  rw [State.claimCheck, hl]
  exact if_pos h

/-- Under STEALABLE the owner of a claim lost loses a made lock, with LOCK_LOST raised. -/
theorem State.loseLock_stealable {b : Bool} (hd : (s.device d).definition = some x) (hk : x.kind = .lock true b) :
    s.loseLock d owner =
      (s.modifyPlayer owner fun r => { r with locksMade := r.locksMade - 1 }).raise .lockLost := by
  simp only [State.loseLock, hd, Option.map_some, hk]

theorem State.loseLock_kept (h : ∀ b, (s.device d).definition.map DeviceDef.kind ≠ some (.lock true b)) :
    s.loseLock d owner = s := by
  rw [State.loseLock]
  split
  · next b hk => exact absurd hk (h b)
  · rfl

/-! ### What an exit confirms or cancels (R113) -/

theorem State.confirmExit_confirms (h : 0 < (s.device d).ejectPending) : (s.confirmExit d).bdt =
    (s.withDevice d { s.device d with
      ejectPending := (s.device d).ejectPending - 1
      retries := 0
      ejectTimer := if (s.device d).ejectPending = 1 then none else some (s.device d).timeout }).bdt := by
  rw [State.confirmExit, if_pos h, State.confirmEject]
  by_cases h1 : (s.device d).ejectPending = 1
  · rw [if_pos (Nat.le_of_eq h1), if_pos h1, h1]
    rfl
  · rw [if_neg (by omega), if_neg h1]
    rfl

theorem State.confirmExit_asks (h : 1 < (s.device d).ejectPending) : (s.confirmExit d).hasNotice (.ejectReq d) = true := by
  rw [State.confirmExit, if_pos (Nat.lt_of_succ_lt h), State.confirmEject, if_neg (Nat.not_le.mpr h)]
  exact State.hasNotice_raise_self ..

theorem State.confirmExit_none (h0 : (s.device d).ejectPending = 0)
    (h : (s.device d).faulted = false ∨ (s.device d).replaced = 0) : s.confirmExit d = s := by
  rw [State.confirmExit, if_neg (by omega), if_neg]
  rintro ⟨hf, hr⟩
  rcases h with h | h
  · rw [h] at hf; cases hf
  · omega

/-- One launch of the trough cancelled: the pending ejects fall by 1, and the timer stops with the last. -/
theorem State.cancelLaunch_trough (s : State) : (s.cancelLaunch.device 0).ejectPending = (s.device 0).ejectPending - 1 ∧
    ((s.device 0).ejectPending = 1 → (s.cancelLaunch.device 0).ejectTimer = none) := by
  rw [State.cancelLaunch]
  by_cases h : (s.device 0).ejectPending = 0
  · rw [if_pos h]
    exact ⟨by omega, fun h1 => by omega⟩
  · rw [if_neg h, State.modifyDevice_same]
    exact ⟨rfl, fun h1 => if_pos h1⟩

theorem State.cancelLaunch_other (hc : c ≠ 0) : s.cancelLaunch.device c = s.device c := by
  rw [State.cancelLaunch]
  split
  · rfl
  · exact State.modifyDevice_other _ hc

theorem State.confirmExit_cancels (h0 : (s.device d).ejectPending = 0) (hf : (s.device d).faulted = true)
    (hr : 0 < (s.device d).replaced) : s.confirmExit d =
      (s.modifyDevice d fun r => { r with replaced := r.replaced - 1 }).cancelLaunch := by
  rw [State.confirmExit, if_neg (by omega), if_pos ⟨hf, hr⟩]

theorem State.confirmExit_counts (s : State) (d : Fin 6) : (s.confirmExit d).bdt.ballsInPlay = s.bdt.ballsInPlay ∧
    (s.confirmExit d).bdt.tracking = s.bdt.tracking := by
  have hconfirm : (s.confirmEject d).bdt.ballsInPlay = s.bdt.ballsInPlay ∧
      (s.confirmEject d).bdt.tracking = s.bdt.tracking := by
    rw [State.confirmEject]; split <;> exact ⟨rfl, rfl⟩
  have hcancel (u : State) : u.cancelLaunch.bdt.ballsInPlay = u.bdt.ballsInPlay ∧
      u.cancelLaunch.bdt.tracking = u.bdt.tracking := by
    rw [State.cancelLaunch]; split <;> exact ⟨rfl, rfl⟩
  rw [State.confirmExit]
  split
  · exact hconfirm
  · split
    · exact hcancel _
    · exact ⟨rfl, rfl⟩

theorem State.confirmExit_other (hc : c ≠ d)
    (h : c ≠ 0 ∨ 0 < (s.device d).ejectPending ∨ (s.device d).faulted = false ∨ (s.device d).replaced = 0) :
    (s.confirmExit d).device c = s.device c := by
  rcases Nat.eq_zero_or_pos (s.device d).ejectPending with h0 | hp
  · by_cases hr : (s.device d).faulted = true ∧ 0 < (s.device d).replaced
    · obtain ⟨hf, hr⟩ := hr
      have hc0 : c ≠ 0 := by
        rcases h with h | h | h | h
        · exact h
        · omega
        · rw [h] at hf; cases hf
        · omega
      rw [State.confirmExit_cancels h0 hf hr, State.cancelLaunch_other hc0, State.modifyDevice_other _ hc]
    · rw [State.confirmExit_none h0 (by
        rcases Decidable.not_and_iff_or_not.mp hr with h | h
        · exact .inl (Bool.not_eq_true _ ▸ h)
        · exact .inr (Nat.eq_zero_of_not_pos h))]
  · rw [State.device, State.confirmExit_confirms hp]
    exact State.withDevice_other _ hc

/-! ### The whole exit -/

/-- What stands before the trough step of an exit: the game, the timers, the contexts and the rules (R112, R113). -/
theorem State.exitDevice_steps (s : State) (d : Fin 6) : ∃ v : State, s.exitDevice d = v.troughStep d ∧ v.gpc = s.gpc ∧
    v.tmu = s.tmu ∧ v.mst = s.mst ∧ v.evl = s.evl := by
  rw [State.exitDevice]
  split
  · exact ⟨_, rfl, rfl, rfl, rfl, rfl⟩
  · exact ⟨_, rfl, by simp, by simp, by simp, by simp⟩

theorem State.exitDevice_empty (h : (s.device d).occupancy = 0) : (s.exitDevice d).bdt = { s.bdt with tracking := .fault } ∧
    (s.exitDevice d).lmc = s.lmc ∧ (s.exitDevice d).hasNotice .trackingFault = true := by
  have he : s.exitDevice d = s.trackingFault.troughStep d := if_pos h
  have hnote : s.trackingFault.hasNotice .trackingFault = true := State.hasNotice_raise_self ..
  rw [he]
  refine ⟨by simp [State.trackingFault], by simp, ?_⟩
  rw [State.hasNotice, (by simp : (s.trackingFault.troughStep d).ntu = s.trackingFault.ntu)]
  exact hnote

theorem State.exitDevice_leaves (h : 0 < (s.device d).occupancy) :
    s.exitDevice d = (((s.accountExit d).claimCheck d).confirmExit d).troughStep d := if_neg (Nat.ne_of_gt h)

/-- The counts after an exit that a ball made (R112). -/
theorem State.exitDevice_counts (h : 0 < (s.device d).occupancy) : (s.exitDevice d).bdt.ballsInPlay =
      (if s.bdt.ballsInPlay < 12 then s.bdt.ballsInPlay + 1 else s.bdt.ballsInPlay) ∧
    (s.bdt.ballsInPlay < 12 → (s.exitDevice d).bdt.tracking = s.bdt.tracking) ∧
    (12 ≤ s.bdt.ballsInPlay → (s.exitDevice d).bdt.tracking = .fault ∧
      (s.exitDevice d).hasNotice .trackingFault = true) := by
  obtain ⟨hballs, hkept, hfault⟩ := s.accountExit_counts d
  obtain ⟨hb, ht⟩ := ((s.accountExit d).claimCheck d).confirmExit_counts d
  rw [(by simp : ((s.accountExit d).claimCheck d).bdt = (s.accountExit d).bdt)] at hb ht
  rw [State.exitDevice_leaves h, (by simp : ((((s.accountExit d).claimCheck d).confirmExit d).troughStep d).bdt =
    (((s.accountExit d).claimCheck d).confirmExit d).bdt)]
  exact ⟨hb.trans hballs, fun hlt => ht.trans (hkept hlt), fun hle => ⟨ht.trans (hfault hle).1,
    State.hasNotice_of_grows (Keeps.refl _).claimCheck.confirmExit.troughStep.notices (hfault hle).2⟩⟩

/-- The device records after an exit that a ball made: those the confirmation leaves of the ones just counted. -/
theorem State.exitDevice_devices (h : 0 < (s.device d).occupancy) : ∃ b : State,
    b.device d = { s.device d with occupancy := (s.device d).occupancy - 1 } ∧ (∀ c, c ≠ d → b.device c = s.device c) ∧
    (s.exitDevice d).bdt = (b.confirmExit d).bdt ∧
    ∀ z, (b.confirmExit d).hasNotice z = true → (s.exitDevice d).hasNotice z = true := by
  have hexit := s.accountExit_ballsKept d (Nat.ne_of_gt h)
  obtain ⟨-, -, hat, hother, -⟩ := hexit
  have hbdt (c : Fin 6) : ((s.accountExit d).claimCheck d).device c = (s.accountExit d).device c := by
    rw [State.device, (by simp : ((s.accountExit d).claimCheck d).bdt = (s.accountExit d).bdt)]; rfl
  rw [State.exitDevice_leaves h]
  exact ⟨(s.accountExit d).claimCheck d, (hbdt d).trans hat, fun c hc => (hbdt c).trans (hother c hc), by simp,
    fun z hz => State.hasNotice_of_grows (Keeps.refl _).troughStep.notices hz⟩

/-- The locks after an exit that a ball made: what the claim check leaves (R133). -/
theorem State.exitDevice_locks (h : 0 < (s.device d).occupancy) : ∃ a : State, a.lmc = s.lmc ∧ a.ptb = s.ptb ∧
    a.device d = { s.device d with occupancy := (s.device d).occupancy - 1 } ∧
    (s.exitDevice d).lmc = (a.claimCheck d).lmc ∧ (s.exitDevice d).ptb = (a.claimCheck d).ptb ∧
    ∀ z, (a.claimCheck d).hasNotice z = true → (s.exitDevice d).hasNotice z = true := by
  have hexit := s.accountExit_ballsKept d (Nat.ne_of_gt h)
  obtain ⟨-, hlmc, hat, -, -⟩ := hexit
  rw [State.exitDevice_leaves h]
  exact ⟨s.accountExit d, hlmc, by simp, hat, by simp, by simp,
    fun z hz => State.hasNotice_of_grows (Keeps.refl _).confirmExit.troughStep.notices hz⟩

/-- A claim is lost where fewer balls than claims remain: the oldest, its owner a lock under STEALABLE (R133). -/
theorem State.exitDevice_claimLost (h : 0 < (s.device d).occupancy) (hl : s.lmc.claims[d] = owner :: more)
    (hfew : (s.device d).occupancy ≤ more.length + 1) :
    (s.exitDevice d).lmc.claims[d] = more ∧ (∀ c : Fin 6, c ≠ d → (s.exitDevice d).lmc.claims[c] = s.lmc.claims[c]) ∧
    (∀ x b, (s.device d).definition = some x → x.kind = .lock true b → (s.exitDevice d).hasNotice .lockLost = true ∧
      ∀ m q, owner = m + 1 → s.ptb.players[m]? = some q →
        (s.exitDevice d).ptb.players[m]? = some { q with locksMade := q.locksMade - 1 }) ∧
    ∀ x b, (s.device d).definition = some x → x.kind = .lock false b → (s.exitDevice d).ptb = s.ptb := by
  obtain ⟨a, hlmc, hptb, hdev, htl, htp, hgrows⟩ := State.exitDevice_locks h
  have hloses : a.claimCheck d = (a.setClaims d more).loseLock d owner := by
    refine State.claimCheck_loses (by rw [State.claimsOf, hlmc]; exact hl) ?_
    rw [hdev]
    change (s.device d).occupancy - 1 < more.length + 1
    omega
  have hdef : ((a.setClaims d more).device d).definition = (s.device d).definition := by
    rw [show (a.setClaims d more).device d = a.device d from rfl, hdev]
  have hclaims : (s.exitDevice d).lmc = (a.setClaims d more).lmc := by rw [htl, hloses]; simp
  refine ⟨?_, fun c hc => ?_, fun x b hx hk => ⟨?_, fun m q ho hq => ?_⟩, fun x b hx hk => ?_⟩
  · rw [hclaims]
    exact Vector.getElem_set_self d.isLt
  · rw [hclaims, ← hlmc]
    exact Vector.getElem_set_ne d.isLt c.isLt fun e => hc (Fin.ext e.symm)
  · refine hgrows _ ?_
    rw [hloses, State.loseLock_stealable (hdef.trans hx) hk]
    exact State.hasNotice_raise_self ..
  · have hq' : (a.setClaims d more).ptb.players[m]? = some q := (congrArg (·.players[m]?) hptb).trans hq
    rw [htp, hloses, State.loseLock_stealable (hdef.trans hx) hk, ho, State.raise_ptb, State.modifyPlayer_present _ hq']
    exact State.withPlayer_same _ hq'
  · have hshared : (a.setClaims d more).loseLock d owner = a.setClaims d more := by
      refine State.loseLock_kept fun b' hb => ?_
      rw [hdef, hx, Option.map_some, hk] at hb
      cases hb
    rw [htp, hloses, hshared]
    exact hptb

theorem State.exitDevice_claimsKept (h : 0 < (s.device d).occupancy)
    (hl : (s.lmc.claims[d]).length < (s.device d).occupancy) : (s.exitDevice d).lmc = s.lmc := by
  obtain ⟨a, hlmc, -, hdev, htl, -, -⟩ := State.exitDevice_locks h
  have hfits : a.claimCheck d = a := by
    refine State.claimCheck_fits ?_
    rw [hdev, State.claimsOf, hlmc]
    exact Nat.le_sub_one_of_lt hl
  rw [htl, hfits, hlmc]

end

/-- Settles O38. -/
theorem ballExitsAreCounted : Obligations.BallExitsAreCounted := by
  unfold Obligations.BallExitsAreCounted
  intro s e rest d r hq hl hc hrule hr
  subst hr
  have hexec : exec .awardEvaluation s = .next ((s.afterTake rest).exitDevice d) := by
    have hrule' : (s.afterTake rest).evl.rules[e.switch] = .deviceExit d := hrule
    rw [exec_awardEvaluation_takes hq hl, State.evaluate, hc, hrule']
  obtain ⟨v, hv, hgpc, htmu, hmst, hevl⟩ := (s.afterTake rest).exitDevice_steps d
  refine ⟨_, hexec, State.exitDevice_empty (s := s.afterTake rest), fun hocc => ?balls, ?game,
    fun hd hgame hk htilt hfree => ?_,
    fun k hd hgame hk hticks htilt => ?_, fun hnone => ?_, ?_, ?_⟩
  case balls =>
    obtain ⟨hballs, hkept, hfault⟩ := State.exitDevice_counts (s := s.afterTake rest) (d := d) hocc
    obtain ⟨b, hb, hothers, hbdt, hgrows⟩ := State.exitDevice_devices (s := s.afterTake rest) (d := d) hocc
    have hdev (c : Fin 6) : ((s.afterTake rest).exitDevice d).bdt.devices[c] = (b.confirmExit d).device c := by
      rw [hbdt]; rfl
    have hpend : (b.device d).ejectPending = (s.device d).ejectPending := by rw [hb]; rfl
    have hready : (b.device d).faulted = (s.device d).faulted := by rw [hb]; rfl
    have hrepl : (b.device d).replaced = (s.device d).replaced := by rw [hb]; rfl
    refine ⟨hballs, hkept, hfault, fun hp => ?_, fun hp => hgrows _ (State.confirmExit_asks (hpend.symm ▸ hp)),
      fun h0 hf => ?_,
      fun h0 hf hrep hd => ⟨?_, ?_, fun h1 => ?_⟩, fun c hcd h => ?_,
      State.exitDevice_claimsKept (s := s.afterTake rest) hocc,
      fun owner more hcl hfew => State.exitDevice_claimLost (s := s.afterTake rest) hocc hcl hfew⟩
    · rw [hdev, State.device, State.confirmExit_confirms (hpend.symm ▸ hp)]
      refine (State.withDevice_same d _).trans ?_
      rw [hb]
      rfl
    · rw [hdev, State.confirmExit_none (hpend.trans h0) (by rw [hready, hrepl]; exact hf), hb]
      rfl
    · rw [hdev, State.confirmExit_cancels (hpend.trans h0) (hready.trans hf) (hrepl.symm ▸ hrep),
        State.cancelLaunch_other hd, State.modifyDevice_same, hb]
      rfl
    · rw [hdev, State.confirmExit_cancels (hpend.trans h0) (hready.trans hf) (hrepl.symm ▸ hrep),
        (State.cancelLaunch_trough _).1, State.modifyDevice_other _ fun e => hd e.symm, hothers 0 fun e => hd e.symm]
      rfl
    · rw [hdev, State.confirmExit_cancels (hpend.trans h0) (hready.trans hf) (hrepl.symm ▸ hrep)]
      refine (State.cancelLaunch_trough _).2 ?_
      rw [State.modifyDevice_other _ fun e => hd e.symm, hothers 0 fun e => hd e.symm]
      exact h1
    · rw [hdev, State.confirmExit_other hcd (by rw [hpend, hready, hrepl]; exact h), hothers c hcd]
      rfl
  case game =>
    rw [hv, State.troughStep_gpc, hgpc]
    rfl
  · rw [hv, State.troughStep_saves hd (by rw [hgpc]; exact hgame) (by rw [hgpc]; exact hk) (by rw [hgpc]; exact htilt)]
    refine State.giveBallSave_active ?_
    change ∃ w : Fin 16, v.tmu.timers[w] = none
    rw [htmu]
    exact hfree
  · subst hticks
    rw [hv, State.troughStep_saves hd (by rw [hgpc]; exact hgame) (by rw [hgpc]; exact hk) (by rw [hgpc]; exact htilt), hgpc]
    exact State.giveBallSave_timers htmu
  · rw [hv, State.troughStep_tmu (by rw [hgpc]; exact hnone), htmu]
    rfl
  · rw [hv, (by simp : (v.troughStep d).mst = v.mst), hmst]
    rfl
  · rw [hv, (by simp : (v.troughStep d).evl = v.evl), hevl]
    rfl

end Sys2Proof.Machine
end

section
/-! PROOFS. The lock counts through credits, claims, awards and the ball end (R127): they move by lock lighting, lock
making and lock losing alone. -/

namespace Sys2Proof.Machine

section
variable {s t : State} {π : Player → Nat} {p n k : Nat} {f : Player → Player} {g : Fin 16} {l : List Award}
  {st : List (Fin 12)} {q : Player}

/-- One field of the player records, in the order of the players. -/
def State.column (s : State) (π : Player → Nat) : List Nat := s.ptb.players.map π

theorem State.column_get {t : State} (h : t.column π = s.column π) (hq : s.ptb.players[n]? = some q) :
    ∃ q', t.ptb.players[n]? = some q' ∧ π q' = π q := by
  have hat : (t.ptb.players[n]?).map π = some (π q) := by
    rw [← List.getElem?_map, show t.ptb.players.map π = s.ptb.players.map π from h, List.getElem?_map, hq]
    rfl
  exact Option.map_eq_some_iff.mp hat

theorem State.column_congr (h : t.ptb = s.ptb := by simp) : t.column π = s.column π := by
  rw [State.column, State.column, h]

theorem State.column_modifyPlayer (h : ∀ r, π (f r) = π r) : (s.modifyPlayer p f).column π = s.column π := by
  cases p with
  | zero => rfl
  | succ n =>
    refine List.ext_getElem? fun m => ?_
    have hmod : (s.modifyPlayer (n + 1) f).ptb.players = s.ptb.players.modify n f := rfl
    rw [State.column, State.column, List.getElem?_map, List.getElem?_map, hmod, List.getElem?_modify]
    cases s.ptb.players[m]? with
    | none => rfl
    | some r =>
      by_cases hm : n = m
      · simp [hm, h]
      · simp [hm]

/-- A field that no credit writes (R57 to R60). -/
def Player.Uncredited (π : Player → Nat) : Prop :=
  ∀ (r : Player) (score : Nat) (reported : Bool) (crossed : BitVec 8) (balls : Nat),
  π { r with score := score, scoreLimitReported := reported, crossed := crossed, extraBalls := balls } = π r

theorem State.column_giveExtraBall (hπ : Player.Uncredited π) : (s.giveExtraBall p).column π = s.column π := by
  unfold State.giveExtraBall
  split
  · split
    · exact State.column_modifyPlayer fun r => hπ r ..
    · rfl
  · rfl

theorem State.column_checkThreshold (hπ : Player.Uncredited π) (old new : Nat) (i : Fin 8) :
    (s.checkThreshold p old new i).column π = s.column π := by
  have hcross : ∀ c : BitVec 8, (State.raise (.threshold i) (s.modifyPlayer p fun r =>
      { r with crossed := r.crossed ||| c })).column π = s.column π :=
    fun c => State.column_modifyPlayer fun r => hπ r ..
  unfold State.checkThreshold State.crossThreshold
  split
  · split
    · dsimp only
      split
      · exact (State.column_giveExtraBall hπ).trans (hcross _)
      · exact hcross _
    · rfl
  · rfl

theorem State.column_credit (hπ : Player.Uncredited π) (points : Nat) (payer : Option (Fin 12)) :
    (s.credit p points payer).column π = s.column π := by
  unfold State.credit
  split
  · rfl
  · next r _ =>
    refine foldl_keeps (fun t : State => t.column π = s.column π) _
      (fun t i h => (State.column_checkThreshold hπ ..).trans h) _ _ ?_
    have hpayer (u : State) : (u.addPayer payer points).column π = u.column π := State.column_congr
    refine (hpayer _).trans ?_
    have hscore (new : Nat) : (s.modifyPlayer p fun r => { r with score := new }).column π = s.column π :=
      State.column_modifyPlayer fun r => hπ r ..
    unfold State.limitCheck
    split
    · exact (State.column_modifyPlayer fun r => hπ r ..).trans (hscore _)
    · exact hscore _

/-- The hits that contexts claim credit players, and write no other field (R88 to R90). -/
theorem State.column_claimHit (hπ : Player.Uncredited π) (x : Fin 12) (k : Nat) :
    (s.claimHit x k).1.column π = s.column π := by
  have hpay (u : State) (c : Context) (tm : Template) (w j : Nat) : (u.payContext x c tm w j).column π = u.column π :=
    State.column_credit hπ ..
  have hend (u : State) (o : Option (Fin 32)) :
      ((u.endContext x .completed true).startNext o).column π = u.column π := State.column_congr
  have hslot (u : State) (f : Context → Context) : (u.modifySlot x f).column π = u.column π := rfl
  have hheld (u : State) (o : Option (Fin 16)) (f : Timer → Timer) : (u.modifyHeld o f).column π = u.column π :=
    State.column_congr
  have hshot (c : Context) (tm : Template) (f : ShotFields) : (s.claimShot x c tm f k).column π = s.column π := by
    unfold State.claimShot State.complete
    dsimp only
    split
    · exact (hend ..).trans ((hpay ..).trans ((hslot ..).trans (hpay ..)))
    · split
      · exact (hheld ..).trans ((hslot ..).trans (hpay ..))
      · exact (hslot ..).trans (hpay ..)
  unfold State.claimHit
  split
  · split
    · exact hshot ..
    · exact hshot ..
    · unfold State.collect
      exact (hend ..).trans ((hslot ..).trans (hpay ..))
  · rfl

theorem State.column_walk (hπ : Player.Uncredited π) (alive : List (Fin 12)) :
    (s.walk g k alive st).1.column π = s.column π := by
  induction st generalizing s alive with
  | nil => rfl
  | cons y st ih =>
    unfold State.walk
    split
    · split
      · exact State.column_claimHit hπ ..
      · exact (ih _).trans (State.column_claimHit hπ ..)
    · exact ih _

/-! ### Locks made -/

theorem Player.uncredited_locksMade : Player.Uncredited Player.locksMade := fun _ _ _ _ _ => rfl

theorem Player.uncredited_locksLit : Player.Uncredited Player.locksLit := fun _ _ _ _ _ => rfl

theorem State.made_counterActions (a : CounterAction) :
    (s.counterActions a n).column Player.locksMade = s.column Player.locksMade := by
  induction n generalizing s with
  | zero => rfl
  | succ n ih =>
    refine ih.trans ?_
    cases a with
    | none => rfl
    | notify c => rfl
    | lightLock =>
      unfold State.counterAction State.lightLock
      dsimp only
      split
      · exact State.column_modifyPlayer fun _ => rfl
      · rfl
    | startMode i => exact State.column_congr (by simp [State.counterAction])
    | extraBall => exact State.column_giveExtraBall Player.uncredited_locksMade
    | bonusMult => exact State.column_modifyPlayer fun _ => rfl

theorem State.made_advanceCounter (r : CounterRef) :
    (s.advanceCounter r k).column Player.locksMade = s.column Player.locksMade := by
  have hvalue (u : State) (p v : Nat) : (u.setCounterValue r p v).column Player.locksMade = u.column Player.locksMade := by
    cases r with
    | player i => exact State.column_modifyPlayer fun _ => rfl
    | common i => rfl
  have hdef (u : State) (d : CounterDef) : (u.setCounterDef r d).column Player.locksMade = u.column Player.locksMade := by
    cases r <;> rfl
  have hoff (u : State) : (u.disableCounter r).column Player.locksMade = u.column Player.locksMade := by
    cases r with
    | player i => exact List.map_map
    | common i => rfl
  unfold State.advanceCounter
  dsimp only
  split
  · rfl
  · refine (State.made_counterActions _).trans ?_
    split
    · exact (hoff _).trans ((hdef ..).trans (hvalue ..))
    · exact (hdef ..).trans (hvalue ..)

theorem State.made_performAward (a : Award) :
    (s.performAward k a).column Player.locksMade = s.column Player.locksMade := by
  cases a with
  | score v b => exact State.column_credit Player.uncredited_locksMade ..
  | bonus v => exact State.column_modifyPlayer fun _ => rfl
  | bonusMult m => exact State.column_modifyPlayer fun _ => rfl
  | advance r => exact State.made_advanceCounter r
  | jackpot b =>
    unfold State.performAward State.collectJackpot
    dsimp only
    split
    · exact State.column_credit Player.uncredited_locksMade ..
    · rfl
  | lightLock =>
    unfold State.performAward State.lightLock
    dsimp only
    split
    · exact State.column_modifyPlayer fun _ => rfl
    · rfl
  | startMode i => exact State.column_congr (by simp [State.performAward])
  | extraBall => exact State.column_giveExtraBall Player.uncredited_locksMade

/-- The awards of an entry make no lock and lose none. -/
theorem State.made_awarded : (s.awarded g l st).column Player.locksMade = s.column Player.locksMade := by
  unfold State.awarded State.scoreHit
  dsimp only
  split
  · split
    · exact State.column_walk Player.uncredited_locksMade _
    · exact foldl_keeps (fun t : State => t.column Player.locksMade = s.column Player.locksMade) _
        (fun t a h => (State.made_performAward a).trans h) _ _ (State.column_walk Player.uncredited_locksMade _)
  · rfl

/-- With an empty award list the hit of an entry lights no lock. -/
theorem State.lit_awarded : (s.awarded g [] st).column Player.locksLit = s.column Player.locksLit := by
  unfold State.awarded State.scoreHit
  dsimp only
  split
  · split
    · exact State.column_walk Player.uncredited_locksLit _
    · exact State.column_walk Player.uncredited_locksLit _
  · rfl

/-! ### The ball end -/

/-- The ball end keeps the made locks of every player (R144). -/
theorem State.made_ballEnd : s.ballEnd.column Player.locksMade = s.column Player.locksMade := by
  have hcredit (u : State) (m : Nat) : (u.bonusCredit m).column Player.locksMade = u.column Player.locksMade := by
    unfold State.bonusCredit
    split
    · rfl
    · dsimp only
      split
      · exact State.column_modifyPlayer fun _ => rfl
      · exact Eq.trans (State.column_modifyPlayer fun _ => rfl) (State.column_credit Player.uncredited_locksMade ..)
  have hsingle : s.ballSingle.column Player.locksMade = s.column Player.locksMade := by
    obtain ⟨-, hptb, -⟩ := s.ballSingle_records
    exact (State.column_congr hptb).trans ((hcredit _ _).trans rfl)
  have hclosed : s.ballClosed.column Player.locksMade = s.column Player.locksMade := by
    rw [State.ballClosed_eq]
    split
    · exact hsingle
    · exact Eq.trans (State.column_modifyPlayer fun _ => rfl) hsingle
  have hreset (u : State) : u.ballReset.column Player.locksMade = u.column Player.locksMade := by
    unfold State.ballReset
    exact (State.column_congr (by simp)).trans
      (State.column_modifyPlayer (s := u) (p := u.currentPlayer) (f := fun r => { r with pfMult := 1 }) fun _ => rfl)
  rw [State.ballEnd_eq]
  exact (hreset _).trans ((State.column_congr (by simp)).trans hclosed)

theorem State.made_ballEndCheck : s.ballEndCheck.column Player.locksMade = s.column Player.locksMade := by
  unfold State.ballEndCheck
  split
  · exact State.made_ballEnd
  · rfl

end

end Sys2Proof.Machine
end

section
/-! PROOFS. A ball entering a lit LOCK: the lock made, the room kept, the serve, the ball end, multiball (R130, R131):
O35. -/

namespace Sys2Proof.Machine

/-- The ball end of a state with the same play but for the record of the player is that of the state. -/
theorem BallEnds.of_start {s v t : State} {n : Nat} {q : Player} (h : BallEnds v t n q) (hmst : v.mst = s.mst)
    (htmu : v.tmu = s.tmu) (hgpc : v.gpc = s.gpc) (hmb : v.lmc.multiball = s.lmc.multiball)
    (hparams : v.lmc.params = s.lmc.params) (hothers : ∀ m, m ≠ n → v.ptb.players[m]? = s.ptb.players[m]?)
    (hcommon : v.ptb.commonValues = s.ptb.commonValues) : BallEnds s t n q := by
  obtain ⟨hg, hnote, hplayer, ho, hc, hlive, hstack, hpause, hctx, hoff, hended, hsave, hpf⟩ := h
  have hleft (c : Context) : v.remainingOf c = s.remainingOf c := State.remainingOf_congr fun w _ => by rw [htmu]
  have hslive (y : Fin 12) : v.isLive y = s.isLive y := by rw [State.isLive, State.isLive, State.slot?, State.slot?, hmst]
  rw [hgpc, hparams] at hplayer
  refine ⟨by rw [hg, hgpc], hnote, hplayer, fun m hm => (ho m hm).trans (hothers m hm), hc.trans hcommon, hlive, hstack,
    hpause, fun y c tm hs hl htm => ?_, hoff, fun hm => hended (hmb.trans hm), hsave, hpf⟩
  have hctx' := hctx y c tm (by rw [hmst]; exact hs) ((hslive y).trans hl) (by rw [hmst]; exact htm)
  rw [hleft, hgpc] at hctx'
  exact hctx'

section
variable {s t u v : State} {n : Nat} {q : Player} {d c : Fin 6} {r : Device} {x : DeviceDef} {g : Fin 16} {l : List Award}
  {st : List (Fin 12)} {rest : List Entry}

/-! ### The lock made (R130) -/

/-- The state in which the ball that entered device d has been made a lock of player n + 1, whose record was q. -/
def State.locked (u : State) (n : Nat) (q : Player) (d : Fin 6) : State :=
  State.raise .lockMade { u.withPlayer n { q with locksLit := q.locksLit - 1, locksMade := q.locksMade + 1 } with
    lmc := { u.lmc with claims := u.lmc.claims.set d.val (u.lmc.claims[d] ++ [n + 1]) d.isLt } }

theorem State.makeLock_eq (hcur : u.gpc.current = some (n + 1)) (hq : u.ptb.players[n]? = some q) :
    u.makeLock d = (u.locked n q d).afterLock d (n + 1) := by
  have hq' : (u.setClaims d (u.claimsOf d ++ [n + 1])).ptb.players[n]? = some q := hq
  rw [State.makeLock, State.currentPlayer_eq hcur]
  rw [State.modifyPlayer_present _ hq']
  rfl

/-- A lock made leaves the ball picture, the contexts, the timers and the game; it joins the claims of its device. -/
theorem State.locked_records (u : State) (n : Nat) (q : Player) (d : Fin 6) : (u.locked n q d).bdt = u.bdt ∧
    (u.locked n q d).mst = u.mst ∧ (u.locked n q d).tmu = u.tmu ∧ (u.locked n q d).gpc = u.gpc ∧
    (u.locked n q d).glk = u.glk ∧ (u.locked n q d).lmc.params = u.lmc.params ∧
    (u.locked n q d).lmc.multiball = u.lmc.multiball := ⟨rfl, rfl, rfl, rfl, rfl, rfl, rfl⟩

theorem State.locked_claims (u : State) (n : Nat) (q : Player) (d : Fin 6) :
    (u.locked n q d).lmc.claims[d] = u.lmc.claims[d] ++ [n + 1] ∧
    ∀ c : Fin 6, c ≠ d → (u.locked n q d).lmc.claims[c] = u.lmc.claims[c] :=
  ⟨Vector.getElem_set_self d.isLt, fun c hc => Vector.getElem_set_ne d.isLt c.isLt fun e => hc (Fin.ext e.symm)⟩

theorem State.locked_player (hq : u.ptb.players[n]? = some q) : (u.locked n q d).ptb.players[n]? =
      some { q with locksLit := q.locksLit - 1, locksMade := q.locksMade + 1 } ∧
    (∀ m, m ≠ n → (u.locked n q d).ptb.players[m]? = u.ptb.players[m]?) ∧
    (u.locked n q d).ptb.commonValues = u.ptb.commonValues :=
  ⟨State.withPlayer_same _ hq, fun _ hm => State.withPlayer_others _ hm, rfl⟩

theorem State.locked_notice (u : State) (n : Nat) (q : Player) (d : Fin 6) :
    (u.locked n q d).hasNotice .lockMade = true := State.hasNotice_raise_self ..

/-! ### The play after a lock (R131) -/

/-- The play after a lock made short of mb_locks: the room kept, the serve, or the ball end where it adds no ball. -/
def State.playOn (s : State) (d : Fin 6) : State :=
  if (s.device d).keepsRoom = true ∧ (s.device d).occupancy = (s.device d).capacity then s.kickOut d
  else if s.bdt.ballsInPlay = 0 then
    if (s.requestEject 0 1).2 = 0 then (s.requestEject 0 1).1.ballEndCheck else (s.requestEject 0 1).1
  else s

theorem State.afterLock_short (hq : s.ptb.players[n]? = some q) (h : q.locksMade < s.lmc.params.mbLocks) :
    s.afterLock d (n + 1) = s.playOn d := by
  have hp : s.player? (n + 1) = some q := hq
  rw [State.afterLock, hp]
  exact if_neg (Nat.not_le.mpr h)

theorem State.afterLock_full (hq : s.ptb.players[n]? = some q) (h : s.lmc.params.mbLocks ≤ q.locksMade) :
    s.afterLock d (n + 1) = (s.startMultiball (n + 1)).1 := by
  have hp : s.player? (n + 1) = some q := hq
  rw [State.afterLock, hp]
  exact if_pos h

/-- What the play after a lock keeps in every course: the claims, the made locks of every player, the notices. -/
theorem State.playOn_keeps (s : State) (d : Fin 6) (hgame : s.gpc.game ≠ .idle) :
    (s.playOn d).lmc.claims = s.lmc.claims ∧ (s.playOn d).column Player.locksMade = s.column Player.locksMade ∧
    ∀ z, s.hasNotice z = true → (s.playOn d).hasNotice z = true := by
  have hreq (c : Fin 6) : (s.requestEject c 1).1.lmc.claims = s.lmc.claims ∧
      (s.requestEject c 1).1.column Player.locksMade = s.column Player.locksMade ∧ Keeps s (s.requestEject c 1).1 :=
    ⟨by simp, State.column_congr, (Keeps.refl s).requestEject⟩
  have hend (w : State) : w.ballEndCheck.lmc.claims = w.lmc.claims := by
    rw [State.ballEndCheck]
    split
    · rw [State.ballEnd_lmc]
    · rfl
  unfold State.playOn State.kickOut
  split
  · obtain ⟨hclaims, hmade, hkeeps⟩ := hreq d
    exact ⟨hclaims, hmade, fun z => State.hasNotice_of_grows hkeeps.notices⟩
  · split
    · obtain ⟨hclaims, hmade, hkeeps⟩ := hreq 0
      split
      · refine ⟨(hend _).trans hclaims, State.made_ballEndCheck.trans hmade, fun z hz => ?_⟩
        exact State.hasNotice_of_grows (hkeeps.ballEndCheck (by simpa using hgame)).notices hz
      · exact ⟨hclaims, hmade, fun z => State.hasNotice_of_grows hkeeps.notices⟩
    · exact ⟨rfl, rfl, fun _ => id⟩

theorem State.playOn_roomKept (h : (s.device d).keepsRoom = true ∧ (s.device d).occupancy = (s.device d).capacity) :
    s.playOn d = (s.requestEject d 1).1 := if_pos h

theorem State.playOn_stays (h : ¬ ((s.device d).keepsRoom = true ∧ (s.device d).occupancy = (s.device d).capacity))
    (hb : s.bdt.ballsInPlay ≠ 0) : s.playOn d = s := by
  rw [State.playOn, if_neg h, if_neg hb]

theorem State.playOn_served (h : ¬ ((s.device d).keepsRoom = true ∧ (s.device d).occupancy = (s.device d).capacity))
    (hb : s.bdt.ballsInPlay = 0) (ha : (s.device 0).adds 1 = 1) : s.playOn d = (s.requestEject 0 1).1 := by
  rw [State.playOn, if_neg h, if_pos hb, State.requestEject_added, ha]
  rfl

theorem State.playOn_unserved (h : ¬ ((s.device d).keepsRoom = true ∧ (s.device d).occupancy = (s.device d).capacity))
    (hb : s.bdt.ballsInPlay = 0) (ha : (s.device 0).adds 1 = 0) : s.playOn d = s.ballEndCheck := by
  have hnone : s.requestEject 0 1 = (s, 0) := by
    rcases s.requestEject_cases 0 1 with ⟨-, he⟩ | ⟨hpos, -, -⟩ | ⟨hpos, -, -⟩
    · exact he
    all_goals omega
  rw [State.playOn, if_neg h, if_pos hb, hnone]
  rfl

/-- A device's keep_room byte, where it is a LOCK. -/
theorem Device.keepsRoom_lock {a b : Bool} (hd : r.definition = some x) (hk : x.kind = .lock a b) : r.keepsRoom = b := by
  simp only [Device.keepsRoom, hd, Option.map_some, hk]

theorem Device.capacity_defined (hd : r.definition = some x) : r.capacity = x.capacity := by
  simp only [Device.capacity, hd, Option.map_some, Option.getD_some]

/-! ### The entry taken -/

/-- The state in which the ball taken from the queue has been counted and made a lock. -/
def State.takenLock (s : State) (rest : List Entry) (n : Nat) (q : Player) (d : Fin 6) : State :=
  ((s.afterTake rest).counted d).locked n q d

/-- A ball that enters a READY LOCK with a lock lit is made a lock (R130). -/
theorem exec_awardEvaluation_locks {e : Entry} {a b : Bool} (hq : s.swi.queue = e :: rest) (hl : s.lineState ≠ .held)
    (hc : e.cls = .deviceEntry) (hrule : s.evl.rules[e.switch] = .deviceEntry d g l)
    (hd : (s.device d).definition = some x) (hk : x.kind = .lock a b) (hf : (s.device d).faulted = false)
    (hroom : (s.device d).occupancy < x.capacity) (hgame : s.gpc.game = .inPlay) (htilt : s.gpc.tilted = false)
    (hmb : s.lmc.multiball = false) (hcur : s.gpc.current = some (n + 1)) (hp : s.ptb.players[n]? = some q)
    (hlit : 0 < q.locksLit) : exec .awardEvaluation s =
      .next (((s.takenLock rest n q d).afterLock d (n + 1)).awarded g l s.mst.stack) := by
  have hplay := s.taken_play rest d
  obtain ⟨hfault, -, hdef⟩ := (s.afterTake rest).counted_owes d d
  have hplayer : s.player? s.currentPlayer = some q := by rw [State.currentPlayer_eq hcur]; exact hp
  have hmakes : ((s.afterTake rest).counted d).makesLock d = true := by
    refine State.makesLock_iff.mpr ⟨?_, ?_, hfault.trans hf, hplay.multiball.trans hmb, q, hplay.player.trans hplayer, hlit⟩
    · rw [hplay.gpc]; exact hgame
    · rw [hplay.gpc]; exact htilt
  rw [exec_awardEvaluation_counts hq hl hc hrule (Device.room hd hroom), State.handleEntry_lock (hdef.trans hd) hk,
    State.lockEntry, if_pos hmakes,
    State.makeLock_eq (by rw [hplay.gpc]; exact hcur) (by rw [hplay.ptb]; exact hp)]
  rfl

/-- The records of a lock made of a ball taken, by those of the state before. -/
theorem State.takenLock_records (s : State) (rest : List Entry) (n : Nat) (q : Player) (d : Fin 6) :
    (s.takenLock rest n q d).mst = s.mst ∧ (s.takenLock rest n q d).tmu = s.tmu ∧ (s.takenLock rest n q d).gpc = s.gpc ∧
    (s.takenLock rest n q d).glk = s.glk ∧ (s.takenLock rest n q d).lmc.params = s.lmc.params ∧
    (s.takenLock rest n q d).lmc.multiball = s.lmc.multiball := by
  obtain ⟨-, hmst, htmu, hgpc, hglk, hparams, hmb⟩ := ((s.afterTake rest).counted d).locked_records n q d
  obtain ⟨hplay, -, -, hglk'⟩ := (s.afterTake rest).counted_others d
  exact ⟨hmst.trans hplay.mst, htmu.trans hplay.tmu, hgpc.trans hplay.gpc, hglk.trans hglk', hparams.trans hplay.lockParams,
    hmb.trans hplay.multiball⟩

theorem State.takenLock_player (hp : s.ptb.players[n]? = some q) : (s.takenLock rest n q d).ptb.players[n]? =
      some { q with locksLit := q.locksLit - 1, locksMade := q.locksMade + 1 } ∧
    (∀ m, m ≠ n → (s.takenLock rest n q d).ptb.players[m]? = s.ptb.players[m]?) ∧
    (s.takenLock rest n q d).ptb.commonValues = s.ptb.commonValues := by
  have hplay := s.taken_play rest d
  obtain ⟨hsame, hothers, hcommon⟩ := State.locked_player (u := (s.afterTake rest).counted d) (n := n) (q := q) (d := d)
    (by rw [hplay.ptb]; exact hp)
  exact ⟨hsame, fun m hm => (hothers m hm).trans (by rw [hplay.ptb]), hcommon.trans (by rw [hplay.ptb])⟩

theorem State.takenLock_claims (s : State) (rest : List Entry) (n : Nat) (q : Player) (d : Fin 6) :
    (s.takenLock rest n q d).lmc.claims[d] = s.lmc.claims[d] ++ [n + 1] ∧
    ∀ c : Fin 6, c ≠ d → (s.takenLock rest n q d).lmc.claims[c] = s.lmc.claims[c] := by
  have hlmc : ((s.afterTake rest).counted d).lmc = s.lmc := s.taken_lmc rest d
  have h := ((s.afterTake rest).counted d).locked_claims n q d
  rw [hlmc] at h
  exact h

theorem State.takenLock_endHolds : (s.takenLock rest n q d).ballEndHolds = true ↔ s.bdt.ballsInPlay ≤ 1 ∧
    ∀ c : Fin 6, (s.bdt.devices[c]).faulted = false → (s.bdt.devices[c]).ejectPending = 0 :=
  (s.afterTake rest).counted_endHolds d

/-- The ball end after a lock that leaves no ball in play and none owed. -/
theorem State.takenLock_ballEnd (hm : ModeLaw s) (ht : TimerLaw s) (hgame : s.gpc.game = .inPlay)
    (hcur : s.gpc.current = some (n + 1)) (hp : s.ptb.players[n]? = some q) :
    BallEnds s (s.takenLock rest n q d).ballEnd n { q with locksLit := q.locksLit - 1, locksMade := q.locksMade + 1 } := by
  obtain ⟨hmst, htmu, hgpc, -, hparams, hmb⟩ := s.takenLock_records rest n q d
  obtain ⟨hplayer, hothers, hcommon⟩ := State.takenLock_player (rest := rest) (d := d) hp
  have hlaw : (s.takenLock rest n q d).Lawful :=
    (State.Lawful.of_laws hm ht (.inr hgame)).of_same hmst htmu (by rw [State.currentPlayer, hgpc]; rfl)
  have hend := (State.SamePlay.refl (s.takenLock rest n q d)).ballEnd hlaw (by rw [hgpc, hgame]; nofun)
    (by rw [hgpc]; exact hcur) hplayer
  exact hend.ballEnds.of_start hmst htmu hgpc hmb hparams hothers hcommon

theorem State.column_at {π : Player → Nat} {q' : Player} (h : t.column π = s.column π) (hq : s.ptb.players[n]? = some q)
    (hq' : t.ptb.players[n]? = some q') : π q' = π q := by
  obtain ⟨p, hp, hπ⟩ := State.column_get h hq
  cases hq'.symm.trans hp
  exact hπ

theorem State.ballEnd_game (s : State) : s.ballEnd.gpc.game = .ballOver := by
  rw [State.ballEnd_eq, State.ballReset_gpc]
  simp [State.ballClosed_gpc]

/-- The play after a lock that leaves the game IN_PLAY lights no lock and clears none. -/
theorem State.playOn_lit (h : (s.playOn d).gpc.game = .inPlay) :
    (s.playOn d).column Player.locksLit = s.column Player.locksLit := by
  unfold State.playOn State.kickOut at h ⊢
  split
  · exact State.column_congr
  · next hroom =>
    rw [if_neg hroom] at h
    split
    · next hballs =>
      rw [if_pos hballs] at h
      split
      · next hadds =>
        rw [if_pos hadds, State.ballEndCheck] at h
        rw [State.ballEndCheck]
        split
        · next hends =>
          rw [if_pos hends, State.ballEnd_game] at h
          cases h
        · exact State.column_congr
      · exact State.column_congr
    · rfl

/-- The player, the claims and LOCK_MADE after a lock made short of mb_locks, in every course of the play (R130). -/
theorem State.lockMade_stands (st : List (Fin 12)) (hgame : s.gpc.game = .inPlay) (hp : s.ptb.players[n]? = some q)
    (ht : t = ((s.takenLock rest n q d).playOn d).awarded g l st) :
    ∃ q' : Player, t.ptb.players[n]? = some q' ∧ t.lmc.claims[d] = s.lmc.claims[d] ++ [n + 1] ∧
      (∀ c : Fin 6, c ≠ d → t.lmc.claims[c] = s.lmc.claims[c]) ∧ q'.locksMade = q.locksMade + 1 ∧
      (l = [] → t.gpc.game = .inPlay → q'.locksLit = q.locksLit - 1) ∧ t.hasNotice .lockMade = true := by
  obtain ⟨-, -, hgpc, -, -, -⟩ := s.takenLock_records rest n q d
  obtain ⟨hplayer, -, -⟩ := State.takenLock_player (rest := rest) (d := d) hp
  obtain ⟨hclaim, hothers⟩ := s.takenLock_claims rest n q d
  have hnote : (s.takenLock rest n q d).hasNotice .lockMade = true := State.locked_notice ..
  generalize s.takenLock rest n q d = v at *
  obtain ⟨hclaims, hmade, hgrows⟩ := v.playOn_keeps d (by rw [hgpc, hgame]; nofun)
  have hmade' : t.column Player.locksMade = v.column Player.locksMade := ht ▸ State.made_awarded.trans hmade
  obtain ⟨q', hq', hlocks⟩ := State.column_get hmade' hplayer
  have hcl : t.lmc.claims = v.lmc.claims := ht ▸ (State.awarded_claims _).trans hclaims
  refine ⟨q', hq', by rw [hcl]; exact hclaim, fun c hc => by rw [hcl]; exact hothers c hc, hlocks, fun hnil hin => ?_,
    ht ▸ State.awarded_notice (hgrows _ hnote)⟩
  subst hnil
  have hin' : (v.playOn d).gpc.game = .inPlay := by
    rw [ht, State.awarded_gpc] at hin
    exact hin
  have hlit : t.column Player.locksLit = v.column Player.locksLit := ht ▸ State.lit_awarded.trans (State.playOn_lit hin')
  exact State.column_at hlit hplayer hq'

/-- The room kept: the full keep_room device releases one ball (R131). -/
theorem State.takenLock_roomKept (hd : (s.device d).definition = some x) (hf : (s.device d).faulted = false)
    (hp : (s.device d).ejectPending ≤ (s.device d).occupancy) (hd0 : d ≠ 0) {a : Bool} (hk : x.kind = .lock a true)
    (hfull : (s.device d).occupancy + 1 = x.capacity) (hy : u = (s.takenLock rest n q d).playOn d) :
    (u.device d).ejectPending = (s.device d).ejectPending + 1 ∧ u.device 0 = s.device 0 ∧ u.gpc = s.gpc := by
  have hdev : (s.takenLock rest n q d).device d = { s.device d with occupancy := (s.device d).occupancy + 1 } :=
    (s.afterTake rest).counted_same d
  have hone : ((s.takenLock rest n q d).device d).adds 1 = 1 := State.counted_adds (s := s.afterTake rest) hd hf hp
  have hzero : (s.takenLock rest n q d).device 0 = s.device 0 :=
    State.counted_other (s := s.afterTake rest) fun e => hd0 e.symm
  obtain ⟨-, -, hgpc, -, -, -⟩ := s.takenLock_records rest n q d
  have hkeep : u = ((s.takenLock rest n q d).requestEject d 1).1 := by
    rw [hy]
    refine State.playOn_roomKept ⟨?_, ?_⟩
    · rw [hdev]
      exact Device.keepsRoom_lock hd hk
    · rw [hdev]
      exact hfull.trans (Device.capacity_defined (r := { s.device d with occupancy := (s.device d).occupancy + 1 }) hd).symm
  obtain ⟨hpend, hrest, -, -⟩ := (s.takenLock rest n q d).requestEject_devices d 1
  rw [hkeep]
  refine ⟨?_, ?_, ?_⟩
  · rw [hpend, hone, hdev]
  · rw [hrest 0 fun e => hd0 e.symm, hzero]
  · exact (by simp : ((s.takenLock rest n q d).requestEject d 1).1.gpc = (s.takenLock rest n q d).gpc).trans hgpc

/-- No room to be kept: a full device without keep_room, or one with a position left. -/
theorem State.takenLock_noRoom (hd : (s.device d).definition = some x) {a b : Bool} (hk : x.kind = .lock a b)
    (h : b = false ∨ (s.device d).occupancy + 1 ≠ x.capacity) :
    ¬ (((s.takenLock rest n q d).device d).keepsRoom = true ∧
      ((s.takenLock rest n q d).device d).occupancy = ((s.takenLock rest n q d).device d).capacity) := by
  have hdev : (s.takenLock rest n q d).device d = { s.device d with occupancy := (s.device d).occupancy + 1 } :=
    (s.afterTake rest).counted_same d
  rw [hdev]
  rintro ⟨hkeep, hfull⟩
  have hcap := Device.capacity_defined (r := { s.device d with occupancy := (s.device d).occupancy + 1 }) hd
  have hroom := Device.keepsRoom_lock (r := { s.device d with occupancy := (s.device d).occupancy + 1 }) hd hk
  rcases h with h | h
  · rw [hroom, h] at hkeep
    cases hkeep
  · exact h (hfull.trans hcap)

theorem State.ballEndCheck_device (s : State) (c : Fin 6) : s.ballEndCheck.device c = s.device c := by
  rw [State.device, (by simp : s.ballEndCheck.bdt = s.bdt)]
  rfl

/-- With no room to keep, the play goes on, or the trough serves, or the ball-end condition is checked (R131). -/
theorem State.takenLock_serves (hd0 : d ≠ 0) (hno : ¬ (((s.takenLock rest n q d).device d).keepsRoom = true ∧
      ((s.takenLock rest n q d).device d).occupancy = ((s.takenLock rest n q d).device d).capacity))
    (hu : u = (s.takenLock rest n q d).playOn d) :
    u.device d = { s.device d with occupancy := (s.device d).occupancy + 1 } ∧
    (1 < s.bdt.ballsInPlay → u.device 0 = s.device 0 ∧ u.gpc = s.gpc) ∧
    (s.bdt.ballsInPlay ≤ 1 → (s.device 0).adds 1 = 1 →
      (u.device 0).ejectPending = (s.device 0).ejectPending + 1 ∧ u.gpc = s.gpc) ∧
    (s.bdt.ballsInPlay ≤ 1 → (s.device 0).adds 1 = 0 → u = (s.takenLock rest n q d).ballEndCheck) := by
  have hdev : (s.takenLock rest n q d).device d = { s.device d with occupancy := (s.device d).occupancy + 1 } :=
    (s.afterTake rest).counted_same d
  have hzero : (s.takenLock rest n q d).device 0 = s.device 0 :=
    State.counted_other (s := s.afterTake rest) fun e => hd0 e.symm
  have hballs : (s.takenLock rest n q d).bdt.ballsInPlay = s.bdt.ballsInPlay - 1 := (s.afterTake rest).counted_ballsInPlay d
  obtain ⟨-, -, hgpc, -, -, -⟩ := s.takenLock_records rest n q d
  generalize s.takenLock rest n q d = v at *
  obtain ⟨hpend, hrest, -, -⟩ := v.requestEject_devices 0 1
  have hserved (hb : s.bdt.ballsInPlay ≤ 1) (ha : (s.device 0).adds 1 = 1) : u = (v.requestEject 0 1).1 := by
    rw [hu, State.playOn_served hno (by omega) (by rw [hzero]; exact ha)]
  have hunserved (hb : s.bdt.ballsInPlay ≤ 1) (ha : (s.device 0).adds 1 = 0) : u = v.ballEndCheck := by
    rw [hu, State.playOn_unserved hno (by omega) (by rw [hzero]; exact ha)]
  have hstays (hb : 1 < s.bdt.ballsInPlay) : u = v := by rw [hu, State.playOn_stays hno (by omega)]
  refine ⟨?_, fun hb => ?_, fun hb ha => ?_, hunserved⟩
  · rw [← hdev]
    rcases Nat.lt_or_ge 1 s.bdt.ballsInPlay with hb | hb
    · rw [hstays hb]
    · have hle := (Device.adds_le (s.device 0) 1).1
      rcases Nat.eq_zero_or_pos ((s.device 0).adds 1) with ha | ha
      · rw [hunserved hb ha, State.ballEndCheck_device]
      · rw [hserved hb (by omega)]
        exact hrest d hd0
  · rw [hstays hb]
    exact ⟨hzero, hgpc⟩
  · rw [hserved hb ha]
    refine ⟨?_, (by simp : (v.requestEject 0 1).1.gpc = v.gpc).trans hgpc⟩
    rw [hpend, hzero, ha]

/-! ### Multiball started by a lock (R131, R138) -/

theorem exec_startMultiball_starts (hw : s.glk.waiting = false) (hgame : s.gpc.game = .inPlay)
    (htilt : s.gpc.tilted = false) (hmb : s.lmc.multiball = false) (hcur : s.gpc.current = some (n + 1)) :
    exec (.startMultiball []) s = .next ((s.startMultiball (n + 1)).1.answer 0x34 .ok
      [small (s.startMultiball (n + 1)).2, small s.ballsWanted]) :=
  takeRequest_answers hw (by
    rw [Machine.startMultiball, if_pos ⟨State.scores_iff.mpr ⟨hgame, htilt⟩, hmb⟩, State.currentPlayer_eq hcur]
    rfl)

theorem State.startMultiball_records (s : State) (p : Nat) : (s.startMultiball p).1.mst = s.mst ∧
    (s.startMultiball p).1.gpc = s.gpc ∧ (s.startMultiball p).1.glk = s.glk ∧ (s.startMultiball p).1.swi = s.swi ∧
    (s.startMultiball p).1.lmc.multiball = true := by
  have hsource := s.source_sameButBalls p s.ballsWanted
  rw [show (s.startMultiball p).1 = (s.source p s.ballsWanted).state.completeStart p from rfl]
  generalize (s.source p s.ballsWanted).state = u at hsource
  refine ⟨(by simp : (u.completeStart p).mst = u.mst).trans hsource.mst,
    (by simp : (u.completeStart p).gpc = u.gpc).trans hsource.gpc,
    (by simp : (u.completeStart p).glk = u.glk).trans hsource.glk,
    (by simp : (u.completeStart p).swi = u.swi).trans hsource.swi, ?_⟩
  rw [State.completeStart_eq]
  split <;> simp [State.multiballOn]

end

/-- Settles O35. -/
theorem litLocksAreMade : Obligations.LitLocksAreMade := by
  unfold Obligations.LitLocksAreMade
  intro s e rest d g l r trough x stealable keepRoom n q hq hl hc hrule hr htr hd0 hd hk hf hroom hp hgame htilt hmb hcur hpl
    hlit
  subst hr htr
  have hexec := exec_awardEvaluation_locks hq hl hc hrule hd hk hf hroom hgame htilt hmb hcur hpl hlit
  obtain ⟨hmst, htmu, hgpc, hglk, hparams, hoff⟩ := s.takenLock_records rest n q d
  obtain ⟨hplayer, -, -⟩ := State.takenLock_player (rest := rest) (d := d) hpl
  refine ⟨fun hshort => ?short, fun hfull hw hfree u v hu hv => ?full⟩
  case short =>
    rw [State.afterLock_short hplayer (by rw [hparams]; exact hshort)] at hexec
    obtain ⟨q', hq', hclaim, hothers, hmade, hlocks, hnote⟩ := State.lockMade_stands (g := g) (l := l) (rest := rest) (d := d)
      s.mst.stack hgame hpl rfl
    have hbdt (c : Fin 6) : (((s.takenLock rest n q d).playOn d).awarded g l s.mst.stack).bdt.devices[c] =
        ((s.takenLock rest n q d).playOn d).device c := by rw [State.awarded_bdt]; rfl
    have hinPlay {w : State} (h : w.gpc = s.gpc) : (w.awarded g l s.mst.stack).gpc.game = .inPlay := by
      rw [State.awarded_gpc, h, hgame]
    refine ⟨_, q', hexec, hq', hclaim, hothers, hmade, hlocks, hnote, fun hkeep hroomy => ?_, fun hno => ?_⟩
    · obtain ⟨hpend, hzero, hg⟩ := State.takenLock_roomKept (rest := rest) (n := n) (q := q)
        hd hf hp hd0 (hkeep ▸ hk) hroomy rfl
      rw [hbdt, hbdt]
      exact ⟨hpend, hzero, hinPlay hg⟩
    · obtain ⟨hdev, hstays, hserves, hchecks⟩ := State.takenLock_serves (n := n) (q := q) hd0
        (State.takenLock_noRoom (rest := rest) hd hk hno) rfl
      rw [hbdt, hbdt]
      refine ⟨hdev, fun hb => ⟨(hstays hb).1, hinPlay (hstays hb).2⟩, fun hb hpres hready hgive => ?_, fun hb hnone => ?_⟩
      · have hone : (s.device 0).adds 1 = 1 :=
          Device.adds_one (Option.isSome_iff_ne_none.mp hpres) hready hgive
        exact ⟨(hserves hb hone).1, hinPlay (hserves hb hone).2⟩
      · have hadds : (s.device 0).adds 1 = 0 := Device.adds_eq_zero_iff.mpr (by
          rcases hnone with h | h | h
          · exact .inl h
          · exact .inr (.inl h)
          · exact .inr (.inr (.inr h)))
        have hcheck := hchecks hb hadds
        have hzero : (s.takenLock rest n q d).device 0 = s.device 0 :=
          State.counted_other (s := s.afterTake rest) fun e => hd0 e.symm
        rw [hcheck]
        refine ⟨?_, fun hm ht hall => ?_, fun ⟨c, hcf, hcp⟩ => ?_⟩
        · exact (State.ballEndCheck_device ..).trans hzero
        · rw [State.ballEndCheck_ends (State.takenLock_endHolds.mpr ⟨hb, hall⟩)]
          have hends := State.takenLock_ballEnd (rest := rest) (d := d) hm ht hgame hcur hpl
          rw [State.awarded_unscored (.inl (by rw [State.ballEnd_game]; nofun))]
          exact hends
        · rw [State.awarded_gpc, State.ballEndCheck, if_neg]
          · exact hgpc
          · intro hends
            exact hcp ((State.takenLock_endHolds.mp hends).2 c hcf)
  case full =>
    rw [State.afterLock_full hplayer (by rw [hparams]; exact hfull)] at hexec
    have hlmc : ((s.afterTake rest).counted d).lmc = s.lmc := s.taken_lmc rest d
    have hcount : u = (s.afterTake rest).counted d := hu
    have hlocked : v = s.takenLock rest n q d := by
      rw [hv, hcount, State.takenLock, State.locked, hlmc]
    rw [hlocked]
    obtain ⟨hmst', hgpc', hglk', -, hon⟩ := (s.takenLock rest n q d).startMultiball_records (n + 1)
    refine ⟨_, _, exec_startMultiball_starts (by rw [hglk]; exact hw) (by rw [hgpc]; exact hgame)
      (by rw [hgpc]; exact htilt) (hoff.trans hmb) (by rw [hgpc]; exact hcur), hglk'.trans hglk, hon, ?_⟩
    rw [hexec, State.awarded_unclaimed (by rw [hgpc', hgpc]; exact hgame) (by rw [hgpc', hgpc]; exact htilt)]
    intro y hy
    rw [(State.KeepsKind.of_mst (y := y) (hmst'.trans hmst)).claims g]
    exact hfree y hy

end Sys2Proof.Machine
end

section
/-! PROOFS. One device asked for the balls of multiball: the eject requests, the claims taken, the locks lost (R136). -/

namespace Sys2Proof.Machine

/-! ### What a step of the sourcing does -/

/-- A device's record after eject requests that added k balls (R116). -/
def Device.asked (r : Device) (k : Nat) : Device :=
  if k = 0 then r
  else if r.ejectPending = 0 then { r with ejectPending := k, retries := 0, ejectTimer := some r.timeout }
  else { r with ejectPending := r.ejectPending + k }

/-- The balls a device can be asked for. -/
def Device.spare (r : Device) : Nat :=
  if r.present = true ∧ r.faulted = false then r.occupancy - r.ejectPending else 0

/-- Whether a claim taken from a device costs its owner a made lock: a LOCK under STEALABLE (R136). -/
def Device.steals (r : Device) : Bool :=
  match r.definition.map DeviceDef.kind with
  | some (.lock true _) => true
  | _ => false

/-- A player's record after the loss of k made locks. -/
def Player.lose (k : Nat) (r : Player) : Player := { r with locksMade := r.locksMade - k }

section
variable {r : Device} {j k n : Nat}

theorem Device.asked_zero (r : Device) : r.asked 0 = r := rfl

theorem Device.asked_pending (r : Device) (k : Nat) : (r.asked k).ejectPending = r.ejectPending + k := by
  unfold Device.asked
  split
  · next h => rw [h, Nat.add_zero]
  · split
    · next h => exact (by rw [h, Nat.zero_add])
    · rfl

theorem Device.asked_kept (r : Device) (k : Nat) : (r.asked k).definition = r.definition ∧
    (r.asked k).faulted = r.faulted ∧ (r.asked k).occupancy = r.occupancy := by
  unfold Device.asked
  split
  · exact ⟨rfl, rfl, rfl⟩
  · split <;> exact ⟨rfl, rfl, rfl⟩

theorem Device.asked_asked (r : Device) (j k : Nat) : (r.asked j).asked k = r.asked (j + k) := by
  rcases Nat.eq_zero_or_pos j with rfl | hj
  · rw [Device.asked_zero, Nat.zero_add]
  · rcases Nat.eq_zero_or_pos k with rfl | hk
    · rw [Device.asked_zero, Nat.add_zero]
    · have hpend : (r.asked j).ejectPending ≠ 0 := by rw [Device.asked_pending]; omega
      rw [Device.asked, if_neg (Nat.ne_of_gt hk), if_neg hpend]
      unfold Device.asked
      rw [if_neg (Nat.ne_of_gt hj), if_neg (by omega : ¬ j + k = 0)]
      split
      · rfl
      · rw [Nat.add_assoc]

theorem Device.adds_spare (r : Device) (n : Nat) : r.adds n = min n r.spare := by
  unfold Device.adds Device.spare
  split
  · rfl
  · rw [Nat.min_zero]

theorem Device.asked_spare (r : Device) (k : Nat) : (r.asked k).spare = r.spare - k := by
  obtain ⟨hd, hf, ho⟩ := r.asked_kept k
  unfold Device.spare Device.present
  rw [hd, hf, ho, Device.asked_pending]
  split
  · exact Nat.sub_add_eq ..
  · exact (Nat.zero_sub k).symm

theorem Device.asked_steals (r : Device) (k : Nat) : (r.asked k).steals = r.steals ∧ (r.asked k).isLock = r.isLock := by
  unfold Device.steals Device.isLock
  rw [(r.asked_kept k).1]
  exact ⟨rfl, rfl⟩

theorem Device.steals_iff {r : Device} : r.steals = true ↔ ∃ x b, r.definition = some x ∧ x.kind = .lock true b := by
  unfold Device.steals
  cases hd : r.definition with
  | none => simp
  | some x =>
    cases hk : x.kind with
    | trough => simp [hk]
    | scoop => simp [hk]
    | lock a b => cases a <;> simp [hk]

theorem Player.lose_lose (r : Player) (j k : Nat) : Player.lose k (Player.lose j r) = Player.lose (j + k) r := by
  rw [Player.lose, Player.lose, Player.lose, Nat.sub_add_eq]

end

/-- The sourcing y after x: device c was asked for got c balls more, and the players named in lost have lost a made
lock each, in this order (R116, R136). -/
structure Sourcing.Moves (x y : Sourcing) (got : Fin 6 → Nat) (lost : List Nat) : Prop where
  wanted : y.wanted = x.wanted - ∑ c, got c
  obtained : y.obtained = x.obtained + ∑ c, got c
  device : ∀ c : Fin 6, y.state.device c = (x.state.device c).asked (got c)
  notice : ∀ c : Fin 6, got c ≠ 0 → (x.state.device c).ejectPending = 0 → y.state.hasNotice (.ejectReq c) = true
  grows : x.state.ntu.Grows y.state.ntu
  players : ∀ m : Nat, y.state.ptb.players[m]? = (x.state.ptb.players[m]?).map (Player.lose (lost.count (m + 1)))
  lockLost : y.state.hasNotice .lockLost = (x.state.hasNotice .lockLost || !lost.isEmpty)
  balls : { y.state.bdt with devices := x.state.bdt.devices } = x.state.bdt
  values : { y.state.ptb with players := x.state.ptb.players } = x.state.ptb

section
variable {x y z : Sourcing} {s t : State} {got got' : Fin 6 → Nat} {lost lost' : List Nat} {d c : Fin 6} {k n p e : Nat}
  {mine : Bool} {l : List Nat}

theorem Sourcing.Moves.trans (h : x.Moves y got lost) (h' : y.Moves z got' lost') :
    x.Moves z (fun c => got c + got' c) (lost ++ lost') where
  wanted := by rw [h'.wanted, h.wanted, Finset.sum_add_distrib, Nat.sub_add_eq]
  obtained := by rw [h'.obtained, h.obtained, Finset.sum_add_distrib, Nat.add_assoc]
  device c := by rw [h'.device, h.device, Device.asked_asked]
  notice c hc h0 := by
    rcases Nat.eq_zero_or_pos (got c) with hg | hg
    · refine h'.notice c (by omega) ?_
      rw [h.device, Device.asked_pending, h0, hg]
    · exact State.hasNotice_of_grows h'.grows (h.notice c (Nat.ne_of_gt hg) h0)
  grows := h.grows.trans h'.grows
  players m := by
    rw [h'.players, h.players, Option.map_map, List.count_append]
    exact congrArg (fun f => Option.map f _) (funext fun r => Player.lose_lose ..)
  lockLost := by
    rw [h'.lockLost, h.lockLost, Bool.or_assoc]
    cases lost <;> cases lost' <;> simp
  balls := by rw [← h.balls, ← h'.balls]
  values := by rw [← h.values, ← h'.values]

theorem Sourcing.Moves.congr (h : x.Moves y got lost) (hg : got' = got) (hl : lost' = lost) : x.Moves y got' lost' :=
  hg ▸ hl ▸ h

/-- A step that asks no device. -/
theorem Sourcing.Moves.still (hw : y.wanted = x.wanted) (ho : y.obtained = x.obtained)
    (hb : y.state.bdt = x.state.bdt) (hn : y.state.ntu = x.state.ntu) (hp : y.state.ptb = x.state.ptb) :
    x.Moves y (fun _ => 0) [] where
  wanted := by rw [hw]; simp
  obtained := by rw [ho]; simp
  device c := by rw [Device.asked_zero, State.device, State.device, hb]
  notice _ h := absurd rfl h
  grows := hn ▸ .refl _
  players m := by rw [hp]; exact Option.map_id'.symm
  lockLost := by rw [State.hasNotice, State.hasNotice, hn]; simp
  balls := by rw [hb]
  values := by rw [hp]

theorem Sourcing.Moves.refl (x : Sourcing) : x.Moves x (fun _ => 0) [] := .still rfl rfl rfl rfl rfl

/-- The balls got from one device. -/
def gotFrom (d : Fin 6) (k : Nat) (c : Fin 6) : Nat := if c = d then k else 0

theorem gotFrom_sum (d : Fin 6) (k : Nat) : ∑ c, gotFrom d k c = k := by simp [gotFrom]

theorem gotFrom_zero (d : Fin 6) : gotFrom d 0 = fun _ => 0 := funext fun _ => ite_self 0

theorem gotFrom_add (d : Fin 6) (j k : Nat) : (fun c => gotFrom d j c + gotFrom d k c) = gotFrom d (j + k) := by
  funext c
  unfold gotFrom
  split <;> rfl

/-- One eject request of the sourcing (R116, R136). -/
theorem Sourcing.request_moves (x : Sourcing) (d : Fin 6) (n : Nat) :
    x.Moves (x.request d n) (gotFrom d ((x.state.device d).adds n)) [] := by
  have hframe : (x.request d n).state.ptb = x.state.ptb := by simp [Sourcing.request]
  have hgrows : x.state.ntu.Grows (x.request d n).state.ntu := (Keeps.refl x.state).requestEject.notices
  have hadd := x.state.requestEject_added d n
  refine ⟨?_, ?_, fun c => ?_, fun c hc h0 => ?_, hgrows, fun m => ?_, ?_, ?_, by rw [hframe]⟩
  · rw [gotFrom_sum, ← hadd]; rfl
  · rw [gotFrom_sum, ← hadd]; rfl
  · change (x.state.requestEject d n).1.device c = _
    by_cases hc : c = d
    · subst hc
      rw [gotFrom, if_pos rfl]
      rcases x.state.requestEject_cases c n with ⟨h0, he⟩ | ⟨hpos, hp, he⟩ | ⟨hpos, hp, he⟩ <;> rw [he]
      · rw [h0]; rfl
      · refine (State.withDevice_same c _).trans ?_
        rw [Device.asked, if_neg (Nat.ne_of_gt hpos), if_pos hp]
      · refine (State.withDevice_same c _).trans ?_
        rw [Device.asked, if_neg (Nat.ne_of_gt hpos), if_neg (Nat.ne_of_gt hp)]
    · rw [gotFrom, if_neg hc, Device.asked_zero]
      exact State.requestEject_other hc
  · by_cases hcd : c = d
    · subst hcd
      rw [gotFrom, if_pos rfl] at hc
      change (x.state.requestEject c n).1.hasNotice (.ejectReq c) = true
      rw [State.requestEject_starts (Nat.pos_of_ne_zero hc) h0]
      exact State.hasNotice_raise_self ..
    · exact absurd (if_neg hcd) hc
  · rw [hframe]
    exact Option.map_id'.symm
  · change (x.state.requestEject d n).1.hasNotice .lockLost = _
    rcases x.state.requestEject_cases d n with ⟨-, he⟩ | ⟨-, -, he⟩ | ⟨-, -, he⟩ <;> rw [he]
    · simp
    · rw [State.hasNotice_raise]
      exact congrArg₂ or rfl (decide_eq_false nofun)
    · exact (Bool.or_false _).symm
  · change { (x.state.requestEject d n).1.bdt with devices := x.state.bdt.devices } = x.state.bdt
    rcases x.state.requestEject_cases d n with ⟨-, he⟩ | ⟨-, -, he⟩ | ⟨-, -, he⟩ <;> rw [he] <;> rfl

/-! ### Locks lost (R136) -/

theorem State.loseLock_eq (s : State) (d : Fin 6) (o : Nat) : s.loseLock d o = if (s.device d).steals then
    (s.modifyPlayer o (Player.lose 1)).raise .lockLost else s := by
  cases h : (s.device d).steals with
  | true =>
    obtain ⟨x, b, hd, hk⟩ := Device.steals_iff.mp h
    exact State.loseLock_stealable hd hk
  | false =>
    refine State.loseLock_kept fun b hb => ?_
    obtain ⟨x, hd, hk⟩ := Option.map_eq_some_iff.mp hb
    rw [Device.steals_iff.mpr ⟨x, b, hd, hk⟩] at h
    cases h

theorem State.modifyPlayer_lose (s : State) (o m : Nat) : (s.modifyPlayer o (Player.lose 1)).ptb.players[m]? =
    (s.ptb.players[m]?).map (Player.lose ([o].count (m + 1))) := by
  cases o with
  | zero =>
    rw [List.count_singleton, if_neg (by simp)]
    exact Option.map_id'.symm
  | succ k =>
    have hmod : (s.modifyPlayer (k + 1) (Player.lose 1)).ptb.players = s.ptb.players.modify k (Player.lose 1) := rfl
    rw [hmod, List.getElem?_modify, List.count_singleton]
    by_cases hk : k = m
    · simp [hk]
    · simp only [if_neg hk, beq_iff_eq, Nat.add_right_cancel_iff]
      rfl

/-- A claim taken from another player costs the player a made lock under STEALABLE, with LOCK_LOST raised. -/
theorem Sourcing.loseLock_moves (x : Sourcing) (d : Fin 6) (o : Nat) :
    x.Moves { x with state := x.state.loseLock d o } (fun _ => 0) (if (x.state.device d).steals then [o] else []) := by
  rw [State.loseLock_eq]
  split
  · have hntu : (x.state.modifyPlayer o (Player.lose 1)).ntu = x.state.ntu := by simp
    have hbdt : (x.state.modifyPlayer o (Player.lose 1)).bdt = x.state.bdt := by simp
    have hvalues : { (x.state.modifyPlayer o (Player.lose 1)).ptb with players := x.state.ptb.players } = x.state.ptb := by
      cases o <;> rfl
    have hplayers := State.modifyPlayer_lose x.state o
    generalize x.state.modifyPlayer o (Player.lose 1) = u at hntu hbdt hvalues hplayers ⊢
    refine ⟨by simp, by simp, fun c => ?_, fun _ h => absurd rfl h, ?_, hplayers, ?_, ?_, hvalues⟩
    · rw [Device.asked_zero, State.device, State.device, ← hbdt]
      rfl
    · rw [← hntu]
      exact Ntu.grows_raise ..
    · rw [State.hasNotice_raise, State.hasNotice, State.hasNotice, hntu]
      simp
    · rw [← hbdt]
      rfl
  · exact .refl x

end

end Sys2Proof.Machine
end

section
/-! PROOFS. The sourcing of multiball, device by device and step by step (R136). -/

namespace Sys2Proof.Machine

/-- The owners who lose a made lock when k of the claims in l are taken in step 1 (p's own) or step 3 (the others'). -/
def Device.losses (r : Device) (p : Nat) (mine : Bool) (l : List Nat) (k : Nat) : List Nat :=
  if mine = false ∧ r.steals = true then (l.filter fun o => decide (o ≠ p)).take k else []

section
variable {x y z : Sourcing} {s t : State} {got got' : Fin 6 → Nat} {lost lost' : List Nat} {d c : Fin 6} {k n p e w : Nat}
  {mine : Bool} {l : List Nat} {r : Device}

/-! ### The claims of one device (R136, steps 1 and 3) -/

theorem State.claimTakable_iff : s.claimTakable d = true ↔ 0 < (s.device d).spare := by
  simp only [State.claimTakable, Device.spare, Bool.and_eq_true, Bool.not_eq_true', decide_eq_true_eq, and_assoc]
  split
  · next h => simp [h]
  · next h => simp only [Nat.lt_irrefl, iff_false]; exact fun ⟨h1, h2, _⟩ => h ⟨h1, h2⟩

/-- The claims taken from one device: the requests they make and the locks their owners lose. -/
theorem Sourcing.takeClaims_moves (d : Fin 6) (p : Nat) (mine : Bool) (l : List Nat) : ∀ (x : Sourcing) (e : Nat),
    e = min (l.countP fun o => decide (o = p) == mine) (min x.wanted (x.state.device d).spare) →
    x.Moves (x.takeClaims d p mine l).1 (gotFrom d e) ((x.state.device d).losses p mine l e) := by
  induction l with
  | nil =>
    intro x e he
    have h0 : e = 0 := by rw [he, List.countP_nil, Nat.zero_min]
    rw [h0, gotFrom_zero]
    refine (Sourcing.Moves.refl x).congr rfl ?_
    unfold Device.losses
    split <;> rfl
  | cons o l ih =>
    intro x e he
    rw [Sourcing.takeClaims]
    by_cases hm : decide (o = p) = mine
    · have hcount : (o :: l).countP (fun o => decide (o = p) == mine) = l.countP (fun o => decide (o = p) == mine) + 1 :=
        List.countP_cons_of_pos (by simpa using hm)
      by_cases ht : 0 < x.wanted ∧ 0 < (x.state.device d).spare
      · obtain ⟨hw, hs⟩ := ht
        rw [if_pos ⟨hw, hm, State.claimTakable_iff.mpr hs⟩]
        have hfirst : x.Moves (if mine then x else { x with state := x.state.loseLock d o }) (fun _ => 0)
            ((x.state.device d).losses p mine (o :: l) 1) := by
          cases mine with
          | true => exact (Sourcing.Moves.refl x).congr rfl (if_neg (by simp))
          | false =>
            refine (x.loseLock_moves d o).congr rfl ?_
            have hne : o ≠ p := by simpa using hm
            simp [Device.losses, hne]
        have hwanted : (if mine then x else { x with state := x.state.loseLock d o }).wanted = x.wanted := by
          cases mine <;> rfl
        generalize (if mine then x else { x with state := x.state.loseLock d o }) = y at hfirst hwanted ⊢
        have hdev : y.state.device d = x.state.device d := hfirst.device d
        have hone : (y.state.device d).adds 1 = 1 := by rw [Device.adds_spare, hdev]; omega
        have hreq := y.request_moves d 1
        rw [hone] at hreq
        have hrest := ih (y.request d 1) (e - 1) (by
          rw [hreq.wanted, hreq.device, gotFrom_sum, gotFrom, if_pos rfl, Device.asked_spare, hdev, hwanted, he, hcount]
          omega)
        have he1 : 1 + (e - 1) = e := by rw [he, hcount]; omega
        refine ((hfirst.trans hreq).trans hrest).congr ?_ ?_
        · have hsum := gotFrom_add d 1 (e - 1)
          rw [he1] at hsum
          rw [← hsum]
          funext c
          rw [Nat.zero_add]
        · rw [hreq.device, gotFrom, if_pos rfl, hdev, List.append_nil]
          unfold Device.losses
          rw [(Device.asked_steals _ _).1]
          split
          · next hsteals =>
            have hne : o ≠ p := by
              rintro rfl
              rw [hsteals.1] at hm
              exact absurd hm (by simp)
            rw [List.filter_cons_of_pos (by simpa using hne), ← he1, Nat.add_comm 1, List.take_succ_cons]
            rfl
          · rfl
      · have h0 : e = 0 := by
          rw [he]
          have : min x.wanted (x.state.device d).spare = 0 := by omega
          rw [this, Nat.min_zero]
        have hnot : ¬ (0 < x.wanted ∧ decide (o = p) = mine ∧ x.state.claimTakable d = true) :=
          fun ⟨hw, _, hs⟩ => ht ⟨hw, State.claimTakable_iff.mp hs⟩
        rw [if_neg hnot]
        refine (ih x e (by rw [h0]; omega)).congr rfl ?_
        rw [h0]
        unfold Device.losses
        split <;> rfl
    · have hnot : ¬ (0 < x.wanted ∧ decide (o = p) = mine ∧ x.state.claimTakable d = true) := fun h => hm h.2.1
      rw [if_neg hnot]
      refine (ih x e (by rw [he, List.countP_cons_of_neg (by simpa using hm)])).congr rfl ?_
      unfold Device.losses
      split
      · next hsteals =>
        have heq : o = p := by
          rw [hsteals.1] at hm
          simpa using hm
        rw [List.filter_cons_of_neg (by simpa using heq)]
      · rfl

/-! ### A step on one device -/

/-- What a step of the sourcing does at device d: it asks for the lesser of what the device gives and of what is
wanted, changes the claims of d as `claims` says, and leaves the others' claims. -/
structure Sourcing.StepAt (give : Device → List Nat → Nat) (losses : Device → List Nat → Nat → List Nat)
    (claims : List Nat → Nat → List Nat → Prop) (d : Fin 6) (x y : Sourcing) : Prop where
  moves : x.Moves y (gotFrom d (min (give (x.state.device d) (x.state.claimsOf d)) x.wanted))
    (losses (x.state.device d) (x.state.claimsOf d) (min (give (x.state.device d) (x.state.claimsOf d)) x.wanted))
  here : claims (x.state.claimsOf d) (min (give (x.state.device d) (x.state.claimsOf d)) x.wanted) (y.state.claimsOf d)
  others : ∀ c : Fin 6, c ≠ d → y.state.claimsOf c = x.state.claimsOf c

/-- Steps 1 and 3 at device d. -/
theorem Sourcing.claimsStep_at (p : Nat) (mine : Bool) (d : Fin 6) (x : Sourcing) : Sourcing.StepAt
    (fun r l => min (l.countP fun o => decide (o = p) == mine) r.spare) (fun r l k => r.losses p mine l k)
    (fun l k l' => l'.filter (fun o => decide (o = p) == mine) = (l.filter fun o => decide (o = p) == mine).drop k ∧
      l'.filter (fun o => decide (o = p) != mine) = l.filter fun o => decide (o = p) != mine)
    d x (x.claimsStep p mine d) := by
  have hgive : min (min ((x.state.claimsOf d).countP fun o => decide (o = p) == mine) (x.state.device d).spare) x.wanted =
      min ((x.state.claimsOf d).countP fun o => decide (o = p) == mine) (min x.wanted (x.state.device d).spare) := by omega
  have hmoves := Sourcing.takeClaims_moves d p mine (x.state.claimsOf d) x _ rfl
  obtain ⟨-, -, -, -, hmatch, hrest⟩ := Sourcing.takeClaims_takes d p mine (x.state.claimsOf d) x _ _ _ rfl rfl
  rw [Device.adds_spare] at hmatch
  have hlmc : (x.takeClaims d p mine (x.state.claimsOf d)).1.state.lmc = x.state.lmc := Sourcing.takeClaims_lmc
  have hset (u : Sourcing) (l : List Nat) : u.Moves { u with state := u.state.setClaims d l } (fun _ => 0) [] :=
    .still rfl rfl rfl rfl rfl
  have hunfold : x.claimsStep p mine d = { (x.takeClaims d p mine (x.state.claimsOf d)).1 with
      state := (x.takeClaims d p mine (x.state.claimsOf d)).1.state.setClaims d
        (x.takeClaims d p mine (x.state.claimsOf d)).2 } := rfl
  rw [hunfold]
  generalize x.takeClaims d p mine (x.state.claimsOf d) = r at hmoves hmatch hrest hlmc ⊢
  have hsame : (r.1.state.setClaims d r.2).claimsOf d = r.2 := Vector.getElem_set_self d.isLt
  refine ⟨?_, ?_, fun c hc => ?_⟩
  · rw [hgive]
    exact (hmoves.trans (hset r.1 r.2)).congr rfl (List.append_nil _).symm
  · rw [hgive, hsame]
    exact ⟨hmatch, hrest⟩
  · refine (Vector.getElem_set_ne d.isLt c.isLt fun e => hc (Fin.ext e.symm)).trans ?_
    rw [hlmc]
    rfl

/-- What a READY LOCK gives of its unclaimed stock. -/
def Device.stock (r : Device) (l : List Nat) : Nat :=
  if r.isLock = true ∧ r.faulted = false then r.occupancy - l.length - r.ejectPending else 0

theorem Device.isLock_present (h : r.isLock = true) : r.present = true := by
  unfold Device.isLock at h
  unfold Device.present
  cases hd : r.definition with
  | none => simp [hd] at h
  | some x => rfl

theorem Device.stock_eq (r : Device) (l : List Nat) : r.stock l = if r.isLock then r.spare - l.length else 0 := by
  unfold Device.stock Device.spare
  by_cases hl : r.isLock = true
  · rw [if_pos hl]
    cases hf : r.faulted with
    | true => simp
    | false =>
      rw [if_pos ⟨hl, rfl⟩, if_pos ⟨Device.isLock_present hl, rfl⟩]
      omega
  · rw [if_neg hl, if_neg fun h => hl h.1]

/-- Step 2 at device d. -/
theorem Sourcing.stockStep_at (d : Fin 6) (x : Sourcing) :
    Sourcing.StepAt Device.stock (fun _ _ _ => []) (fun l _ l' => l' = l) d x (x.stockStep d) := by
  have hclaims : (x.stockStep d).state.lmc = x.state.lmc := by
    unfold Sourcing.stockStep
    dsimp only
    split
    · simp [Sourcing.request]
    · rfl
  refine ⟨?_, by rw [State.claimsOf, hclaims]; rfl, fun c _ => by rw [State.claimsOf, hclaims]; rfl⟩
  unfold Sourcing.stockStep
  dsimp only
  split
  · next h =>
    obtain ⟨hlock, hf, hpos⟩ := h
    have hstock := Device.stock_eq (x.state.device d) (x.state.claimsOf d)
    rw [if_pos hlock] at hstock
    have hgive : (x.state.device d).stock (x.state.claimsOf d) = (x.state.device d).occupancy -
        (x.state.claimsOf d).length - (x.state.device d).ejectPending := if_pos ⟨hlock, hf⟩
    rw [← hgive] at hpos ⊢
    refine (x.request_moves d _).congr ?_ rfl
    rw [Device.adds_spare]
    congr 1
    omega
  · next h =>
    have hzero : min ((x.state.device d).stock (x.state.claimsOf d)) x.wanted = 0 := by
      unfold Device.stock
      split
      · next hready =>
        obtain ⟨hlock, hf⟩ := hready
        have hno : ¬ 0 < min x.wanted ((x.state.device d).occupancy - (x.state.claimsOf d).length -
            (x.state.device d).ejectPending) := fun hpos => h ⟨hlock, hf, hpos⟩
        omega
      · exact Nat.zero_min _
    rw [hzero, gotFrom_zero]
    exact .refl x

/-- Step 4. -/
theorem Sourcing.troughStep_moves (x : Sourcing) :
    x.Moves x.troughStep (gotFrom 0 (min x.wanted (x.state.device 0).spare)) [] ∧
    x.troughStep.state.lmc = x.state.lmc := by
  unfold Sourcing.troughStep
  split
  · refine ⟨?_, by simp [Sourcing.request]⟩
    rw [← Device.adds_spare]
    exact x.request_moves 0 x.wanted
  · next h =>
    have h0 : x.wanted = 0 := Nat.eq_zero_of_not_pos h
    rw [h0, Nat.zero_min, gotFrom_zero]
    exact ⟨.refl x, rfl⟩

/-! ### A step on the devices in turn -/

/-- The balls got from each device when w are asked of those listed in turn, each up to its `give`. -/
def sharesOf (give : Fin 6 → Nat) : Nat → List (Fin 6) → Fin 6 → Nat
  | _, [], _ => 0
  | w, d :: ds, c => if c = d then min (give d) w else sharesOf give (w - give d) ds c

theorem sharesOf_congr {give give' : Fin 6 → Nat} {ds : List (Fin 6)} (h : ∀ d ∈ ds, give d = give' d) :
    sharesOf give w ds = sharesOf give' w ds := by
  induction ds generalizing w with
  | nil => rfl
  | cons d ds ih =>
    funext c
    rw [sharesOf, sharesOf, h d List.mem_cons_self, ih fun e he => h e (List.mem_cons_of_mem _ he)]

theorem sharesOf_not_mem {give : Fin 6 → Nat} {ds : List (Fin 6)} (h : c ∉ ds) : sharesOf give w ds c = 0 := by
  induction ds generalizing w with
  | nil => rfl
  | cons d ds ih =>
    rw [sharesOf, if_neg fun e : c = d => h (e ▸ List.mem_cons_self)]
    exact ih fun hc => h (List.mem_cons_of_mem _ hc)

/-- The devices 1 to 5 in turn give what they give in number order, the trough giving nothing. -/
theorem sharesOf_lockDevices {give : Fin 6 → Nat} (h : give 0 = 0) (d : Fin 6) :
    sharesOf give w lockDevices d = givenInOrder w give d := by
  fin_cases d <;> simp [sharesOf, lockDevices, givenInOrder, List.finRange_succ, h] <;> omega

/-- A step made on devices in turn: each device gives what it gives in its turn, and its claims change as they do. -/
theorem Sourcing.fold_moves {give : Device → List Nat → Nat} {losses : Device → List Nat → Nat → List Nat}
    {claims : List Nat → Nat → List Nat → Prop} {f : Sourcing → Fin 6 → Sourcing}
    (hf : ∀ x d, Sourcing.StepAt give losses claims d x (f x d)) (ds : List (Fin 6)) (hds : ds.Nodup) (x : Sourcing) :
    x.Moves (ds.foldl f x) (sharesOf (fun c => give (x.state.device c) (x.state.claimsOf c)) x.wanted ds)
      (ds.flatMap fun c => losses (x.state.device c) (x.state.claimsOf c)
        (sharesOf (fun c => give (x.state.device c) (x.state.claimsOf c)) x.wanted ds c)) ∧
    (∀ c ∈ ds, claims (x.state.claimsOf c) (sharesOf (fun c => give (x.state.device c) (x.state.claimsOf c)) x.wanted ds c)
      ((ds.foldl f x).state.claimsOf c)) ∧
    ∀ c, c ∉ ds → (ds.foldl f x).state.claimsOf c = x.state.claimsOf c := by
  induction ds generalizing x with
  | nil => exact ⟨.refl x, fun _ h => absurd h List.not_mem_nil, fun _ _ => rfl⟩
  | cons d ds ih =>
    obtain ⟨hd, hnodup⟩ := List.nodup_cons.mp hds
    obtain ⟨hmoves, hhere, hothers⟩ := hf x d
    obtain ⟨hrest, hclaims, hkept⟩ := ih hnodup (f x d)
    have hdev (c : Fin 6) (hc : c ∈ ds) : (f x d).state.device c = x.state.device c := by
      rw [hmoves.device c, gotFrom, if_neg fun e : c = d => hd (e ▸ hc), Device.asked_zero]
    have hcl (c : Fin 6) (hc : c ∈ ds) : (f x d).state.claimsOf c = x.state.claimsOf c :=
      hothers c fun e => hd (e ▸ hc)
    have hwanted : (f x d).wanted = x.wanted - give (x.state.device d) (x.state.claimsOf d) := by
      rw [hmoves.wanted, gotFrom_sum]
      omega
    have hshares : sharesOf (fun c => give ((f x d).state.device c) ((f x d).state.claimsOf c)) (f x d).wanted ds =
        sharesOf (fun c => give (x.state.device c) (x.state.claimsOf c))
          (x.wanted - give (x.state.device d) (x.state.claimsOf d)) ds := by
      rw [hwanted]
      exact sharesOf_congr fun c hc => by rw [hdev c hc, hcl c hc]
    rw [hshares] at hrest hclaims
    have hat (c : Fin 6) (hc : c ∈ ds) :
        sharesOf (fun c => give (x.state.device c) (x.state.claimsOf c)) x.wanted (d :: ds) c =
        sharesOf (fun c => give (x.state.device c) (x.state.claimsOf c))
          (x.wanted - give (x.state.device d) (x.state.claimsOf d)) ds c := if_neg fun e : c = d => hd (e ▸ hc)
    have hself : sharesOf (fun c => give (x.state.device c) (x.state.claimsOf c)) x.wanted (d :: ds) d =
        min (give (x.state.device d) (x.state.claimsOf d)) x.wanted := if_pos rfl
    refine ⟨(hmoves.trans hrest).congr ?_ ?_, fun c hc => ?_, fun c hc => ?_⟩
    · funext c
      by_cases hc : c = d
      · subst hc
        rw [hself, gotFrom, if_pos rfl, sharesOf_not_mem hd, Nat.add_zero]
      · rw [gotFrom, if_neg hc, Nat.zero_add]
        exact if_neg hc
    · rw [List.flatMap_cons, hself]
      congr 1
      refine List.flatMap_congr fun c hc => ?_
      rw [hat c hc, hdev c hc, hcl c hc]
    · rcases List.mem_cons.mp hc with rfl | hc
      · rw [hself, List.foldl_cons, hkept c hd]
        exact hhere
      · rw [hat c hc, List.foldl_cons, ← hcl c hc]
        exact hclaims c hc
    · rw [List.foldl_cons, hkept c fun hcd => hc (List.mem_cons_of_mem _ hcd),
        hothers c fun e => hc (e ▸ List.mem_cons_self)]

end

end Sys2Proof.Machine
end

section
/-! PROOFS. START_MULTIBALL: the four sources in their order, the claims and the locks they cost, the start (R135 to
R138): O43. -/

namespace Sys2Proof.Machine

/-! ### Own claims and others' claims in a list -/

section
variable {p : Nat} {l l' : List Nat} {k w : Nat} {give spec : Fin 6 → Nat}

theorem claims_own (p : Nat) : (fun o : Nat => decide (o = p) == true) = fun o => decide (o = p) :=
  funext fun _ => beq_true _

theorem claims_notOwn (p : Nat) : (fun o : Nat => decide (o = p) != true) = fun o => decide (o ≠ p) := by
  funext o; by_cases h : o = p <;> simp [h]

theorem claims_theirs (p : Nat) : (fun o : Nat => decide (o = p) == false) = fun o => decide (o ≠ p) := by
  funext o; by_cases h : o = p <;> simp [h]

theorem countP_own (p : Nat) (l : List Nat) : l.countP (fun o => decide (o = p) == true) = l.count p := by
  rw [claims_own, List.count]
  exact List.countP_congr fun o _ => by simp

/-- A list that loses its first k own claims and none of the others' is shorter by k. -/
theorem length_of_own_dropped (h : l'.filter (fun o => decide (o = p) == true) =
      (l.filter fun o => decide (o = p) == true).drop k)
    (h' : l'.filter (fun o => decide (o = p) != true) = l.filter fun o => decide (o = p) != true)
    (hk : k ≤ l.count p) : l'.length = l.length - k ∧ k ≤ l.length := by
  have hlen (m : List Nat) : m.length = (m.filter fun o => decide (o = p) == true).length +
      (m.filter fun o => decide (o = p) != true).length := by
    rw [claims_own, claims_notOwn]
    simpa using List.length_eq_length_filter_add (l := m) fun o => decide (o = p)
  have hcount : (l.filter fun o => decide (o = p) == true).length = l.count p := by
    rw [← List.countP_eq_length_filter, countP_own]
  have h1 := hlen l'
  rw [h, h', List.length_drop, hcount] at h1
  have h2 := hlen l
  rw [hcount] at h2
  omega

theorem mem_lockDevices {d : Fin 6} : d ∈ lockDevices ↔ d ≠ 0 := by
  fin_cases d <;> simp [lockDevices]

theorem nodup_lockDevices : lockDevices.Nodup := by decide

/-- The devices 1 to 5 give in turn what the balls asked in number order come to. -/
theorem sharesOf_givenInOrder (h0 : spec 0 = 0) (h : ∀ d, d ≠ 0 → give d = spec d) :
    sharesOf give w lockDevices = givenInOrder w spec := by
  rw [sharesOf_congr fun d hd => h d (mem_lockDevices.mp hd)]
  exact funext fun d => sharesOf_lockDevices h0 d

theorem givenInOrder_le (w : Nat) (spec : Fin 6 → Nat) (d : Fin 6) : givenInOrder w spec d ≤ spec d := Nat.min_le_left ..

end

/-! ### The four sources (R136) -/

/-- The balls the devices 1 to 5 can be asked for. -/
def State.lockRoom (s : State) (d : Fin 6) : Nat := if d = 0 then 0 else (s.device d).spare

/-- The claims of other players than p in device d, oldest first. -/
def State.theirClaims (s : State) (p : Nat) (d : Fin 6) : List Nat := (s.claimsOf d).filter fun o => decide (o ≠ p)

/-- What the own claims of player p give of w balls. -/
def State.fromOwn (s : State) (p w : Nat) : Fin 6 → Nat :=
  givenInOrder w fun c => min ((s.claimsOf c).count p) (s.lockRoom c)

/-- What the stock of READY LOCKs gives of w balls. -/
def State.fromStock (s : State) (w : Nat) : Fin 6 → Nat :=
  givenInOrder w fun c => if (s.device c).isLock then s.lockRoom c - (s.claimsOf c).length else 0

/-- What the others' claims give of w balls once `own` and `stock` have been given. -/
def State.fromOthers (s : State) (p w : Nat) (own stock : Fin 6 → Nat) : Fin 6 → Nat :=
  givenInOrder w fun c => min (s.theirClaims p c).length (s.lockRoom c - own c - stock c)

section
variable {s t u : State} {p n w : Nat} {own stock others : Fin 6 → Nat} {d : Fin 6}

/-- The sourcing after the step that asks for player p's own claims. -/
theorem State.source_own (hown : own = s.fromOwn p w) (x : Sourcing)
    (hx : x = lockDevices.foldl (Sourcing.claimsStep p true) ⟨s, w, 0⟩) :
    (⟨s, w, 0⟩ : Sourcing).Moves x own [] ∧
    (∀ d, d ≠ 0 → (x.state.claimsOf d).length = (s.claimsOf d).length - own d ∧ own d ≤ (s.claimsOf d).length) ∧
    ∀ d, (x.state.claimsOf d).filter (fun o => decide (o ≠ p)) = s.theirClaims p d := by
  obtain ⟨hmoves, hclaims, hkept⟩ := Sourcing.fold_moves (f := Sourcing.claimsStep p true)
    (fun x d => x.claimsStep_at p true d) lockDevices nodup_lockDevices ⟨s, w, 0⟩
  have hshares : sharesOf (fun c => min ((s.claimsOf c).countP fun o => decide (o = p) == true) (s.device c).spare) w
      lockDevices = own := by
    rw [hown, State.fromOwn]
    refine sharesOf_givenInOrder (by simp [State.lockRoom]) fun d hd => ?_
    rw [countP_own, State.lockRoom, if_neg hd]
  dsimp only at hmoves hclaims hkept
  rw [hshares] at hmoves hclaims
  rw [← hx] at hmoves hclaims hkept
  refine ⟨hmoves.congr rfl ?_, fun d hd => ?_, fun d => ?_⟩
  · exact (List.flatMap_eq_nil_iff.mpr fun c _ => if_neg (by simp)).symm
  · obtain ⟨hdrop, hrest⟩ := hclaims d (mem_lockDevices.mpr hd)
    refine length_of_own_dropped hdrop hrest ?_
    rw [hown]
    exact (givenInOrder_le ..).trans (Nat.min_le_left ..)
  · by_cases hd : d = 0
    · rw [hkept d fun h => mem_lockDevices.mp h hd]
      rfl
    · obtain ⟨-, hrest⟩ := hclaims d (mem_lockDevices.mpr hd)
      rw [claims_notOwn] at hrest
      exact hrest

/-- The sourcing after the step that asks for the unclaimed stock. -/
theorem State.source_stock (hown : own = s.fromOwn p w) (hstock : stock = s.fromStock (w - ∑ c, own c)) (x : Sourcing)
    (hx : x = lockDevices.foldl Sourcing.stockStep (lockDevices.foldl (Sourcing.claimsStep p true) ⟨s, w, 0⟩)) :
    (⟨s, w, 0⟩ : Sourcing).Moves x (fun c => own c + stock c) [] ∧
    ∀ d, (x.state.claimsOf d).filter (fun o => decide (o ≠ p)) = s.theirClaims p d := by
  obtain ⟨y, hy⟩ : ∃ y, y = lockDevices.foldl (Sourcing.claimsStep p true) ⟨s, w, 0⟩ := ⟨_, rfl⟩
  obtain ⟨hfirst, hlen, htheirs⟩ := State.source_own hown y hy
  rw [← hy] at hx
  obtain ⟨hmoves, hclaims, hkept⟩ := Sourcing.fold_moves (f := Sourcing.stockStep)
    (fun x d => x.stockStep_at d) lockDevices nodup_lockDevices y
  have hshares : sharesOf (fun c => (y.state.device c).stock (y.state.claimsOf c)) y.wanted lockDevices = stock := by
    have hwanted : y.wanted = w - ∑ c, own c := hfirst.wanted
    rw [hstock, State.fromStock, hwanted]
    refine sharesOf_givenInOrder (by simp [State.lockRoom]) fun d hd => ?_
    obtain ⟨hlen, hle⟩ := hlen d hd
    have hdev : y.state.device d = (s.device d).asked (own d) := hfirst.device d
    rw [Device.stock_eq, hdev, (Device.asked_steals _ _).2, Device.asked_spare, hlen, State.lockRoom, if_neg hd]
    split
    · omega
    · rfl
  rw [hshares] at hmoves
  rw [← hx] at hmoves hclaims hkept
  refine ⟨(hfirst.trans hmoves).congr rfl ?_, fun d => ?_⟩
  · exact (List.flatMap_eq_nil_iff.mpr fun c _ => rfl).symm
  · have hsame : x.state.claimsOf d = y.state.claimsOf d := by
      by_cases hd : d = 0
      · exact hkept d fun h => mem_lockDevices.mp h hd
      · exact hclaims d (mem_lockDevices.mpr hd)
    rw [hsame, htheirs d]

/-- The owners who lose a made lock at the sourcing: those of the others' claims taken from STEALABLE LOCKs. -/
def State.stolenFrom (s : State) (p : Nat) (others : Fin 6 → Nat) : List Nat :=
  lockDevices.flatMap fun c => if (s.device c).steals then (s.theirClaims p c).take (others c) else []

/-- The sourcing after the step that asks for the others' claims. -/
theorem State.source_others (hown : own = s.fromOwn p w) (hstock : stock = s.fromStock (w - ∑ c, own c))
    (hothers : others = s.fromOthers p (w - ∑ c, own c - ∑ c, stock c) own stock) (x : Sourcing)
    (hx : x = lockDevices.foldl (Sourcing.claimsStep p false) (lockDevices.foldl Sourcing.stockStep
      (lockDevices.foldl (Sourcing.claimsStep p true) ⟨s, w, 0⟩))) :
    (⟨s, w, 0⟩ : Sourcing).Moves x (fun c => own c + stock c + others c) (s.stolenFrom p others) ∧
    ∀ d, (x.state.claimsOf d).filter (fun o => decide (o ≠ p)) = (s.theirClaims p d).drop (others d) := by
  obtain ⟨y, hy⟩ : ∃ y, y = lockDevices.foldl Sourcing.stockStep
    (lockDevices.foldl (Sourcing.claimsStep p true) ⟨s, w, 0⟩) := ⟨_, rfl⟩
  obtain ⟨hfirst, htheirs⟩ := State.source_stock hown hstock y hy
  rw [← hy] at hx
  obtain ⟨hmoves, hclaims, hkept⟩ := Sourcing.fold_moves (f := Sourcing.claimsStep p false)
    (fun x d => x.claimsStep_at p false d) lockDevices nodup_lockDevices y
  have hdev (d : Fin 6) : y.state.device d = (s.device d).asked (own d + stock d) := hfirst.device d
  have hshares : sharesOf (fun c => min ((y.state.claimsOf c).countP fun o => decide (o = p) == false)
      (y.state.device c).spare) y.wanted lockDevices = others := by
    have hwanted : y.wanted = w - ∑ c, own c - ∑ c, stock c := by
      rw [hfirst.wanted, Finset.sum_add_distrib, Nat.sub_add_eq]
    rw [hothers, State.fromOthers, hwanted]
    refine sharesOf_givenInOrder (by simp [State.lockRoom]) fun d hd => ?_
    rw [List.countP_eq_length_filter, claims_theirs, htheirs d, hdev d, Device.asked_spare, State.lockRoom, if_neg hd,
      Nat.sub_add_eq]
  rw [hshares] at hmoves hclaims
  rw [← hx] at hmoves hclaims hkept
  have hzero : others 0 = 0 := by
    rw [hothers]
    exact Nat.le_zero.mp ((givenInOrder_le ..).trans (by simp [State.lockRoom]))
  refine ⟨(hfirst.trans hmoves).congr rfl ?_, fun d => ?_⟩
  · rw [List.nil_append]
    refine List.flatMap_congr fun c _ => ?_
    rw [Device.losses, htheirs c, hdev c, (Device.asked_steals _ _).1]
    simp only [true_and]
  · by_cases hd : d = 0
    · rw [hkept d fun h => mem_lockDevices.mp h hd, htheirs d, hd, hzero, List.drop_zero]
    · obtain ⟨hdrop, -⟩ := hclaims d (mem_lockDevices.mpr hd)
      rw [claims_theirs, htheirs d] at hdrop
      exact hdrop

/-- The whole sourcing of w balls for player p (R136). -/
theorem State.source_gives (hown : own = s.fromOwn p w) (hstock : stock = s.fromStock (w - ∑ c, own c))
    (hothers : others = s.fromOthers p (w - ∑ c, own c - ∑ c, stock c) own stock) :
    (⟨s, w, 0⟩ : Sourcing).Moves (s.source p w) (fun c => own c + stock c + others c +
      gotFrom 0 (min (w - ∑ c, own c - ∑ c, stock c - ∑ c, others c) (s.device 0).spare) c) (s.stolenFrom p others) ∧
    ∀ d, (s.source p w).state.claimsOf d = (s.theirClaims p d).drop (others d) := by
  obtain ⟨x, hx⟩ : ∃ x, x = lockDevices.foldl (Sourcing.claimsStep p false) (lockDevices.foldl Sourcing.stockStep
    (lockDevices.foldl (Sourcing.claimsStep p true) ⟨s, w, 0⟩)) := ⟨_, rfl⟩
  obtain ⟨hfirst, htheirs⟩ := State.source_others hown hstock hothers x hx
  obtain ⟨hlast, hlmc⟩ := x.troughStep_moves
  have hwanted : x.wanted = w - ∑ c, own c - ∑ c, stock c - ∑ c, others c := by
    rw [hfirst.wanted, Finset.sum_add_distrib, Finset.sum_add_distrib, Nat.sub_add_eq, Nat.sub_add_eq]
  have hspare : (x.state.device 0).spare = (s.device 0).spare := by
    have hdev : x.state.device 0 = (s.device 0).asked (own 0 + stock 0 + others 0) := hfirst.device 0
    have hzero : own 0 + stock 0 + others 0 = 0 := by
      have h1 : own 0 ≤ 0 := hown ▸ (givenInOrder_le ..).trans (by simp [State.lockRoom])
      have h2 : stock 0 ≤ 0 := hstock ▸ (givenInOrder_le ..).trans (by simp [State.lockRoom])
      have h3 : others 0 ≤ 0 := hothers ▸ (givenInOrder_le ..).trans (by simp [State.lockRoom])
      omega
    rw [hdev, hzero, Device.asked_zero]
  have hfinal : s.source p w = { x.troughStep with state := { x.troughStep.state with lmc := { x.troughStep.state.lmc with
      claims := mapTable (fun l : List Nat => l.filter fun o => decide (o ≠ p)) x.troughStep.state.lmc.claims } } } := by
    rw [hx]; rfl
  rw [hwanted, hspare] at hlast
  rw [hfinal]
  have hset (v : Sourcing) (l : Vector (List Nat) 6) : v.Moves { v with state := { v.state with lmc :=
      { v.state.lmc with claims := l } } } (fun _ => 0) [] := .still rfl rfl rfl rfl rfl
  refine ⟨((hfirst.trans hlast).trans (hset _ _)).congr rfl (by simp), fun d => ?_⟩
  rw [← htheirs d, State.claimsOf, State.claimsOf, ← hlmc]
  exact mapTable_getElem ..

end

end Sys2Proof.Machine
end

section
/-! PROOFS. START_MULTIBALL as it is answered (R135 to R138): O43. -/

namespace Sys2Proof.Machine

section
variable {s t u : State} {p n w k m : Nat} {own stock others : Fin 6 → Nat} {d : Fin 6} {q r : Player} {z : Source}

/-! ### The completion of the start (R137) -/

theorem State.completeStart_ntu (s : State) (p : Nat) : (s.completeStart p).ntu = s.ntu.raise .multiballStart := by
  have hon : (s.multiballOn p).ntu = s.ntu := by simp [State.multiballOn]
  have hgive : (if 0 < s.lmc.params.mbSaveTicks then (s.multiballOn p).giveBallSave s.lmc.params.mbSaveTicks
      else s.multiballOn p).ntu = s.ntu := by
    split
    · exact (by simp : ((s.multiballOn p).giveBallSave s.lmc.params.mbSaveTicks).ntu = (s.multiballOn p).ntu).trans hon
    · exact hon
  rw [State.completeStart_eq, ← hgive]
  rfl

theorem State.completeStart_notice (s : State) (p : Nat) (z : Source) : (s.completeStart p).hasNotice z =
    (s.hasNotice z || decide (z = .multiballStart)) := by
  rw [← State.hasNotice_raise]
  rw [State.hasNotice, State.completeStart_ntu]
  rfl

theorem State.completeStart_ptb (s : State) (p : Nat) : (s.completeStart p).ptb =
    (s.modifyPlayer p fun r => { r with locksMade := 0, locksLit := 0 }).ptb := by
  rw [State.completeStart_eq]
  split <;> simp [State.multiballOn]

theorem State.completeStart_lmc (s : State) (p : Nat) : (s.completeStart p).lmc =
    { s.lmc with multiball := true, jackpot := s.lmc.params.jackpotBase.worth } := by
  rw [State.completeStart_eq]
  split <;> simp [State.multiballOn]

/-- The ball save of a multiball start: none where none is configured, else the timer's course of R115. -/
theorem State.completeStart_tmu (s : State) (p : Nat) :
    (s.lmc.params.mbSaveTicks = 0 → (s.completeStart p).tmu = s.tmu) ∧
    (0 < s.lmc.params.mbSaveTicks → ∃ v : State, v.tmu = s.tmu ∧
      (s.completeStart p).tmu = (v.giveBallSave s.lmc.params.mbSaveTicks).tmu) := by
  have hon : (s.multiballOn p).tmu = s.tmu := by simp [State.multiballOn]
  rw [State.completeStart_eq]
  refine ⟨fun h => ?_, fun h => ⟨s.multiballOn p, hon, ?_⟩⟩
  · rw [if_neg (by omega)]
    exact (State.raise_tmu ..).trans hon
  · rw [if_pos h]
    exact State.raise_tmu ..

/-! ### The losses counted -/

theorem State.theirClaims_owner (s : State) (p : Nat) (d : Fin 6) (l : List Nat) (h : l.Sublist (s.theirClaims p d)) :
    l.count p = 0 := by
  refine List.count_eq_zero.mpr fun hp => ?_
  have hmem := (List.mem_filter.mp (h.subset hp)).2
  simp at hmem

theorem State.stolenFrom_own (s : State) (p : Nat) (others : Fin 6 → Nat) : (s.stolenFrom p others).count p = 0 := by
  refine List.count_eq_zero.mpr fun hp => ?_
  obtain ⟨c, -, hc⟩ := List.mem_flatMap.mp hp
  split at hc
  · exact absurd hc (List.count_eq_zero.mp (s.theirClaims_owner p c _ (List.take_sublist ..)))
  · exact absurd hc List.not_mem_nil

/-- The made locks a player loses: one for each of the player's claims taken from a STEALABLE LOCK. -/
theorem State.stolenFrom_count (s : State) (p m : Nat) (others : Fin 6 → Nat) (h0 : others 0 = 0) :
    (s.stolenFrom p others).count m = ((List.finRange 6).map fun c =>
      if (s.device c).steals then ((s.theirClaims p c).take (others c)).count m else 0).sum := by
  have hpart (c : Fin 6) : (if (s.device c).steals then (s.theirClaims p c).take (others c) else []).count m =
      if (s.device c).steals then ((s.theirClaims p c).take (others c)).count m else 0 := by split <;> rfl
  have htrough : (if (s.device 0).steals then ((s.theirClaims p 0).take (others 0)).count m else 0) = 0 := by
    rw [h0]; split <;> rfl
  rw [State.stolenFrom, List.count_flatMap]
  have hall : List.finRange 6 = 0 :: lockDevices := by decide
  rw [hall, List.map_cons, List.sum_cons, htrough, Nat.zero_add]
  exact congrArg List.sum (List.map_congr_left fun c _ => hpart c)

theorem State.stolenFrom_any (s : State) (p : Nat) (others : Fin 6 → Nat) (h0 : others 0 = 0)
    (hle : ∀ c, others c ≤ (s.theirClaims p c).length) : (!(s.stolenFrom p others).isEmpty) =
      (List.finRange 6).any fun c => (s.device c).steals && decide (others c ≠ 0) := by
  rw [Bool.eq_iff_iff, Bool.not_eq_true', List.isEmpty_eq_false_iff, List.any_eq_true]
  constructor
  · intro hne
    obtain ⟨o, ho⟩ := List.exists_mem_of_ne_nil _ hne
    obtain ⟨c, -, hc⟩ := List.mem_flatMap.mp ho
    split at hc
    · next hs =>
      refine ⟨c, List.mem_finRange c, by simp only [hs, Bool.true_and, decide_eq_true_eq]; rintro h; simp [h] at hc⟩
    · exact absurd hc List.not_mem_nil
  · rintro ⟨c, -, hc⟩
    obtain ⟨hs, hn⟩ := Bool.and_eq_true_iff.mp hc
    have hn := of_decide_eq_true hn
    have hc0 : c ≠ 0 := by rintro rfl; exact hn h0
    have hpos : 0 < ((s.theirClaims p c).take (others c)).length := by
      rw [List.length_take]
      have := hle c
      omega
    obtain ⟨o, ho⟩ := List.exists_mem_of_ne_nil _ (List.ne_nil_of_length_pos hpos)
    exact List.ne_nil_of_mem (List.mem_flatMap.mpr ⟨c, mem_lockDevices.mpr hc0, by rw [if_pos hs]; exact ho⟩)

/-! ### The request (R138) -/

theorem exec_startMultiball_refused (hw : s.glk.waiting = false)
    (h : s.gpc.game ≠ .inPlay ∨ s.gpc.tilted = true ∨ s.lmc.multiball = true) :
    exec (.startMultiball []) s = .next (s.answer 0x34 .wrongState []) := by
  refine takeRequest_answers hw ?_
  rw [Machine.startMultiball, if_neg]
  · rfl
  · rintro ⟨hscores, hoff⟩
    obtain ⟨hgame, htilt⟩ := State.scores_iff.mp hscores
    rcases h with h | h | h
    · exact h hgame
    · rw [h] at htilt; cases htilt
    · rw [h] at hoff; cases hoff

/-- The balls asked for at a multiball start, by device: the three sources of the locks, and the trough for the rest. -/
def State.startTotal (own stock others : Fin 6 → Nat) (last : Nat) (d : Fin 6) : Nat :=
  if d = 0 then last else own d + stock d + others d

/-- What START_MULTIBALL for player n + 1 makes of the devices, the claims, the locks and the answer (R136, R137). -/
structure State.StartsMultiball (s t : State) (n : Nat) (r : Player) (others total : Fin 6 → Nat) : Prop where
  device : ∀ d : Fin 6, t.device d = (s.device d).asked (total d)
  notice : ∀ d : Fin 6, total d ≠ 0 → (s.device d).ejectPending = 0 → t.hasNotice (.ejectReq d) = true
  claims : ∀ d : Fin 6, t.lmc.claims[d] = (s.theirClaims (n + 1) d).drop (others d)
  balls : { t.bdt with devices := s.bdt.devices } = s.bdt
  values : { t.ptb with players := s.ptb.players } = s.ptb
  player : t.ptb.players[n]? = some { r with locksMade := 0, locksLit := 0 }
  losers : ∀ (m : Nat) (q : Player), m ≠ n → s.ptb.players[m]? = some q → t.ptb.players[m]? =
    some { q with locksMade := q.locksMade - (s.stolenFrom (n + 1) others).count (m + 1) }
  lockLost : t.hasNotice .lockLost = (s.hasNotice .lockLost || !(s.stolenFrom (n + 1) others).isEmpty)

theorem State.startMultiball_starts {last : Nat} (hr : s.ptb.players[n]? = some r) (hw : w = s.ballsWanted)
    (hown : own = s.fromOwn (n + 1) w) (hstock : stock = s.fromStock (w - ∑ c, own c))
    (hothers : others = s.fromOthers (n + 1) (w - ∑ c, own c - ∑ c, stock c) own stock)
    (hlast : last = min (w - ∑ c, own c - ∑ c, stock c - ∑ c, others c) (s.device 0).spare) :
    (s.startMultiball (n + 1)).2 = ∑ c, own c + ∑ c, stock c + ∑ c, others c + last ∧
    s.StartsMultiball (s.startMultiball (n + 1)).1 n r others (State.startTotal own stock others last) := by
  obtain ⟨hmoves, hclaims⟩ := State.source_gives hown hstock hothers
  rw [← hlast] at hmoves
  have htotal : (fun c => own c + stock c + others c + gotFrom 0 last c) = State.startTotal own stock others last := by
    funext c
    unfold State.startTotal gotFrom
    by_cases hc : c = 0
    · have h1 : own c ≤ 0 := by rw [hown]; exact (givenInOrder_le ..).trans (by simp [State.lockRoom, hc])
      have h2 : stock c ≤ 0 := by rw [hstock]; exact (givenInOrder_le ..).trans (by simp [State.lockRoom, hc])
      have h3 : others c ≤ 0 := by rw [hothers]; exact (givenInOrder_le ..).trans (by simp [State.lockRoom, hc])
      rw [if_pos hc, if_pos hc]
      omega
    · rw [if_neg hc, if_neg hc, Nat.add_zero]
  have hobtained := hmoves.obtained
  rw [Finset.sum_add_distrib, Finset.sum_add_distrib, Finset.sum_add_distrib, gotFrom_sum] at hobtained
  rw [htotal] at hmoves
  have hstart : s.startMultiball (n + 1) =
      ((s.source (n + 1) w).state.completeStart (n + 1), (s.source (n + 1) w).obtained) := by
    rw [State.startMultiball, hw]
  rw [hstart]
  refine ⟨by rw [hobtained]; exact Nat.zero_add _, ?_⟩
  generalize s.source (n + 1) w = x at hmoves hclaims ⊢
  have hmine : x.state.ptb.players[n]? = some r := by
    rw [hmoves.players, hr, State.stolenFrom_own]
    rfl
  have hbdt : (x.state.completeStart (n + 1)).bdt = x.state.bdt := by simp
  have hptb : (x.state.completeStart (n + 1)).ptb = (x.state.withPlayer n { r with locksMade := 0, locksLit := 0 }).ptb := by
    rw [State.completeStart_ptb, State.modifyPlayer_present _ hmine]
  refine ⟨fun d => ?_, fun d hd h0 => ?_, fun d => ?_, ?_, ?_, ?_, fun m q hm hq => ?_, ?_⟩
  · rw [State.device, hbdt]
    exact hmoves.device d
  · rw [State.completeStart_notice, hmoves.notice d hd h0]
    rfl
  · rw [State.completeStart_lmc]
    exact hclaims d
  · rw [hbdt]
    exact hmoves.balls
  · rw [hptb]
    exact hmoves.values
  · rw [hptb]
    exact State.withPlayer_same _ hmine
  · rw [hptb]
    have hlost := hmoves.players m
    dsimp only at hlost
    rw [hq] at hlost
    exact (State.withPlayer_others _ hm).trans hlost
  · rw [State.completeStart_notice, hmoves.lockLost]
    exact Bool.or_false _

/-- What the start leaves alone, and the ball save it gives (R115, R137). -/
theorem State.startMultiball_others (s : State) (p : Nat) :
    (s.startMultiball p).1.lmc.params = s.lmc.params ∧
    (s.startMultiball p).1.lmc.jackpot = s.lmc.params.jackpotBase.worth ∧
    (s.startMultiball p).1.hasNotice .multiballStart = true ∧
    (s.lmc.params.mbSaveTicks = 0 → (s.startMultiball p).1.tmu = s.tmu) ∧
    (0 < s.lmc.params.mbSaveTicks → ∃ v : State, v.tmu = s.tmu ∧
      (s.startMultiball p).1.tmu = (v.giveBallSave s.lmc.params.mbSaveTicks).tmu) := by
  have hsource := s.source_sameButBalls p s.ballsWanted
  have hparams : (s.source p s.ballsWanted).state.lmc.params = s.lmc.params := by rw [hsource.lmc]
  have htmu := hsource.tmu
  rw [show (s.startMultiball p).1 = (s.source p s.ballsWanted).state.completeStart p from rfl]
  generalize (s.source p s.ballsWanted).state = u at hparams htmu ⊢
  obtain ⟨hnone, hgiven⟩ := u.completeStart_tmu p
  rw [hparams, htmu] at hnone hgiven
  rw [State.completeStart_lmc, State.completeStart_notice, hparams]
  exact ⟨rfl, rfl, by simp, hnone, hgiven⟩

end

/-- Settles O43. -/
theorem startMultiballSourcesBalls : Obligations.StartMultiballSourcesBalls := by
  unfold Obligations.StartMultiballSourcesBalls
  refine fun s hw => ⟨exec_startMultiball_refused hw, fun n w own stock others last r dev room fromOwn fromStock fromOthers
    total theirs steals hgame htilt hoff hcur hr hwanted hall hown hstock hothers hlast => ?_⟩
  obtain rfl : dev = s.device := funext fun d => by
    obtain ⟨h, -⟩ := hall d
    exact h
  obtain rfl : theirs = s.theirClaims (n + 1) := funext fun d => by
    obtain ⟨-, h, -⟩ := hall d
    exact h
  obtain rfl : steals = fun d => (s.device d).steals := funext fun d => by
    obtain ⟨-, -, h, -⟩ := hall d
    exact Bool.eq_iff_iff.mpr (h.trans Device.steals_iff.symm)
  obtain rfl : room = s.lockRoom := funext fun d => by
    obtain ⟨-, -, -, h, -⟩ := hall d
    rw [h, State.lockRoom, Device.spare, Device.present]
    by_cases hd : d = 0
    · rw [if_pos hd, if_neg fun hne => hne.1 hd]
    · rw [if_neg hd]
      simp only [ne_eq, hd, not_false_eq_true, true_and]
  have hfo : fromOwn = s.fromOwn (n + 1) w := funext fun d => by
    obtain ⟨-, -, -, -, h, -⟩ := hall d
    exact h
  have hfs : fromStock = s.fromStock (w - own) := funext fun d => by
    obtain ⟨-, -, -, -, -, h, -⟩ := hall d
    exact h
  have hft : fromOthers = s.fromOthers (n + 1) (w - own - stock) fromOwn fromStock := funext fun d => by
    obtain ⟨-, -, -, -, -, -, h, -⟩ := hall d
    exact h
  have htotal : State.startTotal fromOwn fromStock fromOthers last = total := funext fun d => by
    obtain ⟨-, -, -, -, -, -, -, h⟩ := hall d
    exact h.symm
  have hspare : last = min (w - own - stock - others) (s.device 0).spare := by
    rw [hlast, Device.spare, Device.present]
    split
    · rfl
    · exact (Nat.min_zero _).symm
  have hw' : w = s.ballsWanted := hwanted
  have hle (c : Fin 6) : fromOthers c ≤ (s.theirClaims (n + 1) c).length := by
    rw [hft]
    exact (givenInOrder_le ..).trans (Nat.min_le_left ..)
  have hzero : fromOthers 0 = 0 := by
    rw [hft]
    exact Nat.le_zero.mp ((givenInOrder_le ..).trans (by simp [State.lockRoom]))
  rw [← Fin.sum_univ_def] at hown hstock hothers
  subst hown hstock hothers
  obtain ⟨hobtained, hstarts⟩ := State.startMultiball_starts hr hw' hfo hfs hft hspare
  obtain ⟨hparams, hjackpot, hnote, hsave0, hsaved⟩ := s.startMultiball_others (n + 1)
  obtain ⟨hmst, hgpc, -, hswi, hon⟩ := s.startMultiball_records (n + 1)
  have hexec := exec_startMultiball_starts hw hgame htilt hoff hcur
  rw [hobtained, ← hw'] at hexec
  rw [htotal] at hstarts
  refine ⟨_, hexec, fun d => ⟨hstarts.device d, hstarts.notice d, hstarts.claims d⟩, hstarts.balls, hstarts.values,
    hstarts.player, fun m q hm hq => ?_, ?_, hon, hparams, hjackpot, hsave0, fun k hk hticks => ?_, hnote, hgpc, hmst, hswi⟩
  · rw [hstarts.losers m q hm hq, State.stolenFrom_count _ _ _ _ hzero]
  · rw [hstarts.lockLost, State.stolenFrom_any _ _ _ hzero hle]
  · subst hticks
    obtain ⟨v, hv, ht⟩ := hsaved hk
    rw [ht]
    exact (State.giveBallSave_timers hv).symm

end Sys2Proof.Machine
end
